-- ==== Sys2Proof/Word.lean ====
section
/-!
DEFINITION. The words of the CL4824: bytes, node identifiers and the numbers of ports, shelves, domains and units
(spec/00_scope.md, Conventions).
-/

namespace Sys2Proof

/-- One byte of a control port or of a grade line. -/
abbrev Byte := BitVec 8

/-- A node identifier: 16 bits (00_scope.md, Node identifiers). -/
abbrev NodeId := BitVec 16

/-- RP0 to RP23. -/
abbrev PortId := Fin 24

/-- SP0 to SP47. -/
abbrev ShelfId := Fin 48

/-- D0 to D3. Domain "none" is `none` of `Option DomainId`. -/
abbrev DomainId := Fin 4

/-- Acquisition units 0 to 5 (R79). -/
abbrev UnitId := Fin 6

end Sys2Proof
end

