-- ==== Sys2Proof/Syntax.lean ====
section
/-!
DEFINITION. The commands: one constructor of `Instr` per row of spec/opcode_table.json, and the 38 request kinds as a
type of their own (R189), since a request also arrives as the bytes of a frame.
Field values of requests are the numbers their bytes carry (R190); a number out of range is a BAD_FIELD of the
request's own rule, so it is kept here as it is carried.
-/

namespace Sys2Proof

/-- The two control ports (R163). -/
inductive ControlPort where
  | cpa
  | cpb
  deriving DecidableEq, Repr

/-- The levels of the strap pins (R180): CTL_SEL (high is `true`), HOLD_MODE (HOLD is `true`), NID3 to NID0. -/
structure Straps where
  ctlSel   : Bool
  holdMode : Bool
  nid      : Fin 16
  deriving DecidableEq, Repr

/-- An exclusion cell's value (R134). -/
inductive CellValue where
  | allow
  | bar
  deriving DecidableEq, Repr

/-- The body of PORT SETUP after the port number (R189). -/
structure PortSetupBody where
  enabled      : Nat
  rate         : Nat
  lossDwell    : Nat
  band         : Nat
  gradeTimeout : Nat
  confirmCount : Nat
  deriving DecidableEq, Repr

/-- The body of DOMAIN SETUP after the domain number, in the field order of R49 (R189). -/
structure DomainSetupBody where
  minGrade       : Nat
  ungraded       : Nat
  assumed        : Nat
  revertive      : Nat
  holdOff        : Nat
  restoreTime    : Nat
  maxHops        : Nat
  truncatedTrace : Nat
  settleTime     : Nat
  learnTime      : Nat
  limit          : Nat
  holdoverGrade  : Nat
  freeRunGrade   : Nat
  deriving DecidableEq, Repr

/-- The body of OUTPUT SETUP after the shelf number (R189). -/
structure OutputSetupBody where
  enabled  : Nat
  mode     : Nat
  divide   : Nat
  invert   : Nat
  squelch  : Nat
  deriving DecidableEq, Repr

/-- The 38 request kinds with the fields of their bodies (R189). -/
inductive Request where
  | identity
  | nodeIdentifier (identifier : Nat)
  | release
  | restart
  | takeControl
  | yieldControl
  | yieldPermission (value : Nat)
  | portSetup (port : Nat) (body : PortSetupBody)
  | portStatus (port : Nat)
  | portGrade (port : Nat)
  | assignPort (port domain : Nat)
  | assignShelf (shelf domain : Nat)
  | pendingPartition
  | applyPartition
  | discardPartition
  | domainSetup (domain : Nat) (body : DomainSetupBody)
  | priorityList (domain : Nat) (ports : List Nat)
  | domainReport (domain : Nat)
  | eventReport (selector : Nat)
  | eventMask (selector mask : Nat)
  | lineSetup (line drive : Nat)
  | rankingReport (shelf : Nat)
  | shelfReport (shelf : Nat)
  | changeReport (selector : Nat)
  | queueReport
  | pin (shelf port : Nat)
  | steer (shelf port : Nat)
  | clearSteering (shelf : Nat)
  | bar (shelf port : Nat)
  | allow (shelf port : Nat)
  | openWindow (firstShelf lastShelf firstPort lastPort order : Nat)
  | writeWindow (cells : List CellValue)
  | continueWindow (cells : List CellValue)
  | exclusionRow (shelf : Nat)
  | outputSetup (shelf : Nat) (body : OutputSetupBody)
  | outputReport (shelf : Nat)
  | oscillatorCheck
  | oscillatorReport
  deriving DecidableEq, Repr

/-- The commands of spec/opcode_table.json, in the table's order. `cp` is the control port a request or a transaction
arrives on; `clocked` is the number of bytes clocked after the opener, `bytes` are those bytes where they can matter.
Measured offsets and differences are in 0.001 ppm before the rounding of R5 and R113. -/
inductive Instr where
  | identity (cp : ControlPort)
  | nodeIdentifier (cp : ControlPort) (identifier : Nat)
  | release (cp : ControlPort)
  | restart (cp : ControlPort)
  | takeControl (cp : ControlPort)
  | yieldControl (cp : ControlPort)
  | yieldPermission (cp : ControlPort) (value : Nat)
  | portSetup (cp : ControlPort) (port : Nat) (body : PortSetupBody)
  | portStatus (cp : ControlPort) (port : Nat)
  | portGrade (cp : ControlPort) (port : Nat)
  | assignPort (cp : ControlPort) (port domain : Nat)
  | assignShelf (cp : ControlPort) (shelf domain : Nat)
  | pendingPartition (cp : ControlPort)
  | applyPartition (cp : ControlPort)
  | discardPartition (cp : ControlPort)
  | domainSetup (cp : ControlPort) (domain : Nat) (body : DomainSetupBody)
  | priorityList (cp : ControlPort) (domain : Nat) (ports : List Nat)
  | domainReport (cp : ControlPort) (domain : Nat)
  | eventReport (cp : ControlPort) (selector : Nat)
  | eventMask (cp : ControlPort) (selector mask : Nat)
  | lineSetup (cp : ControlPort) (line drive : Nat)
  | rankingReport (cp : ControlPort) (shelf : Nat)
  | shelfReport (cp : ControlPort) (shelf : Nat)
  | changeReport (cp : ControlPort) (selector : Nat)
  | queueReport (cp : ControlPort)
  | pin (cp : ControlPort) (shelf port : Nat)
  | steer (cp : ControlPort) (shelf port : Nat)
  | clearSteering (cp : ControlPort) (shelf : Nat)
  | bar (cp : ControlPort) (shelf port : Nat)
  | allow (cp : ControlPort) (shelf port : Nat)
  | openWindow (cp : ControlPort) (firstShelf lastShelf firstPort lastPort order : Nat)
  | writeWindow (cp : ControlPort) (cells : List CellValue)
  | continueWindow (cp : ControlPort) (cells : List CellValue)
  | exclusionRow (cp : ControlPort) (shelf : Nat)
  | outputSetup (cp : ControlPort) (shelf : Nat) (body : OutputSetupBody)
  | outputReport (cp : ControlPort) (shelf : Nat)
  | oscillatorCheck (cp : ControlPort)
  | oscillatorReport (cp : ControlPort)
  | frameWrite (cp : ControlPort) (bytes : List Byte)
  | replyRead (cp : ControlPort) (clocked : Nat)
  | resync (cp : ControlPort) (clocked : Nat)
  | statusOnlyTransaction (cp : ControlPort) (opener : Byte) (bytes : List Byte)
  | voidTransaction (cp : ControlPort) (bits : Nat)
  | resetAssert
  | resetRelease (pins : Straps)
  | powerOn (pins : Straps)
  | activityConfirmation (port : PortId)
  | activityLoss (port : PortId)
  | measurementWindowComplete (port : PortId) (measured : Int)
  | restoreTimerExpiry (port : PortId)
  | waiverDeadlinePasses (port : PortId)
  | gradeMessage (port : PortId) (bytes : List Byte) (framingError : Bool)
  | collectingGapTimeout (port : PortId)
  | gradeTimerExpiry (port : PortId)
  | holdOffExpiry (shelf : ShelfId)
  | settleComplete (shelf : ShelfId)
  | holdoverLimitExpiry (shelf : ShelfId)
  | guardAbsent
  | guardPresent
  | backgroundWindowComplete (measured : Int)
  | checkComplete (measured : Int)
  | outputSeam (shelf : ShelfId)
  | gradeMessageSend (shelf : ShelfId)
  | gradeMessageSendEnd (shelf : ShelfId)
  | gradeLineByteReceived (port : PortId) (byte : Byte) (framingError : Bool)
  | requestReplyPlaced
  | learnTimeReached (shelf : ShelfId)
  deriving DecidableEq, Repr

end Sys2Proof
end

