-- ==== Sys2Proof/Decode.lean ====
section
/-!
DEFINITION. Words of spec/opcode_table.json. No row of the table gives bits ("fields" is empty in every row and no row
has "fixed"), so no word spells a command. Request frames, which do have bytes, are read by Machine/Frames.lean.
-/

namespace Sys2Proof

/-- The command a word of `nbits` bits spells by the table's bits: none, since the table gives no row bits. -/
def decodeTableWord (_nbits _w : Nat) : Option Instr := none

end Sys2Proof
end

