-- ==== Sys2Proof/Config.lean ====
section
/-!
DEFINITION. The free values: what the spec leaves open and the part still decides. Each is an opaque constant with no
body, so nothing in Lean can prove or evaluate a value of it. notes/assumptions/6.md, 8.md and 24.md name them.
-/

namespace Sys2Proof.Config

/-- The turn of a shelf when several shelves act in one change (R80, R82: "either may be taken first").
The first argument is the model's counter `freeCount`, the second the shelf number; the smaller turn acts first. -/
opaque shelfTurn : Nat → Nat → Nat

/-- Whether a measurement that lies exactly between two steps of 0.01 ppm is rounded up (R5 and R113 say "nearest"
and do not say which of two equally near steps). The argument is the measured value in 0.001 ppm. -/
opaque roundTieUp : Int → Bool

/-- A reply byte of a field that has no value, where R190 gives the field kind no code for "absent"
(the argument is the field's place: see the callers in Machine/Replies.lean). -/
opaque unstatedByte : Nat → Byte

end Sys2Proof.Config
end

