-- ==== Sys2Proof/Machine/State.lean ====
section
/-!
DEFINITION. The state of the CL4824 as plain data, everything the spec gives the part, its value right after RESET_N
has risen, and the reasons a step can stop. INVENTORY.md lists every field with its rule and its reset value.
-/

namespace Sys2Proof.Machine

/-! ## Reference ports (chapter 1) -/

/-- Nominal rates of R1, in the order of its table. -/
inductive NominalRate where
  | khz8
  | mhz2048
  | mhz10
  | mhz25
  deriving DecidableEq, Repr

/-- Bands of R1, in the order of its table. -/
inductive Band where
  | ppm2
  | ppm5
  | ppm12
  | ppm50
  deriving DecidableEq, Repr

/-- The six-field port setup (R1); the loss dwell is in ms, the grade timeout in s. -/
structure PortSetup where
  enabled      : Bool
  rate         : NominalRate
  lossDwell    : Nat
  band         : Band
  gradeTimeout : Nat
  confirmCount : Nat
  deriving DecidableEq, Repr

/-- Port states (R2). -/
inductive PortState where
  | off
  | down
  | suspect
  | qualifying
  | up
  deriving DecidableEq, Repr

/-- A port record: the setup of R1 and the live fields of R2. -/
structure Port where
  setup       : PortSetup
  state       : PortState
  /-- activity confirmed -/
  activity    : Bool
  /-- frequency fault declared -/
  fault       : Bool
  /-- out-of-band run, 0 to 2 -/
  outRun      : Nat
  /-- in-band run, 0 to 2 -/
  inRun       : Nat
  /-- last measured offset in 0.01 ppm, `none` for "not judged" -/
  offset      : Option Int
  /-- elapsed ms of the measurement window in flight -/
  window      : Option Nat
  /-- restore time remaining in ms; present in QUALIFYING only -/
  restoreLeft : Option Nat
  /-- waiver deadline, a time in ms -/
  waiver      : Option Nat
  /-- DROPPED -/
  dropped     : Bool
  /-- FAULTED -/
  faulted     : Bool
  /-- when the activity measurement in progress was last started from zero by the part (R3) -/
  since       : Nat
  deriving DecidableEq, Repr

/-! ## Grade receivers (chapter 2) -/

/-- The receiver of R22: HUNTING, or COLLECTING with the bytes after the marker (the length byte first) and whether
one of them came with a framing error. -/
inductive Receiver where
  | hunting
  | collecting (bytes : List Byte) (framingError : Bool)
  deriving DecidableEq, Repr

/-- A grade record (R25) with its receiver. Grades are 0 UNGRADED, 1 to 12, 15 SHUN. -/
structure Grade where
  receiver     : Receiver
  accepted     : Nat
  /-- pending grade and its count -/
  pendingGrade : Option (Nat × Nat)
  holdover     : Bool
  truncated    : Bool
  /-- origin first -/
  trace        : List NodeId
  /-- ms left on the grade timer, `none` when stopped -/
  timer        : Option Nat
  malformed    : Nat
  loopFlag     : Bool
  deriving DecidableEq, Repr

/-! ## Domains and notices (chapter 3) -/

/-- A partition (R40): a domain or none for every port and every shelf. -/
structure Partition where
  ports   : Vector (Option DomainId) 24
  shelves : Vector (Option DomainId) 48
  deriving DecidableEq, Repr

/-- The truncated-trace policy (R49). -/
inductive TruncatedPolicy where
  | accept
  | exclude
  deriving DecidableEq, Repr

/-- A domain setting record (R49). -/
structure Domain where
  minGrade        : Nat
  /-- the ungraded policy: `none` is EXCLUDE, `some a` is ASSUME with assumed grade a -/
  assume          : Option Nat
  revertive       : Bool
  /-- ms -/
  holdOff         : Nat
  /-- s -/
  restoreTime     : Nat
  maxHops         : Nat
  truncatedPolicy : TruncatedPolicy
  /-- s -/
  settleTime      : Nat
  /-- s -/
  learnTime       : Nat
  /-- min, `none` is UNLIMITED -/
  limit           : Option Nat
  holdoverGrade   : Nat
  freeRunGrade    : Nat
  deriving DecidableEq, Repr

/-- The ten kinds of a domain event set (3.6). -/
inductive DomainEvent where
  | switch
  | lock
  | bridge
  | holdover
  | freerun
  | expired
  | port
  | grade
  | loop
  | steerLost
  deriving DecidableEq, Repr

/-- The five kinds of the part event set (3.6). -/
inductive PartEvent where
  | oscFault
  | checkDone
  | control
  | applied
  | phase
  deriving DecidableEq, Repr

/-- A domain event set: latched indicators (R54) and mask indicators (R55), bits in the order of R190. -/
structure DomainSet where
  latched : BitVec 10
  mask    : BitVec 10
  deriving DecidableEq, Repr

/-- The part event set: latched indicators (R54) and mask indicators (R55), bits in the order of R190. -/
structure PartSet where
  latched : BitVec 5
  mask    : BitVec 5
  deriving DecidableEq, Repr

/-- Drive settings of a notify line (R58). -/
inductive LineDrive where
  | activeLowOpenDrain
  | activeHighPushPull
  deriving DecidableEq, Repr

/-! ## Shelves (chapters 5 to 7) -/

/-- Last causes, in the order of R75. -/
inductive Cause where
  | release
  | better
  | revert
  | lost
  | ineligible
  | steer
  | pin
  | cleared
  | partition
  | expiry
  | oscFault
  | assigned
  deriving DecidableEq, Repr

/-- Steering (R122). -/
inductive Steering where
  | auto
  | steer (port : PortId)
  | pin (port : PortId)
  deriving DecidableEq, Repr

/-- Shelf states with the fields R75 says are present in them. Times are in ms; `none` as a limit is UNLIMITED.
The number of the unit an ACQUIRE shelf holds is in the pool (`State.units`). -/
inductive ShelfState where
  | held (nominee : Option PortId)
  | parked
  | freerun
  | holdover (limitLeft : Option Nat)
  | queued (target : PortId)
  | acquire (target : PortId) (settleLeft : Nat)
  | locked (reference : PortId) (pendingTarget : Option (PortId × Cause))
  | bridge (reference : PortId) (holdOffLeft : Nat)
  deriving DecidableEq, Repr

/-- A shelf record (R75). The learned time is in ms (R105). -/
structure Shelf where
  state     : ShelfState
  steering  : Steering
  learned   : Nat
  valid     : Bool
  lastCause : Option Cause
  changed   : Bool
  deriving DecidableEq, Repr

/-- Scan orders (R137). -/
inductive ScanOrder where
  | byShelf
  | byPort
  deriving DecidableEq, Repr

/-- An open window (R137). The cursor is the place of the next cell in the scan sequence of R138, counted from 0; the
window's cell count stands for "end". -/
structure Window where
  firstShelf : ShelfId
  lastShelf  : ShelfId
  firstPort  : PortId
  lastPort   : PortId
  order      : ScanOrder
  cursor     : Nat
  deriving DecidableEq, Repr

/-! ## Shelf outputs (chapter 8) -/

/-- Output modes (R145). -/
inductive OutputMode where
  | follow
  | localOsc
  | quiet
  | mark
  deriving DecidableEq, Repr

/-- An output setup (R145); `none` as squelch threshold is NONE. -/
structure OutputSetup where
  enabled : Bool
  mode    : OutputMode
  divide  : Bool
  invert  : Bool
  squelch : Option Nat
  deriving DecidableEq, Repr

/-- Drives (R150). -/
inductive Drive where
  | low
  | high
  | tracker
  | localOsc
  deriving DecidableEq, Repr

/-- Drive reasons, in the order of R150's table. -/
inductive DriveReason where
  | disabled
  | held
  | parked
  | quiet
  | mark
  | localOsc
  | squelch
  | follow
  deriving DecidableEq, Repr

/-- Tracker sources (R148). -/
inductive TrackerSource where
  | following (port : PortId)
  | holding
  | free
  deriving DecidableEq, Repr

/-- A grade message (R154, R191). -/
structure GradeMsg where
  grade     : Nat
  holdover  : Bool
  truncated : Bool
  trace     : List NodeId
  deriving DecidableEq, Repr

/-- An Output Stage with its Grade Transmitter. -/
structure Output where
  active       : OutputSetup
  pendingSetup : Option OutputSetup
  drive        : Drive
  reason       : DriveReason
  tracker      : TrackerSource
  /-- the outgoing message (R154), none while the output is disabled -/
  outgoing     : Option GradeMsg
  /-- the frozen bridge message (R156) -/
  frozen       : Option GradeMsg
  /-- the bytes of the message being sent on the grade line (R159) -/
  sending      : Option (List Byte)
  /-- a message has fallen due and waits for the end of the one being sent (R160, R161) -/
  sendDue      : Bool
  /-- the last message sent (R158) -/
  lastSent     : Option GradeMsg
  /-- the starting time of the last message sent, in ms (R160) -/
  lastStart    : Option Nat
  changedMark  : Bool
  deriving DecidableEq, Repr

/-! ## Oscillator Monitor (chapter 6) -/

/-- Sources of a setting of the fault latch (R114). -/
inductive LatchSource where
  | window
  | check
  deriving DecidableEq, Repr

/-- Outcomes of a check (R118). -/
inductive CheckOutcome where
  | pass
  | fail
  | inconclusive
  deriving DecidableEq, Repr

/-- The Oscillator Monitor (R112 to R118). -/
structure Oscillator where
  latch          : Bool
  source         : Option LatchSource
  guardPresent   : Bool
  /-- when the present 10 ms measurement of the guard may have begun (R112) -/
  guardSince     : Nat
  /-- elapsed ms of the background window in flight -/
  bgWindow       : Option Nat
  /-- 0.01 ppm -/
  lastBackground : Option Int
  /-- ms left of the running check -/
  check          : Option Nat
  lastOutcome    : Option CheckOutcome
  /-- 0.01 ppm -/
  lastCheckDiff  : Option Int
  deriving DecidableEq, Repr

/-! ## Control ports (chapter 9) -/

/-- Control port states (9.2). WORKING holds the request while it waits for the executor; REPLY holds the reply frame. -/
inductive PortStage where
  | idle
  | working (waiting : Option Request)
  | reply (frame : List Byte)
  deriving DecidableEq, Repr

/-- A Control Port Interface (9.2). -/
structure Cpi where
  /-- the bytes of the partial frame (R165) -/
  receiver     : List Byte
  stage        : PortStage
  frameDropped : Bool
  /-- the model's own record: the bytes shifted out by the last transaction on this port -/
  shifted      : List Byte
  /-- the model's own record: the bits of the status byte that the last transaction shifted out when it was void,
  first bit first (R164) -/
  shiftedBits  : List Bool
  deriving DecidableEq, Repr

/-! ## Phase Controller (chapter 10) -/

/-- Part phases (R180). -/
inductive PartPhase where
  | init
  | held
  | running
  deriving DecidableEq, Repr

/-! ## The whole part -/

/-- Why the machine would stop. The spec names no condition that stops the part, so there is no reason: safe. -/
inductive Fault : Type
  deriving DecidableEq, Repr

/-- Why a step has no meaning. -/
inductive Refusal where
  /-- Raised only by an arm of `exec` that has no meaning yet; safe, since nothing is claimed of it. -/
  | notModelled (mnemonic : String)
  deriving DecidableEq, Repr

structure State where
  /-- the level of RESET_N, `true` for high -/
  resetPin        : Bool
  /-- the internal power-on reset is still active (R181) -/
  internalReset   : Bool
  /-- local-oscillator time in ms -/
  now             : Nat
  phase           : PartPhase
  straps          : Straps
  nodeId          : NodeId
  ports           : Vector Port 24
  grades          : Vector Grade 24
  current         : Partition
  pendingPart     : Partition
  domains         : Vector Domain 4
  lists           : Vector (List PortId) 4
  domainEvents    : Vector DomainSet 4
  partEvents      : PartSet
  lineDrives      : Vector LineDrive 5
  shelves         : Vector Shelf 48
  units           : Vector (Option ShelfId) 6
  queue           : List ShelfId
  /-- row s, bit p: the cell of shelf s and port p is BAR -/
  cells           : Vector (BitVec 24) 48
  window          : Option Window
  outputs         : Vector Output 48
  osc             : Oscillator
  active          : ControlPort
  yieldPermission : Bool
  prevSupplier    : Option ControlPort
  /-- the request being carried out: its port and the reply frame already fixed (R171) -/
  carrying        : Option (ControlPort × List Byte)
  cpa             : Cpi
  cpb             : Cpi
  /-- the model's own counter for free values -/
  freeCount       : Nat
  /-- the model's own queue of commands, first in first out -/
  pending         : List Instr
  deriving DecidableEq, Repr

/-! ## Reset values -/

/-- R1, defaults. -/
def PortSetup.atReset : PortSetup :=
  { enabled := true, rate := .mhz2048, lossDwell := 10, band := .ppm12, gradeTimeout := 5, confirmCount := 2 }

/-- R1, R2. -/
def Port.atReset (now : Nat) : Port :=
  { setup := PortSetup.atReset, state := .down, activity := false, fault := false, outRun := 0, inRun := 0,
    offset := none, window := none, restoreLeft := none, waiver := none, dropped := false, faulted := false,
    since := now }

/-- R22, R25. -/
def Grade.atReset : Grade :=
  { receiver := .hunting, accepted := 0, pendingGrade := none, holdover := false, truncated := false, trace := [],
    timer := none, malformed := 0, loopFlag := false }

/-- R40: every port and every shelf in D0. -/
def Partition.atReset : Partition :=
  { ports := Vector.replicate 24 (some 0), shelves := Vector.replicate 48 (some 0) }

/-- R49, defaults. -/
def Domain.atReset : Domain :=
  { minGrade := 12, assume := none, revertive := false, holdOff := 1000, restoreTime := 300, maxHops := 8,
    truncatedPolicy := .exclude, settleTime := 10, learnTime := 900, limit := some 240, holdoverGrade := 10,
    freeRunGrade := 12 }

/-- R51: the D0 list is RP0 to RP23, the others are empty. -/
def listsAtReset : Vector (List PortId) 4 := #v[List.finRange 24, [], [], []]

/-- R75, R122. -/
def Shelf.atReset : Shelf :=
  { state := .held none, steering := .auto, learned := 0, valid := false, lastCause := none, changed := false }

/-- R145, defaults. -/
def OutputSetup.atReset : OutputSetup :=
  { enabled := true, mode := .follow, divide := false, invert := false, squelch := none }

/-- R112 to R114, R117, R118: the guard judged present, a background window and the initial check running. -/
def Oscillator.atReset (now : Nat) : Oscillator :=
  { latch := false, source := none, guardPresent := true, guardSince := now, bgWindow := some 0,
    lastBackground := none, check := some 4000, lastOutcome := none, lastCheckDiff := none }

/-- R167, R179: IDLE with an empty receiver and buffer. -/
def Cpi.atReset : Cpi :=
  { receiver := [], stage := .idle, frameDropped := false, shifted := [], shiftedBits := [] }

/-- R180: 0x0100 plus the sampled NID value. -/
def nodeIdOf (straps : Straps) : NodeId := 0x0100#16 + BitVec.ofNat 16 straps.nid.val

/-- R157: grade SHUN, both flags clear, the own identifier alone. -/
def shunMsg (own : NodeId) : GradeMsg := { grade := 15, holdover := false, truncated := false, trace := [own] }

/-- R145, R150, R157, R161: low, HELD, FREE, and the first SHUN message has just started; its bytes are `bytes`. -/
def Output.atReset (own : NodeId) (bytes : List Byte) (now : Nat) : Output :=
  { active := OutputSetup.atReset, pendingSetup := none, drive := .low, reason := .held, tracker := .free,
    outgoing := some (shunMsg own), frozen := none, sending := some bytes, sendDue := false,
    lastSent := some (shunMsg own), lastStart := some now, changedMark := false }

/-- R174: CPA when the CTL_SEL strap is low, CPB when it is high. -/
def activeOf (straps : Straps) : ControlPort := if straps.ctlSel then .cpb else .cpa

/-- The part right after RESET_N has risen at time `now` with these strap levels (R180, R181); `bytes` are the bytes
of the first SHUN message. -/
def State.atReset (straps : Straps) (bytes : List Byte) (now freeCount : Nat) (pending : List Instr) : State :=
  { resetPin := true, internalReset := false, now := now, phase := .init, straps := straps,
    nodeId := nodeIdOf straps,
    ports := Vector.replicate 24 (Port.atReset now), grades := Vector.replicate 24 Grade.atReset,
    current := Partition.atReset, pendingPart := Partition.atReset,
    domains := Vector.replicate 4 Domain.atReset, lists := listsAtReset,
    domainEvents := Vector.replicate 4 { latched := 0, mask := 0 }, partEvents := { latched := 0, mask := 0 },
    lineDrives := Vector.replicate 5 .activeLowOpenDrain,
    shelves := Vector.replicate 48 Shelf.atReset, units := Vector.replicate 6 none, queue := [],
    cells := Vector.replicate 48 0, window := none,
    outputs := Vector.replicate 48 (Output.atReset (nodeIdOf straps) bytes now),
    osc := Oscillator.atReset now, active := activeOf straps, yieldPermission := true, prevSupplier := none,
    carrying := none, cpa := Cpi.atReset, cpb := Cpi.atReset, freeCount := freeCount, pending := pending }

/-- The straps of an unstrapped part: every pin low by its pull-down (R180). -/
def Straps.unconnected : Straps := { ctlSel := false, holdMode := false, nid := 0 }

/-- The bytes of a SHUN message with identifier 0x0100: 0x7E, length 5, grade/flags 0xF0, one identifier, CRC-8 (R191).
Tests/Slice0.lean shows that they are the bytes the transmitter makes of that message. -/
def firstShunBytes : List Byte := [0x7E, 0x05, 0xF0, 0x01, 0x01, 0x00, 0x90]

/-- The part right after reset: RESET_N has risen with every strap unconnected, at time 0, with no command waiting. -/
def State.reset : State := State.atReset Straps.unconnected firstShunBytes 0 0 []

end Sys2Proof.Machine
end

