-- ==== Sys2Proof/Machine/Bytes.lean ====
section
/-!
DEFINITION. Bytes on the pins: multi-byte fields (00_scope.md, Byte order), the two CRCs (R192), the grade message
(R191) and the packed cells of a window write (R189).
-/

namespace Sys2Proof.Machine

/-- One byte holding the number (R190, fields of one byte). -/
def byte (n : Nat) : Byte := BitVec.ofNat 8 n

/-- A two-byte field, most significant byte first. -/
def be16 (n : Nat) : List Byte := [byte (n / 256), byte n]

/-- A four-byte field, most significant byte first. -/
def be32 (n : Nat) : List Byte := [byte (n / 16777216), byte (n / 65536), byte (n / 256), byte n]

/-- yes/no, on/off, set/clear (R190). -/
def flagByte (b : Bool) : Byte := if b then 1 else 0

/-- The number two bytes of a two-byte field carry. -/
def word16 (hi lo : Byte) : Nat := hi.toNat * 256 + lo.toNat

/-- The node identifier two bytes carry, most significant byte first. -/
def nodeIdOfBytes (hi lo : Byte) : NodeId := BitVec.ofNat 16 (word16 hi lo)

/-- The two bytes of a node identifier. -/
def nodeIdBytes (i : NodeId) : List Byte := be16 i.toNat

/-! ## CRCs (R192) -/

/-- One bit of the CRC-16, polynomial 0x1021. -/
def crc16Bit (c : BitVec 16) : BitVec 16 := if c.msb then (c <<< 1) ^^^ 0x1021#16 else c <<< 1

/-- One byte of the CRC-16, most significant bit first. -/
def crc16Byte (c : BitVec 16) (b : Byte) : BitVec 16 :=
  (List.range 8).foldl (fun c _ => crc16Bit c) (c ^^^ (b.setWidth 16 <<< 8))

/-- The control CRC-16: starts from 0xFFFF, no reflection, no final exclusive-or. -/
def crc16 (bytes : List Byte) : BitVec 16 := bytes.foldl crc16Byte 0xFFFF#16

/-- One bit of the CRC-8, polynomial 0x07. -/
def crc8Bit (c : BitVec 8) : BitVec 8 := if c.msb then (c <<< 1) ^^^ 0x07#8 else c <<< 1

/-- One byte of the CRC-8. -/
def crc8Byte (c : BitVec 8) (b : Byte) : BitVec 8 := (List.range 8).foldl (fun c _ => crc8Bit c) (c ^^^ b)

/-- The grade CRC-8: starts from 0x00, no reflection, no final exclusive-or. -/
def crc8 (bytes : List Byte) : BitVec 8 := bytes.foldl crc8Byte 0x00#8

/-! ## Grade messages (R191) -/

/-- The grade/flags byte: grade in bits 7 to 4, HOLDOVER bit 3, TRUNCATED bit 2, bits 1 and 0 sent as 0. -/
def gradeFlagsByte (m : GradeMsg) : Byte :=
  byte (m.grade * 16 + (if m.holdover then 8 else 0) + (if m.truncated then 4 else 0))

/-- A message from its length byte to its last trace byte: what the CRC-8 covers. -/
def GradeMsg.covered (m : GradeMsg) : List Byte :=
  byte (3 + 2 * m.trace.length) :: gradeFlagsByte m :: byte m.trace.length :: m.trace.flatMap nodeIdBytes

/-- The bytes of a message on a grade line: marker 0x7E, the covered bytes, the CRC-8 (R191). -/
def GradeMsg.bytes (m : GradeMsg) : List Byte := 0x7E#8 :: (m.covered ++ [crc8 m.covered])

/-- Pairs of trace bytes as identifiers; `none` when a byte is left over. -/
def traceOfBytes : List Byte → Option (List NodeId)
  | [] => some []
  | [_] => none
  | hi :: lo :: rest => (traceOfBytes rest).map (nodeIdOfBytes hi lo :: ·)

/-- A complete message's bytes after the marker, read and checked against every condition of R23 (`framingError`:
a byte after the length byte came with a framing error). `none` is malformed. The CRC is checked as R192 says a
receiver does: over the covered bytes and the CRC byte it must give 0. -/
def GradeMsg.ofBytes (bytes : List Byte) (framingError : Bool) : Option GradeMsg :=
  match bytes with
  | len :: flags :: count :: rest =>
    match traceOfBytes rest.dropLast with
    | some trace =>
      if framingError || crc8 bytes != 0 || len.toNat != 3 + 2 * count.toNat || count.toNat == 0 ||
          decide (8 < count.toNat) || trace.length != count.toNat || flags.toNat / 16 == 13 ||
          flags.toNat / 16 == 14 || trace.any (fun i => i == 0x0000#16 || i == 0xFFFF#16) then none
      else some { grade := flags.toNat / 16, holdover := flags.getLsbD 3, truncated := flags.getLsbD 2, trace := trace }
    | none => none
  | _ => none

/-! ## Packed cells (R189) -/

/-- The eight cells of a byte, the first in bit 7; 1 is BAR. -/
def cellsOfByte (b : Byte) : List CellValue :=
  [7, 6, 5, 4, 3, 2, 1, 0].map (fun i => if b.getLsbD i then .bar else .allow)

/-- The first `count` cells of packed bytes. -/
def cellsOfBytes (count : Nat) (bytes : List Byte) : List CellValue := (bytes.flatMap cellsOfByte).take count

end Sys2Proof.Machine
end

