-- ==== Sys2Proof/Machine/Operands.lean ====
section
/-!
DEFINITION. Operand fields of requests: the codes of R190 read as the values they stand for (`none` is out of range,
BAD_FIELD), and the codes a reply sends for a value.
-/

namespace Sys2Proof.Machine

/-! ## Codes of request fields -/

/-- A number below the bound. -/
def boundedOf (n bound : Nat) : Option (Fin bound) := if h : n < bound then some ⟨n, h⟩ else none

/-- A port number, 0 to 23. -/
def portOf (n : Nat) : Option PortId := boundedOf n 24

/-- A shelf number, 0 to 47. -/
def shelfOf (n : Nat) : Option ShelfId := boundedOf n 48

/-- A domain number, 0 to 3. -/
def domainOf (n : Nat) : Option DomainId := boundedOf n 4

/-- A domain value of an assignment: D0 to D3, or none as 0xFF. -/
def domainValueOf (n : Nat) : Option (Option DomainId) :=
  if n = 0xFF then some none else (domainOf n).map some

/-- yes/no, on/off: 0 or 1. -/
def flagOf (n : Nat) : Option Bool :=
  match n with
  | 0 => some false
  | 1 => some true
  | _ => none

/-- A number in a closed range. -/
def inRange (n low high : Nat) : Bool := decide (low ≤ n) && decide (n ≤ high)

/-- Nominal rate codes. -/
def rateOf (n : Nat) : Option NominalRate :=
  match n with
  | 0 => some .khz8
  | 1 => some .mhz2048
  | 2 => some .mhz10
  | 3 => some .mhz25
  | _ => none

/-- Band codes. -/
def bandOf (n : Nat) : Option Band :=
  match n with
  | 0 => some .ppm2
  | 1 => some .ppm5
  | 2 => some .ppm12
  | 3 => some .ppm50
  | _ => none

/-- The port setup a PORT SETUP carries, `none` when a field is outside the ranges of R1. -/
def portSetupOf (b : PortSetupBody) : Option PortSetup :=
  match flagOf b.enabled, rateOf b.rate, bandOf b.band with
  | some enabled, some rate, some band =>
    if inRange b.lossDwell 1 255 && inRange b.gradeTimeout 2 30 && inRange b.confirmCount 1 4 then
      some { enabled := enabled, rate := rate, lossDwell := b.lossDwell, band := band,
             gradeTimeout := b.gradeTimeout, confirmCount := b.confirmCount }
    else none
  | _, _, _ => none

/-- The ungraded policy: 0 EXCLUDE, 1 ASSUME with an assumed grade 1 to 12; the assumed grade is ignored under
EXCLUDE (R190). -/
def assumeOf (code assumed : Nat) : Option (Option Nat) :=
  match code with
  | 0 => some none
  | 1 => if inRange assumed 1 12 then some (some assumed) else none
  | _ => none

/-- Truncated-trace policy codes. -/
def truncatedPolicyOf (n : Nat) : Option TruncatedPolicy :=
  match n with
  | 0 => some .accept
  | 1 => some .exclude
  | _ => none

/-- The holdover limit in minutes, 0 for UNLIMITED (R190), 1 to 1440. -/
def limitOf (n : Nat) : Option (Option Nat) :=
  if n = 0 then some none else if n ≤ 1440 then some (some n) else none

/-- The domain setting record a DOMAIN SETUP carries, `none` in the cases of R50. -/
def domainRecordOf (b : DomainSetupBody) : Option Domain :=
  match assumeOf b.ungraded b.assumed, flagOf b.revertive, truncatedPolicyOf b.truncatedTrace, limitOf b.limit with
  | some assume, some revertive, some policy, some limit =>
    if inRange b.minGrade 1 12 && decide (b.holdOff ≤ 10000) && b.holdOff % 100 == 0 && decide (b.restoreTime ≤ 720) &&
        inRange b.maxHops 1 8 && inRange b.settleTime 1 60 && inRange b.learnTime 60 3600 &&
        inRange b.holdoverGrade 1 12 && inRange b.freeRunGrade 1 12 then
      some { minGrade := b.minGrade, assume := assume, revertive := revertive, holdOff := b.holdOff,
             restoreTime := b.restoreTime, maxHops := b.maxHops, truncatedPolicy := policy,
             settleTime := b.settleTime, learnTime := b.learnTime, limit := limit,
             holdoverGrade := b.holdoverGrade, freeRunGrade := b.freeRunGrade }
    else none
  | _, _, _, _ => none

/-- Output mode codes. -/
def modeOf (n : Nat) : Option OutputMode :=
  match n with
  | 0 => some .follow
  | 1 => some .localOsc
  | 2 => some .quiet
  | 3 => some .mark
  | _ => none

/-- Squelch threshold: 0 NONE, 1 to 12. -/
def squelchOf (n : Nat) : Option (Option Nat) :=
  if n = 0 then some none else if n ≤ 12 then some (some n) else none

/-- The output setup an OUTPUT SETUP carries, `none` when a field is out of range (R146). -/
def outputSetupOf (b : OutputSetupBody) : Option OutputSetup :=
  match flagOf b.enabled, modeOf b.mode, flagOf b.divide, flagOf b.invert, squelchOf b.squelch with
  | some enabled, some mode, some divide, some invert, some squelch =>
    some { enabled := enabled, mode := mode, divide := divide, invert := invert, squelch := squelch }
  | _, _, _, _, _ => none

/-- A selector with four domains and a fifth value (R190: PART, or ALL, is 4): `some none` is the fifth. -/
def selectorOf (n : Nat) : Option (Option DomainId) :=
  if n = 4 then some none else (domainOf n).map some

/-- Scan order codes. -/
def orderOf (n : Nat) : Option ScanOrder :=
  match n with
  | 0 => some .byShelf
  | 1 => some .byPort
  | _ => none

/-- Line drive codes, in the order R58 lists them. -/
def lineDriveOf (n : Nat) : Option LineDrive :=
  match n with
  | 0 => some .activeLowOpenDrain
  | 1 => some .activeHighPushPull
  | _ => none

/-! ## Codes of reply fields (R190) -/

/-- A port that may be absent: 0xFF. -/
def portCode (p : Option PortId) : Byte := match p with | some p => byte p.val | none => 0xFF

/-- A shelf that may be absent: 0xFF. -/
def shelfCode (p : Option ShelfId) : Byte := match p with | some p => byte p.val | none => 0xFF

/-- A domain value: 0xFF for none. -/
def domainCode (d : Option DomainId) : Byte := match d with | some d => byte d.val | none => 0xFF

def rateCode : NominalRate → Byte
  | .khz8 => 0
  | .mhz2048 => 1
  | .mhz10 => 2
  | .mhz25 => 3

def bandCode : Band → Byte
  | .ppm2 => 0
  | .ppm5 => 1
  | .ppm12 => 2
  | .ppm50 => 3

def portStateCode : PortState → Byte
  | .off => 0
  | .down => 1
  | .suspect => 2
  | .qualifying => 3
  | .up => 4

/-- Shelf states, in the order of the table in 5.1. -/
def shelfStateIndex : ShelfState → Fin 8
  | .held _ => 0
  | .parked => 1
  | .freerun => 2
  | .holdover _ => 3
  | .queued _ => 4
  | .acquire _ _ => 5
  | .locked _ _ => 6
  | .bridge _ _ => 7

def shelfStateCode (st : ShelfState) : Byte := byte (shelfStateIndex st).val

def truncatedPolicyCode : TruncatedPolicy → Byte
  | .accept => 0
  | .exclude => 1

def modeCode : OutputMode → Byte
  | .follow => 0
  | .localOsc => 1
  | .quiet => 2
  | .mark => 3

def orderCode : ScanOrder → Byte
  | .byShelf => 0
  | .byPort => 1

/-- Drives, in the order the table of R150 lists them: LOW, HIGH, LOCAL, TRACKER. -/
def driveCode : Drive → Byte
  | .low => 0
  | .high => 1
  | .localOsc => 2
  | .tracker => 3

def driveReasonCode : DriveReason → Byte
  | .disabled => 0
  | .held => 1
  | .parked => 2
  | .quiet => 3
  | .mark => 4
  | .localOsc => 5
  | .squelch => 6
  | .follow => 7

/-- Tracker source and its port. -/
def trackerCodes : TrackerSource → List Byte
  | .following p => [0, portCode (some p)]
  | .holding => [1, portCode none]
  | .free => [2, portCode none]

/-- Steering and its port. -/
def steeringCodes : Steering → List Byte
  | .auto => [0, portCode none]
  | .steer p => [1, portCode (some p)]
  | .pin p => [2, portCode (some p)]

/-- Last cause: 0 none, then from 1 in the order of R75. -/
def causeCode : Option Cause → Byte
  | none => 0
  | some .release => 1
  | some .better => 2
  | some .revert => 3
  | some .lost => 4
  | some .ineligible => 5
  | some .steer => 6
  | some .pin => 7
  | some .cleared => 8
  | some .partition => 9
  | some .expiry => 10
  | some .oscFault => 11
  | some .assigned => 12

/-- Check outcome: 0 none, then from 1 in the order R120 lists them. -/
def outcomeCode : Option CheckOutcome → Byte
  | none => 0
  | some .pass => 1
  | some .fail => 2
  | some .inconclusive => 3

/-- Latch source: 0 none, 1 WINDOW, 2 CHECK. -/
def sourceCode : Option LatchSource → Byte
  | none => 0
  | some .window => 1
  | some .check => 2

def phaseCode : PartPhase → Byte
  | .init => 0
  | .held => 1
  | .running => 2

def controlPortCode : ControlPort → Byte
  | .cpa => 0
  | .cpb => 1

/-- Squelch threshold: 0 NONE. -/
def squelchCode : Option Nat → Byte
  | none => 0
  | some g => byte g

/-- A reported time in whole units, 0xFFFFFFFF when absent. -/
def timeCode : Option Nat → List Byte
  | none => be32 0xFFFFFFFF
  | some t => be32 t

/-- The holdover limit remaining in s rounded up, UNLIMITED, or absent. -/
def limitLeftCode : Option (Option Nat) → List Byte
  | none => be32 0xFFFFFFFF
  | some none => be32 0xFFFFFFFE
  | some (some ms) => be32 ((ms + 999) / 1000)

/-- An offset or difference in 0.01 ppm, two's complement; 0x8000 not judged or none. -/
def offsetCode : Option Int → List Byte
  | none => be16 0x8000
  | some x => be16 (BitVec.ofInt 16 x).toNat

/-- The pending grade and its count, both 0 when absent. -/
def pendingGradeCode : Option (Nat × Nat) → List Byte
  | none => [0, 0]
  | some (g, n) => [byte g, byte n]

end Sys2Proof.Machine
end

