-- ==== Sys2Proof/Machine/Ops.lean ====
section
/-!
DEFINITION. The named reads and writes of State that every meaning goes through, the present time, and the rule that
nothing happens while the part is in reset (R163, R181).
-/

namespace Sys2Proof.Machine

/-! ## Reads -/

/-- The part is in reset: RESET_N is low or the power-on reset is still active (R181). -/
def State.inReset (s : State) : Bool := !s.resetPin || s.internalReset

/-- A port's current domain (R40). -/
def State.portDomain (s : State) (p : PortId) : Option DomainId := s.current.ports[p]

/-- A shelf's current domain (R40). -/
def State.shelfDomain (s : State) (sh : ShelfId) : Option DomainId := s.current.shelves[sh]

/-- The setting record of a shelf's current domain; none for a shelf in domain none. -/
def State.shelfRecord (s : State) (sh : ShelfId) : Option Domain := (s.shelfDomain sh).map (fun d => s.domains[d])

/-- The hold-off of a shelf's current domain in ms, 0 for domain none. -/
def State.shelfHoldOff (s : State) (sh : ShelfId) : Nat :=
  match s.shelfRecord sh with
  | some r => r.holdOff
  | none => 0

/-- The cell of a shelf and a port is BAR (R134). -/
def State.barred (s : State) (sh : ShelfId) (p : PortId) : Bool := s.cells[sh].getLsbD p.val

/-- The other control port. -/
def otherPort : ControlPort → ControlPort
  | .cpa => .cpb
  | .cpb => .cpa

/-- A control port's interface. -/
def State.cpi (s : State) (cp : ControlPort) : Cpi :=
  match cp with
  | .cpa => s.cpa
  | .cpb => s.cpb

/-- The reference of a shelf, present in LOCKED and BRIDGE (R75). -/
def ShelfState.reference? : ShelfState → Option PortId
  | .locked c _ => some c
  | .bridge c _ => some c
  | .held _ => none
  | .parked => none
  | .freerun => none
  | .holdover _ => none
  | .queued _ => none
  | .acquire _ _ => none

/-- The target of a shelf, present in QUEUED and ACQUIRE (R75). -/
def ShelfState.target? : ShelfState → Option PortId
  | .queued t => some t
  | .acquire t _ => some t
  | .held _ => none
  | .parked => none
  | .freerun => none
  | .holdover _ => none
  | .locked _ _ => none
  | .bridge _ _ => none

/-- The pending target with its cause, optional in LOCKED (R75). -/
def ShelfState.pending? : ShelfState → Option (PortId × Cause)
  | .locked _ pend => pend
  | .held _ => none
  | .parked => none
  | .freerun => none
  | .holdover _ => none
  | .queued _ => none
  | .acquire _ _ => none
  | .bridge _ _ => none

/-- The nominee, present in HELD (R75); `none` also for nominee none. -/
def ShelfState.nominee? : ShelfState → Option PortId
  | .held n => n
  | .parked => none
  | .freerun => none
  | .holdover _ => none
  | .queued _ => none
  | .acquire _ _ => none
  | .locked _ _ => none
  | .bridge _ _ => none

def ShelfState.isHeld : ShelfState → Bool
  | .held _ => true
  | _ => false

def ShelfState.isParked : ShelfState → Bool
  | .parked => true
  | _ => false

def ShelfState.isFreerun : ShelfState → Bool
  | .freerun => true
  | _ => false

def ShelfState.isHoldover : ShelfState → Bool
  | .holdover _ => true
  | _ => false

def ShelfState.isQueued : ShelfState → Bool
  | .queued _ => true
  | _ => false

def ShelfState.isAcquire : ShelfState → Bool
  | .acquire _ _ => true
  | _ => false

def ShelfState.isLocked : ShelfState → Bool
  | .locked _ _ => true
  | _ => false

def ShelfState.isBridge : ShelfState → Bool
  | .bridge _ _ => true
  | _ => false

/-- The unit a shelf holds (R79), found in the pool. -/
def State.unitOf (s : State) (sh : ShelfId) : Option UnitId :=
  (List.finRange 6).find? (fun u => s.units[u] == some sh)

/-! ## Writes -/

def State.setPort (s : State) (p : PortId) (r : Port) : State := { s with ports := s.ports.set p r }

def State.setGrade (s : State) (p : PortId) (g : Grade) : State := { s with grades := s.grades.set p g }

def State.setShelf (s : State) (sh : ShelfId) (r : Shelf) : State := { s with shelves := s.shelves.set sh r }

def State.setOutput (s : State) (sh : ShelfId) (o : Output) : State := { s with outputs := s.outputs.set sh o }

def State.setUnit (s : State) (u : UnitId) (h : Option ShelfId) : State := { s with units := s.units.set u h }

def State.setQueue (s : State) (q : List ShelfId) : State := { s with queue := q }

def State.setOsc (s : State) (o : Oscillator) : State := { s with osc := o }

def State.setCpi (s : State) (cp : ControlPort) (c : Cpi) : State :=
  match cp with
  | .cpa => { s with cpa := c }
  | .cpb => { s with cpb := c }

/-- Write a shelf's steering; this alone does not set the changed flag (R77). -/
def State.setSteering (s : State) (sh : ShelfId) (st : Steering) : State :=
  s.setShelf sh { s.shelves[sh] with steering := st }

/-- Write one exclusion cell (R134). -/
def State.setCell (s : State) (sh : ShelfId) (p : PortId) (v : CellValue) : State :=
  let row := s.cells[sh]
  let bit := 1#24 <<< p.val
  { s with cells := s.cells.set sh (match v with | .bar => row ||| bit | .allow => row &&& ~~~bit) }

/-! ## Reset -/

/-- A command's effect happens only while the part is out of reset; while it is in reset nothing is judged, no timer
runs and both control ports ignore their lines (R163, R181). -/
def State.live (s : State) (f : State → State) : Host.Outcome State Fault Refusal :=
  .next (if s.inReset then s else f s)

end Sys2Proof.Machine
end

