-- ==== Sys2Proof/Machine/Flags.lean ====
section
/-!
DEFINITION. Latched indicators: event sets, masks and notify lines (3.6 to 3.9), and the latched flags a clearing
report clears.
-/

namespace Sys2Proof.Machine

/-- A kind's bit in a domain event set (R190). -/
def DomainEvent.bit : DomainEvent → BitVec 10
  | .switch => 0x001#10
  | .lock => 0x002#10
  | .bridge => 0x004#10
  | .holdover => 0x008#10
  | .freerun => 0x010#10
  | .expired => 0x020#10
  | .port => 0x040#10
  | .grade => 0x080#10
  | .loop => 0x100#10
  | .steerLost => 0x200#10

/-- A kind's bit in the part event set (R190). -/
def PartEvent.bit : PartEvent → BitVec 5
  | .oscFault => 0x01#5
  | .checkDone => 0x02#5
  | .control => 0x04#5
  | .applied => 0x08#5
  | .phase => 0x10#5

/-- Raise a kind in a set: latched unless masked; a latched kind stays latched (R54). -/
def DomainSet.raise (e : DomainSet) (k : DomainEvent) : DomainSet :=
  { e with latched := e.latched ||| (k.bit &&& ~~~e.mask) }

/-- Raise a kind in the part set (R54). -/
def PartSet.raise (e : PartSet) (k : PartEvent) : PartSet :=
  { e with latched := e.latched ||| (k.bit &&& ~~~e.mask) }

/-- Replace a set's mask; every kind now masked has its indicator cleared (R56). -/
def DomainSet.remask (e : DomainSet) (mask : BitVec 10) : DomainSet :=
  { latched := e.latched &&& ~~~mask, mask := mask }

/-- Replace the part set's mask (R56). -/
def PartSet.remask (e : PartSet) (mask : BitVec 5) : PartSet :=
  { latched := e.latched &&& ~~~mask, mask := mask }

/-- Raise a domain event in the set of a domain; domain none raises nothing (R54). -/
def State.raiseIn (s : State) (d : Option DomainId) (k : DomainEvent) : State :=
  match d with
  | some d => { s with domainEvents := s.domainEvents.set d (s.domainEvents[d].raise k) }
  | none => s

/-- Raise a domain event for a port, in the set of its current domain (R54). -/
def State.raisePort (s : State) (p : PortId) (k : DomainEvent) : State := s.raiseIn (s.portDomain p) k

/-- Raise a domain event for a shelf, in the set of its current domain (R54, R78). -/
def State.raiseShelf (s : State) (sh : ShelfId) (k : DomainEvent) : State := s.raiseIn (s.shelfDomain sh) k

/-- Raise a part event (R54). -/
def State.raisePart (s : State) (k : PartEvent) : State := { s with partEvents := s.partEvents.raise k }

/-- Raise a domain event for a shelf when there is one to raise. -/
def State.raiseShelf? (s : State) (sh : ShelfId) (k : Option DomainEvent) : State :=
  match k with
  | some k => s.raiseShelf sh k
  | none => s

/-- The notify line of a selector is asserted: its set holds a latched indicator (R57); every line is deasserted while
the part is in reset. `none` selects NTFP. -/
def State.lineAsserted (s : State) (line : Option DomainId) : Bool :=
  !s.inReset &&
    match line with
    | some d => s.domainEvents[d].latched != 0
    | none => s.partEvents.latched != 0

/-- A latched flag with a clear: DROPPED and FAULTED of a port (R20). -/
def State.clearPortFlags (s : State) (p : PortId) : State :=
  s.setPort p { s.ports[p] with dropped := false, faulted := false }

/-- The malformed count of a port set to 0 (R39). -/
def State.clearMalformed (s : State) (p : PortId) : State := s.setGrade p { s.grades[p] with malformed := 0 }

/-- Every indicator of a set cleared (R59: exactly the indicators returned, which are all that are latched). -/
def State.clearEvents (s : State) (selector : Option DomainId) : State :=
  match selector with
  | some d => { s with domainEvents := s.domainEvents.set d { s.domainEvents[d] with latched := 0 } }
  | none => { s with partEvents := { s.partEvents with latched := 0 } }

/-- The shelf's changed flag is set and it matches the selector; `none` is ALL (R103). -/
def State.listsChange (s : State) (selector : Option DomainId) (sh : ShelfId) : Bool :=
  s.shelves[sh].changed && match selector with | some d => s.shelfDomain sh == some d | none => true

/-- Clear the changed flags of exactly the shelves a CHANGE REPORT lists (R103). -/
def State.clearChanged (s : State) (selector : Option DomainId) : State :=
  { s with shelves := Vector.ofFn fun sh =>
      if s.listsChange selector sh then { s.shelves[sh] with changed := false } else s.shelves[sh] }

end Sys2Proof.Machine
end

