-- ==== Sys2Proof/Machine/Ranking.lean ====
section
/-!
DEFINITION. The Selection Engine (chapter 4): effective grade, eligibility, admissibility, reasons, the eligible list,
quality, and the nominee. The ranking is computed from its inputs (R67), which is the value the engine keeps (R68);
see notes/assumptions/13.md.
-/

namespace Sys2Proof.Machine

/-- Reasons, in the order of R64. -/
inductive Reason where
  | off
  | down
  | suspect
  | qualifying
  | notListed
  | barred
  | shun
  | ungraded
  | belowMin
  | loop
  | hops
  | truncated
  deriving DecidableEq, Repr

/-- Reason codes: 0 none, then from 1 in the order of R64 (R190). -/
def reasonCode : Option Reason → Byte
  | none => 0
  | some .off => 1
  | some .down => 2
  | some .suspect => 3
  | some .qualifying => 4
  | some .notListed => 5
  | some .barred => 6
  | some .shun => 7
  | some .ungraded => 8
  | some .belowMin => 9
  | some .loop => 10
  | some .hops => 11
  | some .truncated => 12

/-- The effective grade and whether it is assumed (R61). -/
def Domain.effective (d : Domain) (accepted : Nat) : Nat × Bool :=
  if accepted = 0 then
    match d.assume with
    | some a => (a, true)
    | none => (0, false)
  else (accepted, false)

/-- A port's effective grade in a domain (R61). -/
def State.effectiveGrade (s : State) (d : DomainId) (p : PortId) : Nat := (s.domains[d].effective s.grades[p].accepted).1

/-- Checks 1 to 4 of R64: the port-state reason. -/
def stateReason : PortState → Option Reason
  | .off => some .off
  | .down => some .down
  | .suspect => some .suspect
  | .qualifying => some .qualifying
  | .up => none

/-- Checks 5 to 12 of R64 for a port of domain `d`, the first that fails. -/
def State.laterReason (s : State) (sh : ShelfId) (d : DomainId) (p : PortId) : Option Reason :=
  if !s.lists[d].contains p then some .notListed
  else if s.barred sh p then some .barred
  else if s.effectiveGrade d p = 15 then some .shun
  else if s.effectiveGrade d p = 0 then some .ungraded
  else if s.domains[d].minGrade < s.effectiveGrade d p then some .belowMin
  else if s.grades[p].loopFlag then some .loop
  else if s.domains[d].maxHops < s.grades[p].trace.length then some .hops
  else if s.grades[p].truncated && s.domains[d].truncatedPolicy == .exclude then some .truncated
  else none

/-- The port is in the shelf's domain, one of D0 to D3. -/
def State.sameDomain (s : State) (sh : ShelfId) (p : PortId) : Bool :=
  match s.shelfDomain sh with
  | some d => s.portDomain p == some d
  | none => false

/-- R63: in the shelf's domain and meeting conditions 2 to 8 of R62, whatever its state. -/
def State.admissible (s : State) (sh : ShelfId) (p : PortId) : Bool :=
  match s.shelfDomain sh with
  | some d => s.portDomain p == some d && (s.laterReason sh d p).isNone
  | none => false

/-- R62: admissible and UP. -/
def State.eligible (s : State) (sh : ShelfId) (p : PortId) : Bool :=
  s.ports[p].state == .up && s.admissible sh p

/-- A verdict of R60: the first reason (none is eligible) and, for a port-state reason, the second. -/
structure Verdict where
  port   : PortId
  first  : Option Reason
  second : Option Reason
  deriving DecidableEq, Repr

/-- The verdict on a port of the shelf's domain `d` (R64). -/
def State.verdict (s : State) (sh : ShelfId) (d : DomainId) (p : PortId) : Verdict :=
  match stateReason s.ports[p].state with
  | some r => { port := p, first := some r, second := s.laterReason sh d p }
  | none => { port := p, first := s.laterReason sh d p, second := none }

/-- The ports whose current domain is `d`, in ascending number. -/
def State.portsOf (s : State) (d : DomainId) : List PortId :=
  (List.finRange 24).filter (fun p => s.portDomain p == some d)

/-- The verdicts on every port of the shelf's domain, in port order; none for a shelf in domain none (R60). -/
def State.verdicts (s : State) (sh : ShelfId) : List Verdict :=
  match s.shelfDomain sh with
  | some d => (s.portsOf d).map (s.verdict sh d)
  | none => []

/-- An entry of the eligible list (R60); the position is counted from 1. -/
structure Entry where
  port     : PortId
  grade    : Nat
  assumed  : Bool
  holdover : Bool
  position : Nat
  deriving DecidableEq, Repr

/-- R66: better quality. -/
def Entry.better (b c : Entry) : Bool :=
  decide (b.grade < c.grade) || (b.grade == c.grade && !b.holdover && c.holdover)

/-- R66: equal quality. -/
def Entry.equalQuality (b c : Entry) : Bool := b.grade == c.grade && b.holdover == c.holdover

/-- R65: the three keys in turn. -/
def Entry.ahead (b c : Entry) : Bool := b.better c || (b.equalQuality c && decide (b.position < c.position))

/-- Insert an entry before the first one it ranks ahead of. -/
def insertEntry (e : Entry) : List Entry → List Entry
  | [] => [e]
  | f :: rest => if e.ahead f then e :: f :: rest else f :: insertEntry e rest

/-- Entries in ranking order. -/
def sortEntries : List Entry → List Entry
  | [] => []
  | e :: rest => insertEntry e (sortEntries rest)

/-- The entry a port would have in the eligible list of a shelf of domain `d` at a list position. -/
def State.entry (s : State) (d : DomainId) (p : PortId) (position : Nat) : Entry :=
  { port := p, grade := (s.domains[d].effective s.grades[p].accepted).1,
    assumed := (s.domains[d].effective s.grades[p].accepted).2, holdover := s.grades[p].holdover,
    position := position }

/-- The entries of the eligible ports among the list places from `position` on. -/
def State.entriesFrom (s : State) (sh : ShelfId) (d : DomainId) : Nat → List PortId → List Entry
  | _, [] => []
  | position, p :: rest =>
    if s.eligible sh p then s.entry d p position :: s.entriesFrom sh d (position + 1) rest
    else s.entriesFrom sh d (position + 1) rest

/-- The eligible list (R60, R65). -/
def State.eligibleList (s : State) (sh : ShelfId) : List Entry :=
  match s.shelfDomain sh with
  | some d => sortEntries (s.entriesFrom sh d 1 s.lists[d])
  | none => []

/-- The best candidate (R65). -/
def State.best (s : State) (sh : ShelfId) : Option PortId := (s.eligibleList sh).head?.map (·.port)

/-- The switch rule of R95 for a shelf locked to `c`: the port it wants to switch to and the cause. -/
def State.switchWanted (s : State) (sh : ShelfId) (c : PortId) : Option (PortId × Cause) :=
  match s.shelfRecord sh, (s.eligibleList sh).head?, (s.eligibleList sh).find? (fun e => e.port == c) with
  | some d, some b, some e =>
    if b.port = c then none
    else if b.better e then some (b.port, .better)
    else if d.revertive && b.equalQuality e && b.ahead e then some (b.port, .revert)
    else none
  | _, _, _ => none

/-- The shelf's choice (R123). -/
def State.choice (s : State) (sh : ShelfId) : Option PortId :=
  match s.shelves[sh].steering with
  | .auto => s.best sh
  | .steer p => some p
  | .pin p => if s.ports[p].activity then some p else none

/-- The nominee (R71). -/
def State.nomineeOf (s : State) (sh : ShelfId) : Option PortId :=
  match s.shelfDomain sh with
  | none => none
  | some _ =>
    match s.shelves[sh].steering with
    | .auto => s.best sh
    | .steer p => if s.eligible sh p then some p else s.best sh
    | .pin p => if s.ports[p].activity then some p else none

/-- What the engine hands a shelf with a ranking (R70): the eligible list, the verdicts (and with them admissibility),
and for a shelf under PIN the pinned port's state, its presence in the domain and its activity. -/
structure Handed where
  entries  : List Entry
  verdicts : List Verdict
  pinned   : Option (PortState × Bool × Bool)
  deriving DecidableEq, Repr

/-- The ranking of a shelf as it now stands (R70). -/
def State.handed (s : State) (sh : ShelfId) : Handed :=
  { entries := s.eligibleList sh, verdicts := s.verdicts sh,
    pinned :=
      match s.shelves[sh].steering with
      | .pin p => some (s.ports[p].state, s.sameDomain sh p, s.ports[p].activity)
      | .auto => none
      | .steer _ => none }

/-- R85: the cause of a reselection when the shelf's reference or target `p` fails. A port outside the shelf's domain
has no verdict in its ranking: it left in an APPLY PARTITION. -/
def State.failCause (s : State) (sh : ShelfId) (p : PortId) : Cause :=
  if !s.sameDomain sh p then .partition
  else if s.ports[p].state == .up then .ineligible
  else .lost

/-- R100: the cause when a bridged reference ceases to be admissible, from checks 5 to 12 alone. -/
def State.bridgeFailCause (s : State) (sh : ShelfId) (p : PortId) : Cause :=
  if !s.sameDomain sh p then .partition else .ineligible

end Sys2Proof.Machine
end

