-- ==== Sys2Proof/Machine/Time.lean ====
section
/-!
DEFINITION. Local-oscillator time: every running timer, window and learned time counts in ms (R10, R31, R92, R100, R106,
R110, R113, R118). Nothing expires here; expiries are commands of their own (notes/assumptions/2.md, 3.md, 4.md).
-/

namespace Sys2Proof.Machine

/-- The condition of R105 for a valid holdover record. -/
def State.holdoverValid (s : State) (sh : ShelfId) : Bool :=
  match s.shelfRecord sh with
  | some d => !s.osc.latch && decide (d.learnTime * 1000 ≤ s.shelves[sh].learned)
  | none => false

/-- Every record's validity made equal to its condition (R105, R108). -/
def State.syncValid (s : State) : State :=
  { s with shelves := Vector.ofFn fun sh => { s.shelves[sh] with valid := s.holdoverValid sh } }

/-- The window in flight and the restore timer of a port (R4, R10). -/
def Port.elapse (p : Port) (d : Nat) : Port :=
  { p with window := p.window.map (fun e => min 1000 (e + d)), restoreLeft := p.restoreLeft.map (· - d) }

/-- The grade timer (R31). -/
def Grade.elapse (g : Grade) (d : Nat) : Grade := { g with timer := g.timer.map (· - d) }

/-- Settle, hold-off and holdover limit (R75, R110). -/
def ShelfState.elapse (st : ShelfState) (d : Nat) : ShelfState :=
  match st with
  | .holdover left => .holdover (left.map (· - d))
  | .acquire t left => .acquire t (left - d)
  | .bridge c left => .bridge c (left - d)
  | .held n => .held n
  | .parked => .parked
  | .freerun => .freerun
  | .queued t => .queued t
  | .locked c pend => .locked c pend

/-- A shelf's timers, and its learned time, which grows in LOCKED while the latch is clear and stops at 3600 s (R106). -/
def Shelf.elapse (r : Shelf) (latch : Bool) (d : Nat) : Shelf :=
  { r with state := r.state.elapse d,
           learned := if r.state.isLocked && !latch then min 3600000 (r.learned + d) else r.learned }

/-- The background window and the check; guard time at its nominal ratio (R113, R118). -/
def Oscillator.elapse (o : Oscillator) (d : Nat) : Oscillator :=
  { o with bgWindow := o.bgWindow.map (fun e => min 16000 (e + d)), check := o.check.map (· - d) }

/-- `d` ms pass in which no command falls. -/
def State.elapse (s : State) (d : Nat) : State :=
  if d = 0 then s
  else
    ({ s with
        now := s.now + d,
        ports := s.ports.map (fun (p : Port) => p.elapse d),
        grades := s.grades.map (fun (g : Grade) => g.elapse d),
        shelves := s.shelves.map (fun (r : Shelf) => r.elapse s.osc.latch d),
        osc := s.osc.elapse d }).syncValid

end Sys2Proof.Machine
end

