-- ==== Sys2Proof/Machine/Pool.lean ====
section
/-!
DEFINITION. The Acquisition Pool (5.2) and the one operation that writes a shelf's state: units are lent to the head of
the queue (R82), shelves join at the tail (R80), leave (R81) and free their units (R83).
-/

namespace Sys2Proof.Machine

/-- One change of a shelf's state: the changed flag is set, the last cause is replaced when a cause is given (R77), and
the event of the state entered is raised in the shelf's domain (R78). -/
def State.enterState (s : State) (sh : ShelfId) (st : ShelfState) (cause : Option Cause)
    (event : Option DomainEvent) : State :=
  (s.setShelf sh { s.shelves[sh] with state := st, changed := true,
                                      lastCause := cause.or s.shelves[sh].lastCause }).raiseShelf? sh event

/-- The settle time of a shelf's domain in ms (R91). -/
def State.settleMs (s : State) (sh : ShelfId) : Nat :=
  match s.shelfRecord sh with
  | some d => d.settleTime * 1000
  | none => 0

/-- The lowest-numbered idle unit (R82). -/
def State.idleUnit (s : State) : Option UnitId := (List.finRange 6).find? (fun u => s.units[u] == none)

/-- Lend a unit to a shelf (R82, R91): a QUEUED shelf goes to ACQUIRE toward its target and keeps its cause; a LOCKED
shelf goes to ACQUIRE toward its pending target, takes that target's cause and raises SWITCH (R96). -/
def State.grant (s : State) (sh : ShelfId) (u : UnitId) : State :=
  match s.shelves[sh].state with
  | .queued t => (s.setUnit u (some sh)).enterState sh (.acquire t (s.settleMs sh)) none none
  | .locked _ (some (b, cause)) =>
    (s.setUnit u (some sh)).enterState sh (.acquire b (s.settleMs sh)) (some cause) (some .switch)
  | _ => s

/-- One lending, when a unit is idle and the queue is not empty (R82). -/
def State.lendOne (s : State) : State :=
  match s.queue, s.idleUnit with
  | sh :: rest, some u => (s.setQueue rest).grant sh u
  | _, _ => s

/-- Up to `n` lendings in turn. -/
def State.lendTimes : Nat → State → State
  | 0, s => s
  | n + 1, s => State.lendTimes n s.lendOne

/-- Lend until no unit is idle or nobody waits: there are six units (R79). -/
def State.lend (s : State) : State := State.lendTimes 6 s

/-- Take a shelf's unit back (R83). -/
def State.reclaim (s : State) (sh : ShelfId) : State :=
  { s with units := s.units.map fun holder => if holder == some sh then none else holder }

/-- Free the unit of a shelf; it is at once lent again if the queue is not empty (R83). -/
def State.freeUnit (s : State) (sh : ShelfId) : State := (s.reclaim sh).lend

/-- Leave the queue; the shelves behind move up (R81). -/
def State.leaveQueue (s : State) (sh : ShelfId) : State := s.setQueue (s.queue.filter (· != sh))

/-- Join the tail, or keep the place already held; an idle unit is lent at once (R80). -/
def State.join (s : State) (sh : ShelfId) : State :=
  (if s.queue.contains sh then s else s.setQueue (s.queue ++ [sh])).lend

/-- Free the unit of a shelf that leaves ACQUIRE (R83, R93). -/
def State.leaveAcquire (s : State) (sh : ShelfId) : State :=
  if s.shelves[sh].state.isAcquire then s.freeUnit sh else s

end Sys2Proof.Machine
end

