-- ==== Sys2Proof/Machine/Moves.lean ====
section
/-!
DEFINITION. The moves of a shelf (chapters 5 and 7) and what a shelf does with a ranking it is handed, under AUTO
(R88 to R101), STEER (R126, R127) and PIN (R130, R131).
-/

namespace Sys2Proof.Machine

/-! ## Moves -/

/-- Go to QUEUED toward a port, or straight to ACQUIRE when a unit is idle (R84 with a choice, R88, R89). A shelf that
was QUEUED has not entered QUEUED and raises no SWITCH; a shelf in the queue keeps its place. -/
def State.toward (s : State) (sh : ShelfId) (t : PortId) (cause : Cause) : State :=
  ((s.leaveAcquire sh).enterState sh (.queued t) (some cause)
    (if s.shelves[sh].state.isQueued then none else some .switch)).join sh

/-- The holdover limit of a shelf's domain in ms, `none` for UNLIMITED (R110). -/
def State.limitMs (s : State) (sh : ShelfId) : Option Nat :=
  match s.shelfRecord sh with
  | some d => d.limit.map (· * 60000)
  | none => none

/-- Enter HOLDOVER with a fresh limit, or FREERUN, whichever the record calls for (R84, R110). -/
def State.enterRest (s : State) (sh : ShelfId) (cause : Option Cause) : State :=
  if s.holdoverValid sh then s.enterState sh (.holdover (s.limitMs sh)) cause (some .holdover)
  else s.enterState sh .freerun cause (some .freerun)

/-- Give up every port and rest in HOLDOVER or FREERUN (R84 without a choice, R90). -/
def State.rest (s : State) (sh : ShelfId) (cause : Cause) : State :=
  ((s.leaveAcquire sh).leaveQueue sh).enterRest sh (some cause)

/-- R84. -/
def State.reselect (s : State) (sh : ShelfId) (cause : Cause) : State :=
  match s.choice sh with
  | some t => s.toward sh t cause
  | none => s.rest sh cause

/-- R101: give up everything; the learned time becomes 0. -/
def State.park (s : State) (sh : ShelfId) (cause : Cause) : State :=
  let t := ((s.leaveAcquire sh).leaveQueue sh).enterState sh .parked (some cause) none
  t.setShelf sh { t.shelves[sh] with learned := 0 }

/-- A LOCKED shelf gains a pending target, or has it replaced, and stands in the queue (R95, R96, R125); the changed
flag is not touched (R77). -/
def State.gainPending (s : State) (sh : ShelfId) (c b : PortId) (cause : Cause) : State :=
  (s.setShelf sh { s.shelves[sh] with state := .locked c (some (b, cause)) }).join sh

/-- A LOCKED shelf loses its pending target and its place in the queue (R96, R81). -/
def State.dropPending (s : State) (sh : ShelfId) (c : PortId) : State :=
  (s.setShelf sh { s.shelves[sh] with state := .locked c none }).leaveQueue sh

/-- Enter BRIDGE (R97): any pending target is dropped, the hold-off is loaded, BRIDGE is raised. -/
def State.bridge (s : State) (sh : ShelfId) (c : PortId) (cause : Cause) : State :=
  (s.leaveQueue sh).enterState sh (.bridge c (s.shelfHoldOff sh)) (some cause) (some .bridge)

/-- Return from BRIDGE to LOCKED: the last cause is kept and no LOCK is raised (R99). -/
def State.unbridge (s : State) (sh : ShelfId) (c : PortId) : State := s.enterState sh (.locked c none) none none

/-- The part returns a shelf's steering to AUTO and raises STEER_LOST (R47, R48, R127, R131, R133). -/
def State.loseSteering (s : State) (sh : ShelfId) : State := (s.setSteering sh .auto).raiseShelf sh .steerLost

/-! ## Acting on a ranking -/

/-- How a change bears on a shelf: `forced` replaces the cause a rule would set (R48 PARTITION, R132 CLEARED);
`strict` says that a QUEUED shelf whose target stopped being eligible reselects instead of following its choice
(R50, R52, R127, R131); `ceased` says that the change took the shelf's reference away (`State.ceased`). -/
structure Ctx where
  forced : Option Cause
  strict : Bool
  ceased : Bool
  deriving DecidableEq, Repr

/-- A plain re-ranking (R68). -/
def Ctx.ranking : Ctx := { forced := none, strict := false, ceased := false }

/-- A re-ranking by DOMAIN SETUP, PRIORITY LIST or APPLY PARTITION, or after dropped steering. -/
def Ctx.failing : Ctx := { forced := none, strict := true, ceased := false }

/-- A change from `old` takes the shelf's reference `c` away: `c` ceases to be eligible (R126), but for a cell write that
bars it, which never moves a pinned shelf (R136; notes/assumptions/41.md); or it leaves the shelf's domain (R48), or its
clock goes (notes/assumptions/38.md), eligible before or not. -/
def State.ceased (old s : State) (sh : ShelfId) : Bool :=
  match s.shelves[sh].state.reference? with
  | some c =>
    (old.eligible sh c && !s.eligible sh c && !s.barred sh c) || (old.sameDomain sh c && !s.sameDomain sh c) ||
      (old.ports[c].activity && !s.ports[c].activity)
  | none => false

/-- The cause a rule sets in a context. -/
def Ctx.cause (x : Ctx) (c : Cause) : Cause := x.forced.getD c

/-- The switch rule for a shelf locked to `c` (R95, R96). A later ranking that wants the same best candidate for the
other cause rewrites the pending target's cause: the model's choice (notes/assumptions/39.md). -/
def State.applySwitchRule (s : State) (sh : ShelfId) (c : PortId) : State :=
  match s.switchWanted sh c with
  | some (b, cause) => s.gainPending sh c b cause
  | none => if s.shelves[sh].state.pending?.isSome then s.dropPending sh c else s

/-- R97: a LOCKED shelf whose reference `c` is no longer eligible. -/
def State.loseReference (s : State) (sh : ShelfId) (c : PortId) (x : Ctx) : State :=
  if s.admissible sh c then
    if s.shelfHoldOff sh = 0 then s.reselect sh (x.cause .lost) else s.bridge sh c (x.cause .lost)
  else s.reselect sh (x.cause (s.failCause sh c))

/-- A QUEUED shelf under AUTO (R90). Outside a `strict` context it follows its choice with its cause kept, also where
its target was barred or failed: the model's reading (notes/assumptions/15.md). -/
def State.actQueued (s : State) (sh : ShelfId) (t : PortId) (x : Ctx) : State :=
  if x.strict && !s.eligible sh t then s.reselect sh (x.cause (s.failCause sh t))
  else
    match s.choice sh with
    | some b => if b = t then s else s.enterState sh (.queued b) none none
    | none => s.rest sh (x.cause (s.failCause sh t))

/-- A LOCKED shelf under AUTO (R94 to R97). -/
def State.actLocked (s : State) (sh : ShelfId) (c : PortId) (x : Ctx) : State :=
  if s.eligible sh c then s.applySwitchRule sh c else s.loseReference sh c x

/-- A BRIDGE shelf under AUTO (R98 to R100). -/
def State.actBridge (s : State) (sh : ShelfId) (c : PortId) (x : Ctx) : State :=
  if s.eligible sh c then (s.unbridge sh c).applySwitchRule sh c
  else if s.admissible sh c then s
  else s.reselect sh (x.cause (s.bridgeFailCause sh c))

/-- A shelf under AUTO meets a ranking. -/
def State.actAuto (s : State) (sh : ShelfId) (x : Ctx) : State :=
  match s.shelves[sh].state with
  | .held _ => s
  | .parked => s
  | .freerun => match s.choice sh with | some t => s.toward sh t (x.cause .better) | none => s
  | .holdover _ => match s.choice sh with | some t => s.toward sh t (x.cause .better) | none => s
  | .queued t => s.actQueued sh t x
  | .acquire t _ => if s.eligible sh t then s else s.reselect sh (x.cause (s.failCause sh t))
  | .locked c _ => s.actLocked sh c x
  | .bridge c _ => s.actBridge sh c x

/-- Steering was lost: any pending target goes and the shelf leaves the queue, and then it acts as an AUTO shelf (R127,
R131). Where an APPLY PARTITION takes the reference away together with the steering port, the shelf then reselects and
joins the queue at its tail: that it does not keep its place, as R84 lets a LOCKED shelf with a pending target, is the
model's choice (notes/assumptions/44.md). -/
def State.actUnsteered (s : State) (sh : ShelfId) (x : Ctx) : State :=
  let s := s.loseSteering sh
  match s.shelves[sh].state with
  | .locked c (some _) => (s.dropPending sh c).actAuto sh { x with strict := true }
  | _ => s.actAuto sh { x with strict := true }

/-- A shelf under STEER(p) meets a ranking (R126, R127). -/
def State.actSteer (s : State) (sh : ShelfId) (p : PortId) (x : Ctx) : State :=
  match s.shelves[sh].state with
  | .locked c _ =>
    if c = p then
      if s.eligible sh p then s
      else if s.admissible sh p && s.shelfHoldOff sh != 0 then s.bridge sh p (x.cause .lost)
      else s.actUnsteered sh x
    else if s.eligible sh p then
      if s.eligible sh c then s else s.toward sh p (x.cause (s.failCause sh c))
    else s.actUnsteered sh x
  | .bridge c _ =>
    if s.eligible sh c then s.unbridge sh c
    else if s.admissible sh c then s
    else s.actUnsteered sh x
  | .queued t => if s.eligible sh t then s else s.actUnsteered sh x
  | .acquire t _ => if s.eligible sh t then s else s.actUnsteered sh x
  | .held _ => s
  | .parked => s
  | .freerun => s
  | .holdover _ => s

/-- A shelf under PIN(p) while p's activity is confirmed (R126, R130). A shelf LOCKED(c) with pending target p moves only
where the change takes c away (`State.ceased`); no other ranking moves it, nor one by a cell write (R130, R136). -/
def State.actPinActive (s : State) (sh : ShelfId) (p : PortId) (x : Ctx) : State :=
  match s.shelves[sh].state with
  | .locked c _ =>
    if c ≠ p && x.ceased then s.toward sh p (x.cause (s.failCause sh c)) else s
  | .bridge c _ => if c = p then s.unbridge sh c else s
  | .freerun => s.toward sh p (x.cause .better)
  | .holdover _ => s.toward sh p (x.cause .better)
  | .queued _ => s
  | .acquire _ _ => s
  | .held _ => s
  | .parked => s

/-- A shelf under PIN(p) while p's activity is not confirmed (R130). -/
def State.actPinInactive (s : State) (sh : ShelfId) (p : PortId) (x : Ctx) : State :=
  match s.shelves[sh].state with
  | .locked c _ =>
    if c = p && s.shelfHoldOff sh != 0 then s.bridge sh p (x.cause .lost) else s.rest sh (x.cause .lost)
  | .queued _ => s.rest sh (x.cause .lost)
  | .acquire _ _ => s.rest sh (x.cause .lost)
  | .bridge _ _ => s
  | .freerun => s
  | .holdover _ => s
  | .held _ => s
  | .parked => s

/-- A shelf under PIN(p) meets a ranking; the pin is cleared when p is OFF or out of the shelf's domain (R131). -/
def State.actPin (s : State) (sh : ShelfId) (p : PortId) (x : Ctx) : State :=
  if s.ports[p].state == .off || !s.sameDomain sh p then s.actUnsteered sh x
  else if s.ports[p].activity then s.actPinActive sh p x
  else s.actPinInactive sh p x

/-- A shelf acts on the ranking it is handed. -/
def State.act (s : State) (sh : ShelfId) (x : Ctx) : State :=
  match s.shelves[sh].steering with
  | .auto => s.actAuto sh x
  | .steer p => s.actSteer sh p x
  | .pin p => s.actPin sh p x

/-! ## Several shelves in one change -/

/-- A shelf whose turn matters: it stands in the queue, its own move changes the queue or a unit, or it leaves an
acquisition, whose freed unit comes back to it where nobody waits and goes to another where one joined before. That an
order is free wherever two such shelves act is the model's reading of R80, R82 and R90 (notes/assumptions/6.md). -/
def State.contends (s : State) (f : State → ShelfId → State) (sh : ShelfId) : Bool :=
  s.queue.contains sh || (f s sh).queue != s.queue || (f s sh).units != s.units ||
    (s.shelves[sh].state.isAcquire && (f s sh).shelves[sh].state != s.shelves[sh].state)

/-- Insert a shelf by its free turn. -/
def insertTurn (count : Nat) (sh : ShelfId) : List ShelfId → List ShelfId
  | [] => [sh]
  | x :: rest =>
    if Config.shelfTurn count sh.val ≤ Config.shelfTurn count x.val then sh :: x :: rest
    else x :: insertTurn count sh rest

/-- Shelves in the order of their free turns. -/
def turnOrder (count : Nat) : List ShelfId → List ShelfId
  | [] => []
  | sh :: rest => insertTurn count sh (turnOrder count rest)

/-- Every shelf of the list acts, each move whole, one after the other. Where at least two of them meet at the pool,
either may be taken first (R80, R82, R90, R96): the order is then a free value. -/
def State.inTurn (s : State) (acting : List ShelfId) (f : State → ShelfId → State) : State :=
  if 2 ≤ (acting.filter (s.contends f)).length then
    (turnOrder s.freeCount acting).foldl f { s with freeCount := s.freeCount + 1 }
  else acting.foldl f s

/-- The shelves that are handed something new by a change from `old` (R68). -/
def State.handedNew (old s : State) : List ShelfId := (List.finRange 48).filter fun sh => old.handed sh != s.handed sh

/-- A shelf acts on the ranking that a change from `old` hands it. -/
def State.meet (old s : State) (sh : ShelfId) (x : Ctx) : State := s.act sh { x with ceased := State.ceased old s sh }

/-- Every shelf whose ranking a change from `old` has changed acts on it (R68). -/
def State.rerank (old s : State) (x : Ctx) : State := s.inTurn (State.handedNew old s) fun s sh => State.meet old s sh x

end Sys2Proof.Machine
end

