-- ==== Sys2Proof/Machine/Outputs.lean ====
section
/-!
DEFINITION. Output Stages and Grade Transmitters (chapter 8): tracker source, candidate grade, squelch, drive, outgoing
message, the frozen bridge message, seams and send timing; and the one operation that brings every record kept equal to
a condition up to date after a change.
-/

namespace Sys2Proof.Machine

/-- The order of grades from best to worst of R27 and R151: 1 to 12, UNGRADED, SHUN. -/
def gradeRank (g : Nat) : Nat :=
  match g with
  | 0 => 13
  | 15 => 14
  | g => g

/-! ## What a shelf's output stands for -/

/-- R148. -/
def State.trackerOf (s : State) (sh : ShelfId) : TrackerSource :=
  match s.shelves[sh].state with
  | .locked c _ => .following c
  | .bridge _ _ => .holding
  | .queued _ => if s.shelves[sh].valid then .holding else .free
  | .acquire _ _ => if s.shelves[sh].valid then .holding else .free
  | .holdover _ => if s.shelves[sh].valid then .holding else .free
  | .held _ => .free
  | .parked => .free
  | .freerun => .free

/-- A message with HOLDOVER set and the own identifier alone as trace (R154, R157). -/
def holdoverMsg (own : NodeId) (grade : Nat) : GradeMsg :=
  { grade := grade, holdover := true, truncated := false, trace := [own] }

/-- R155: the outgoing trace of a shelf locked to a port with this trace. -/
def passedTrace (own : NodeId) (trace : List NodeId) : List NodeId :=
  if trace.length < 8 then trace ++ [own] else trace.take 1 ++ (trace.drop 2 ++ [own])

/-- R154, R155: the message of a shelf locked to `c`. -/
def State.lockedMessage (s : State) (sh : ShelfId) (c : PortId) : GradeMsg :=
  { grade :=
      match s.shelfDomain sh with
      | some d => s.effectiveGrade d c
      | none => s.grades[c].accepted,
    holdover := s.grades[c].holdover,
    truncated := s.grades[c].truncated || decide (8 ≤ s.grades[c].trace.length),
    trace := passedTrace s.nodeId s.grades[c].trace }

/-- The free-run grade of a shelf's domain; a shelf in domain none, which is HELD or PARKED, has none to send: SHUN. -/
def State.freeRunGradeOf (s : State) (sh : ShelfId) : Nat :=
  match s.shelfRecord sh with
  | some d => d.freeRunGrade
  | none => 15

/-- The holdover grade of a shelf's domain, SHUN for domain none. -/
def State.holdoverGradeOf (s : State) (sh : ShelfId) : Nat :=
  match s.shelfRecord sh with
  | some d => d.holdoverGrade
  | none => 15

/-- The message of a shelf that waits, settles or holds over: the grade its record calls for (R154). -/
def State.restingMessage (s : State) (sh : ShelfId) : GradeMsg :=
  holdoverMsg s.nodeId (if s.shelves[sh].valid then s.holdoverGradeOf sh else s.freeRunGradeOf sh)

/-- R154: the message while the drive is TRACKER, before the oscillator override. `frozen` is the frozen message. -/
def State.plainMessage (s : State) (sh : ShelfId) (frozen : Option GradeMsg) : GradeMsg :=
  match s.shelves[sh].state with
  | .locked c _ => s.lockedMessage sh c
  | .bridge c _ => frozen.getD (s.lockedMessage sh c)
  | .queued _ => s.restingMessage sh
  | .acquire _ _ => s.restingMessage sh
  | .holdover _ => s.restingMessage sh
  | .freerun => holdoverMsg s.nodeId (s.freeRunGradeOf sh)
  | .held _ => shunMsg s.nodeId
  | .parked => shunMsg s.nodeId

/-- R154 with the oscillator override of R157: the message the line carries with the tracker clock, whose grade is the
candidate grade of R151. -/
def State.trackerMessage (s : State) (sh : ShelfId) (frozen : Option GradeMsg) : GradeMsg :=
  if s.osc.latch && !s.shelves[sh].state.isLocked then shunMsg s.nodeId else s.plainMessage sh frozen

/-- R151: the squelch test passes. -/
def squelchPasses (threshold : Option Nat) (candidate : Nat) : Bool :=
  match threshold with
  | none => true
  | some t => decide (gradeRank candidate ≤ gradeRank t)

/-- R150: the first row that matches. -/
def driveOf (setup : OutputSetup) (state : ShelfState) (candidate : Nat) : Drive × DriveReason :=
  if !setup.enabled then (.low, .disabled)
  else if state.isHeld then (.low, .held)
  else if state.isParked then (.low, .parked)
  else
    match setup.mode with
    | .quiet => (.low, .quiet)
    | .mark => (.high, .mark)
    | .localOsc => (.localOsc, .localOsc)
    | .follow => if squelchPasses setup.squelch candidate then (.tracker, .follow) else (.low, .squelch)

/-- A fixed level (R147). -/
def Drive.fixed : Drive → Bool
  | .low => true
  | .high => true
  | .tracker => false
  | .localOsc => false

/-- R154, R157: the outgoing message for a drive; none for a disabled output. -/
def State.messageFor (s : State) (sh : ShelfId) (enabled : Bool) (drive : Drive) (frozen : Option GradeMsg) :
    Option GradeMsg :=
  if !enabled then none
  else
    match drive with
    | .low => some (shunMsg s.nodeId)
    | .high => some (shunMsg s.nodeId)
    | .tracker => some (s.trackerMessage sh frozen)
    | .localOsc =>
      some (if s.osc.latch then shunMsg s.nodeId else holdoverMsg s.nodeId (s.freeRunGradeOf sh))

/-! ## Sending (8.5) -/

/-- A message starts: its content is the outgoing message as it stands (R159), the mark clears (R160). -/
def Output.startMessage (o : Output) (now : Nat) : Output :=
  match o.outgoing with
  | some m =>
    { o with sending := some m.bytes, sendDue := false, lastSent := some m, lastStart := some now,
             changedMark := false }
  | none => o

/-- A message starts now, or when the one on the line ends (R160). -/
def Output.sendNow (o : Output) (now : Nat) : Output :=
  if o.sending.isSome then { o with sendDue := true } else o.startMessage now

/-- The moment the next message is due (R160); none while no starting time is held. -/
def Output.dueAt (o : Output) : Option Nat :=
  o.lastStart.map fun t => if o.changedMark then t + 100 else t + 1000

/-- The changed mark after a rebuild (R158, R160). -/
def Output.remark (o : Output) : Output :=
  { o with changedMark := o.changedMark || o.lastSent != o.outgoing }

/-- Send timing after a setup took over (R160, R161): `was` says whether the output was enabled before. -/
def Output.retime (o : Output) (was : Bool) (now : Nat) : Output :=
  match was, o.active.enabled with
  | true, false => { o with changedMark := false, lastStart := none, sendDue := false }
  | false, true => o.remark.sendNow now
  | true, true => o.remark
  | false, false => o

/-! ## Keeping an output up to date (R147, R148, R150, R152, R156, R158) -/

/-- The frozen bridge message (R156): kept through the bridge; on entry the LOCKED message of the state before, also
where a pinned shelf's port left UP before (notes/assumptions/20.md). A disabled output freezes it too: the model's
choice (notes/assumptions/42.md). -/
def State.frozenOf (old s : State) (sh : ShelfId) : Option GradeMsg :=
  match s.shelves[sh].state with
  | .bridge c _ => some (s.outputs[sh].frozen.getD (old.lockedMessage sh c))
  | .held _ => none
  | .parked => none
  | .freerun => none
  | .holdover _ => none
  | .queued _ => none
  | .acquire _ _ => none
  | .locked _ _ => none

/-- The drive and reason an output has under a setup. -/
def State.driveUnder (s : State) (sh : ShelfId) (setup : OutputSetup) (frozen : Option GradeMsg) : Drive × DriveReason :=
  driveOf setup s.shelves[sh].state (s.trackerMessage sh frozen).grade

/-- The setup that governs the drive: a pending setup takes over at once when the drive is a fixed level (R147). -/
def State.setupNow (s : State) (sh : ShelfId) (frozen : Option GradeMsg) : OutputSetup × Option OutputSetup :=
  match s.outputs[sh].pendingSetup with
  | some p =>
    if (s.driveUnder sh s.outputs[sh].active frozen).1.fixed then (p, none) else (s.outputs[sh].active, some p)
  | none => (s.outputs[sh].active, none)

/-- An output after a change of the part from `old` to `s`: setup, drive, tracker and message as they are called for. -/
def State.rebuilt (old s : State) (sh : ShelfId) : Output :=
  let frozen := State.frozenOf old s sh
  let setup := s.setupNow sh frozen
  let drive := s.driveUnder sh setup.1 frozen
  { s.outputs[sh] with
    active := setup.1, pendingSetup := setup.2, drive := drive.1, reason := drive.2, tracker := s.trackerOf sh,
    frozen := frozen, outgoing := s.messageFor sh setup.1.enabled drive.1 frozen }

/-- Every output brought up to date after a change from `old` (R152, R158), with its send timing. -/
def State.refreshOutputs (old s : State) : State :=
  { s with outputs := Vector.ofFn fun sh =>
      (State.rebuilt old s sh).retime old.outputs[sh].active.enabled s.now }

/-- Every HELD shelf's nominee (R71). -/
def State.refreshNominees (s : State) : State :=
  { s with shelves := Vector.ofFn fun sh =>
      { s.shelves[sh] with state := if s.shelves[sh].state.isHeld then .held (s.nomineeOf sh)
                                    else s.shelves[sh].state } }

/-- Nominees (R71), validity (R105) and outputs (R152, R158) brought up to date after a change from `old`. -/
def State.refresh (old s : State) : State := State.refreshOutputs old s.refreshNominees.syncValid

/-- The whole consequence of a change of ranking inputs: shelves act, then every kept record follows (R68, R152). -/
def State.commit (old s : State) (x : Ctx) : State := State.refresh old (State.rerank old s x)

end Sys2Proof.Machine
end

