-- ==== Sys2Proof/Machine/Ports.lean ====
section
/-!
DEFINITION. The Reference Port Monitors (chapter 1): windows, verdicts, the qualification decision, port states and the
consequences of a port setup.
-/

namespace Sys2Proof.Machine

/-- A band in 0.01 ppm (R1). -/
def Band.limit : Band → Int
  | .ppm2 => 200
  | .ppm5 => 500
  | .ppm12 => 1200
  | .ppm50 => 5000

/-- A measured value in 0.001 ppm rounded to the nearest 0.01 ppm and saturated at 327.67 ppm (R5, R113). The spec does
not say which way a value exactly between two steps goes: a free value (notes/assumptions/8.md). -/
def roundOffset (measured : Int) : Int :=
  let low := measured / 10
  let rest := measured % 10
  let rounded := if rest < 5 then low else if 5 < rest then low + 1 else if Config.roundTieUp measured then low + 1 else low
  max (-32767) (min 32767 rounded)

/-- The conditions of R4 that concern the whole part: the phase is not INIT and the latch is clear. -/
def State.mayMeasure (s : State) : Bool := s.phase != .init && !s.osc.latch

/-- R4: a window runs exactly while the port is enabled, its activity confirmed and `may` holds; a window already
running goes on, a new one starts from 0. -/
def Port.syncWindow (r : Port) (may : Bool) : Port :=
  { r with window := if r.setup.enabled && r.activity && may then some (r.window.getD 0) else none }

/-- R12: what a port takes with it when it leaves UP; nothing when it was not UP. -/
def State.leaveUp (s : State) (p : PortId) (r : Port) : Port :=
  if r.state == .up then
    { r with dropped := true,
             waiver := match s.portDomain p with
               | some d => if s.domains[d].holdOff = 0 then r.waiver else some (s.now + s.domains[d].holdOff)
               | none => r.waiver }
  else r

/-- A waiver deadline is present and has not passed (R9, R13). -/
def Port.waived (r : Port) (now : Nat) : Bool :=
  match r.waiver with
  | some t => decide (now ≤ t)
  | none => false

/-- The qualification decision (R9). -/
def State.qualify (s : State) (p : PortId) (r : Port) : Port :=
  match s.portDomain p with
  | some d =>
    if r.waived s.now || s.phase != .running || s.domains[d].restoreTime == 0 then
      { r with state := .up, restoreLeft := none }
    else { r with state := .qualifying, restoreLeft := some (s.domains[d].restoreTime * 1000) }
  | none => { r with state := .up, restoreLeft := none }

/-- R8: entering DOWN. -/
def Port.enterDown (r : Port) (now : Nat) : Port :=
  { r with state := .down, activity := false, fault := false, outRun := 0, inRun := 0, offset := none, window := none,
           restoreLeft := none, since := now }

/-- Write a port record; a change of its state raises PORT in its domain (R17). -/
def State.putPort (s : State) (p : PortId) (r : Port) : State :=
  if r.state = s.ports[p].state then s.setPort p r else (s.setPort p r).raisePort p .port

/-- Every port's window started or discarded as R4 calls for after a change of phase or latch. -/
def State.syncWindows (s : State) : State :=
  { s with ports := s.ports.map fun (r : Port) => r.syncWindow s.mayMeasure }

/-! ## Events of a port -/

/-- An activity confirmation in DOWN (R3, R9). -/
def State.confirmActivity (s : State) (p : PortId) : State :=
  let r := s.qualify p { s.ports[p] with activity := true, since := s.now }
  s.putPort p (r.syncWindow s.mayMeasure)

/-- An activity loss (R3, R8, R12). -/
def State.loseActivity (s : State) (p : PortId) : State :=
  s.putPort p ((s.leaveUp p s.ports[p]).enterDown s.now)

/-- An out-of-band verdict (R6, R11). -/
def State.outOfBand (s : State) (p : PortId) (r : Port) : Port :=
  let r := { r with inRun := 0, outRun := min 2 (r.outRun + 1) }
  if r.outRun = 2 && !r.fault then
    { s.leaveUp p r with fault := true, faulted := true, state := .suspect, restoreLeft := none }
  else r

/-- An in-band verdict (R6, R11). -/
def State.inBand (s : State) (p : PortId) (r : Port) : Port :=
  let r := { r with outRun := 0, inRun := min 2 (r.inRun + 1) }
  if r.inRun = 2 && r.fault then s.qualify p { r with fault := false } else r

/-- A measurement window completes; the next starts at once (R4, R5). -/
def State.completeWindow (s : State) (p : PortId) (measured : Int) : State :=
  let offset := roundOffset measured
  let r := { s.ports[p] with offset := some offset, window := some 0 }
  s.putPort p (if |offset| ≤ r.setup.band.limit then s.inBand p r else s.outOfBand p r)

/-- The restore timer of a QUALIFYING port reaches zero (R10). -/
def State.expireRestore (s : State) (p : PortId) : State :=
  s.putPort p { s.ports[p] with state := .up, restoreLeft := none }

/-- A waiver deadline passes and is removed (R13). -/
def State.passWaiver (s : State) (p : PortId) : State := s.setPort p { s.ports[p] with waiver := none }

/-- What a port does when the fault latch is set (R14): window discarded, runs 0, a declared fault cleared. -/
def State.distrustPort (s : State) (p : PortId) : State :=
  let r := { s.ports[p] with window := none, outRun := 0, inRun := 0 }
  s.putPort p (if r.state == .suspect then s.qualify p { r with fault := false } else r)

/-! ## PORT SETUP -/

/-- A port is disabled (R7). -/
def Port.disable (r : Port) (now : Nat) : Port :=
  { r with state := .off, activity := false, fault := false, outRun := 0, inRun := 0, offset := none, window := none,
           restoreLeft := none, waiver := none, dropped := r.dropped || r.state == .up, since := now }

/-- The grade record of a port being disabled (R35). -/
def Grade.disable (g : Grade) : Grade :=
  { g with receiver := .hunting, accepted := 0, pendingGrade := none, holdover := false, truncated := false,
           trace := [], timer := none, loopFlag := false }

/-- An enabled port's record under a new setup (R18): windows, runs, offset and the activity measurement. -/
def Port.resetup (r : Port) (new : PortSetup) (now : Nat) (may : Bool) : Port :=
  let rate := r.setup.rate != new.rate
  let discard := rate || r.setup.band != new.band
  ({ r with
      setup := new,
      offset := if rate then none else r.offset,
      window := if discard then none else r.window,
      outRun := if discard then 0 else r.outRun,
      inRun := if discard then 0 else r.inRun,
      since := if rate || r.setup.lossDwell != new.lossDwell then now else r.since } : Port).syncWindow may

/-- A new setup replaces a port's setup, with the consequences of R18, R7 and R35. -/
def State.replaceSetup (s : State) (p : PortId) (new : PortSetup) : State :=
  let r := s.ports[p]
  match r.setup.enabled, new.enabled with
  | true, false =>
    let t := (s.putPort p { r.disable s.now with setup := new }).setGrade p s.grades[p].disable
    if s.grades[p].accepted = 0 then t else t.raisePort p .grade
  | false, true =>
    (s.putPort p { r with setup := new, state := .down, since := s.now }).setGrade p
      { s.grades[p] with receiver := .hunting }
  | false, false => s.putPort p { r with setup := new }
  | true, true => s.putPort p (r.resetup new s.now s.mayMeasure)

end Sys2Proof.Machine
end

