-- ==== Sys2Proof/WellFormed.lean ====
section
/-!
DEFINITION. What a command can carry: every field of a request fits the bytes R189 and R190 give it, a frame is at
most 255 bytes long, and an event's operands are ones its rule can name. Values a rule refuses with BAD_FIELD are
well formed here: they can be carried.
-/

namespace Sys2Proof

/-- The number fits a field of one byte (R190). -/
def fitsByte (n : Nat) : Bool := decide (n < 256)

/-- The number fits a field of two bytes (R190). -/
def fitsWord (n : Nat) : Bool := decide (n < 65536)

/-- Every field of PORT SETUP is one byte (R189). -/
def PortSetupBody.wf (b : PortSetupBody) : Bool :=
  fitsByte b.enabled && fitsByte b.rate && fitsByte b.lossDwell && fitsByte b.band && fitsByte b.gradeTimeout &&
    fitsByte b.confirmCount

/-- Hold-off, restore time, learn time and limit are two bytes each, the other nine fields one byte each (R189). -/
def DomainSetupBody.wf (b : DomainSetupBody) : Bool :=
  fitsByte b.minGrade && fitsByte b.ungraded && fitsByte b.assumed && fitsByte b.revertive && fitsWord b.holdOff &&
    fitsWord b.restoreTime && fitsByte b.maxHops && fitsByte b.truncatedTrace && fitsByte b.settleTime &&
    fitsWord b.learnTime && fitsWord b.limit && fitsByte b.holdoverGrade && fitsByte b.freeRunGrade

/-- Every field of OUTPUT SETUP is one byte (R189). -/
def OutputSetupBody.wf (b : OutputSetupBody) : Bool :=
  fitsByte b.enabled && fitsByte b.mode && fitsByte b.divide && fitsByte b.invert && fitsByte b.squelch

/-- A request frame carries the request: fields fit their bytes and the frame its 255 (R165, R189). -/
def Request.wf : Request → Bool
  | .identity => true
  | .nodeIdentifier i => fitsWord i
  | .release => true
  | .restart => true
  | .takeControl => true
  | .yieldControl => true
  | .yieldPermission v => fitsByte v
  | .portSetup p b => fitsByte p && b.wf
  | .portStatus p => fitsByte p
  | .portGrade p => fitsByte p
  | .assignPort p d => fitsByte p && fitsByte d
  | .assignShelf s d => fitsByte s && fitsByte d
  | .pendingPartition => true
  | .applyPartition => true
  | .discardPartition => true
  | .domainSetup d b => fitsByte d && b.wf
  | .priorityList d ps => fitsByte d && ps.all fitsByte && decide (6 + ps.length ≤ 255)
  | .domainReport d => fitsByte d
  | .eventReport e => fitsByte e
  | .eventMask e m => fitsByte e && fitsWord m
  | .lineSetup l d => fitsByte l && fitsByte d
  | .rankingReport s => fitsByte s
  | .shelfReport s => fitsByte s
  | .changeReport e => fitsByte e
  | .queueReport => true
  | .pin s p => fitsByte s && fitsByte p
  | .steer s p => fitsByte s && fitsByte p
  | .clearSteering s => fitsByte s
  | .bar s p => fitsByte s && fitsByte p
  | .allow s p => fitsByte s && fitsByte p
  | .openWindow a b c d o => fitsByte a && fitsByte b && fitsByte c && fitsByte d && fitsByte o
  | .writeWindow cs => decide (6 + (cs.length + 7) / 8 ≤ 255)
  | .continueWindow cs => decide (6 + (cs.length + 7) / 8 ≤ 255)
  | .exclusionRow s => fitsByte s
  | .outputSetup s b => fitsByte s && b.wf
  | .outputReport s => fitsByte s
  | .oscillatorCheck => true
  | .oscillatorReport => true

/-- The request a request row stands for, with its control port; the other rows carry none. -/
def Instr.request? : Instr → Option (ControlPort × Request)
  | .identity cp => some (cp, .identity)
  | .nodeIdentifier cp i => some (cp, .nodeIdentifier i)
  | .release cp => some (cp, .release)
  | .restart cp => some (cp, .restart)
  | .takeControl cp => some (cp, .takeControl)
  | .yieldControl cp => some (cp, .yieldControl)
  | .yieldPermission cp v => some (cp, .yieldPermission v)
  | .portSetup cp p b => some (cp, .portSetup p b)
  | .portStatus cp p => some (cp, .portStatus p)
  | .portGrade cp p => some (cp, .portGrade p)
  | .assignPort cp p d => some (cp, .assignPort p d)
  | .assignShelf cp s d => some (cp, .assignShelf s d)
  | .pendingPartition cp => some (cp, .pendingPartition)
  | .applyPartition cp => some (cp, .applyPartition)
  | .discardPartition cp => some (cp, .discardPartition)
  | .domainSetup cp d b => some (cp, .domainSetup d b)
  | .priorityList cp d ps => some (cp, .priorityList d ps)
  | .domainReport cp d => some (cp, .domainReport d)
  | .eventReport cp e => some (cp, .eventReport e)
  | .eventMask cp e m => some (cp, .eventMask e m)
  | .lineSetup cp l d => some (cp, .lineSetup l d)
  | .rankingReport cp s => some (cp, .rankingReport s)
  | .shelfReport cp s => some (cp, .shelfReport s)
  | .changeReport cp e => some (cp, .changeReport e)
  | .queueReport cp => some (cp, .queueReport)
  | .pin cp s p => some (cp, .pin s p)
  | .steer cp s p => some (cp, .steer s p)
  | .clearSteering cp s => some (cp, .clearSteering s)
  | .bar cp s p => some (cp, .bar s p)
  | .allow cp s p => some (cp, .allow s p)
  | .openWindow cp a b c d o => some (cp, .openWindow a b c d o)
  | .writeWindow cp cs => some (cp, .writeWindow cs)
  | .continueWindow cp cs => some (cp, .continueWindow cs)
  | .exclusionRow cp s => some (cp, .exclusionRow s)
  | .outputSetup cp s b => some (cp, .outputSetup s b)
  | .outputReport cp s => some (cp, .outputReport s)
  | .oscillatorCheck cp => some (cp, .oscillatorCheck)
  | .oscillatorReport cp => some (cp, .oscillatorReport)
  | .frameWrite _ _ => none
  | .replyRead _ _ => none
  | .resync _ _ => none
  | .statusOnlyTransaction _ _ _ => none
  | .voidTransaction _ _ => none
  | .resetAssert => none
  | .resetRelease _ => none
  | .powerOn _ => none
  | .activityConfirmation _ => none
  | .activityLoss _ => none
  | .measurementWindowComplete _ _ => none
  | .restoreTimerExpiry _ => none
  | .waiverDeadlinePasses _ => none
  | .gradeMessage _ _ _ => none
  | .collectingGapTimeout _ => none
  | .gradeTimerExpiry _ => none
  | .holdOffExpiry _ => none
  | .settleComplete _ => none
  | .holdoverLimitExpiry _ => none
  | .guardAbsent => none
  | .guardPresent => none
  | .backgroundWindowComplete _ => none
  | .checkComplete _ => none
  | .outputSeam _ => none
  | .gradeMessageSend _ => none
  | .gradeMessageSendEnd _ => none
  | .gradeLineByteReceived _ _ _ => none
  | .requestReplyPlaced => none
  | .learnTimeReached _ => none

/-- The length bytes a complete grade message can have (R22). -/
def gradeLengths : List Nat := [5, 7, 9, 11, 13, 15, 17, 19]

/-- The bytes after the marker are a complete message: a length byte R22 allows and as many bytes as it states. -/
def completeGradeBytes : List Byte → Bool
  | [] => false
  | l :: rest => gradeLengths.contains l.toNat && decide (rest.length = l.toNat)

/-- A command that can come: a request its frame can carry, a status-only opener that is none of the three named
openers (R188), a void transaction of fewer than eight bits (R163), a grade message that is complete (R22). -/
def Instr.wf (i : Instr) : Bool :=
  match i.request? with
  | some (_, r) => r.wf
  | none =>
    match i with
    | .statusOnlyTransaction _ o _ => !([0x5A#8, 0xA5#8, 0x3C#8].contains o)
    | .voidTransaction _ bits => decide (bits < 8)
    | .gradeMessage _ bytes _ => completeGradeBytes bytes
    | _ => true

end Sys2Proof
end

