-- ==== Sys2Proof/Machine/Receiver.lean ====
section
/-!
DEFINITION. The Grade Receivers (chapter 2): assembling messages, malformed messages, accepting grades, the grade
timeout and the loop flag.
-/

namespace Sys2Proof.Machine

/-- Back to HUNTING (R22). -/
def Grade.hunt (g : Grade) : Grade := { g with receiver := .hunting }

/-- A malformed message: counted, stopping at 255, and nothing else (R24). -/
def Grade.malform (g : Grade) : Grade := { g.hunt with malformed := min 255 (g.malformed + 1) }

/-- R28, R29: the accepted grade and the pending grade after a valid message with grade `received`. -/
def Grade.judge (g : Grade) (confirm received : Nat) : Nat × Option (Nat × Nat) :=
  if received = 0 || received = 15 || decide (gradeRank g.accepted ≤ gradeRank received) then (received, none)
  else if confirm ≤ 1 then (received, none)
  else
    match g.pendingGrade with
    | some (value, count) =>
      if value = received then
        if confirm ≤ count + 1 then (received, none) else (g.accepted, some (value, count + 1))
      else (g.accepted, some (received, 1))
    | none => (g.accepted, some (received, 1))

/-- R26: the one change a valid message makes to a grade record. -/
def Grade.receive (g : Grade) (setup : PortSetup) (own : NodeId) (m : GradeMsg) : Grade :=
  let judged := g.judge setup.confirmCount m.grade
  { g.hunt with
    accepted := judged.1, pendingGrade := judged.2, holdover := m.holdover, truncated := m.truncated, trace := m.trace,
    timer := some (setup.gradeTimeout * 1000), loopFlag := m.trace.contains own }

/-- R31: the grade timer expires. -/
def Grade.expire (g : Grade) : Grade :=
  { g with accepted := 0, pendingGrade := none, holdover := false, truncated := false, trace := [], timer := none,
           loopFlag := false }

/-- R34: the loop flag against a node identifier. -/
def Grade.reloop (g : Grade) (own : NodeId) : Grade := { g with loopFlag := g.trace.contains own }

/-- Write a grade record with the events of R36: GRADE when the accepted grade changed, LOOP when the loop flag went
from clear to set. -/
def State.putGrade (s : State) (p : PortId) (g : Grade) : State :=
  let old := s.grades[p]
  let t := s.setGrade p g
  let t := if g.accepted = old.accepted then t else t.raisePort p .grade
  if g.loopFlag && !old.loopFlag then t.raisePort p .loop else t

/-- A complete message (its bytes after the marker) is checked and handled (R23, R24, R26). -/
def State.completeMessage (s : State) (p : PortId) (bytes : List Byte) (framingError : Bool) : State :=
  match GradeMsg.ofBytes bytes framingError with
  | some m => s.putGrade p (s.grades[p].receive s.ports[p].setup s.nodeId m)
  | none => s.setGrade p s.grades[p].malform

/-- One byte on a grade line (R22); a port that is OFF ignores it (R35). -/
def State.receiveByte (s : State) (p : PortId) (b : Byte) (framingError : Bool) : State :=
  if s.ports[p].state == .off then s
  else
    match s.grades[p].receiver with
    | .hunting =>
      if framingError || b != 0x7E#8 then s
      else s.setGrade p { s.grades[p] with receiver := .collecting [] false }
    | .collecting [] _ =>
      if framingError || !gradeLengths.contains b.toNat then s.setGrade p s.grades[p].malform
      else s.setGrade p { s.grades[p] with receiver := .collecting [b] false }
    | .collecting (len :: rest) bad =>
      if rest.length + 1 < len.toNat then
        s.setGrade p { s.grades[p] with receiver := .collecting (len :: (rest ++ [b])) (bad || framingError) }
      else s.completeMessage p (len :: (rest ++ [b])) (bad || framingError)

/-- A gap of more than 5 ms while collecting (R22). -/
def State.gapTimeout (s : State) (p : PortId) : State :=
  match s.grades[p].receiver with
  | .hunting => s
  | .collecting _ _ => s.setGrade p s.grades[p].malform

/-- Every port's loop flag recomputed against a new node identifier (R34, R185). -/
def State.setNodeId (s : State) (own : NodeId) : State :=
  (List.finRange 24).foldl (fun t p => t.putGrade p (t.grades[p].reloop own)) { s with nodeId := own }

end Sys2Proof.Machine
end

