-- ==== Sys2Proof/Machine/Phase.lean ====
section
/-!
DEFINITION. The fault latch and the checks (6.4, 6.5), the end of INIT, release (10.3, 10.4, R87, R133), reset, power-on
and RESTART (R180, R181, R187).
-/

namespace Sys2Proof.Machine

/-! ## The fault latch -/

/-- What the setting of the latch does to a shelf (R115). -/
def State.distrustShelf (s : State) (sh : ShelfId) : State :=
  let t := s.setShelf sh { s.shelves[sh] with learned := 0, valid := false }
  if s.shelves[sh].state.isHoldover then t.enterState sh .freerun (some .oscFault) (some .freerun) else t

/-- The latch is set (R114, R115); a setting that finds it set changes only the source. -/
def State.setLatch (s : State) (source : LatchSource) : State :=
  let t := s.setOsc { s.osc with latch := true, source := some source }
  if s.osc.latch then t
  else
    let t := (List.finRange 48).foldl State.distrustShelf t
    ((List.finRange 24).foldl State.distrustPort t).raisePart .oscFault

/-- The latch is cleared by a PASS (R114, R116). -/
def State.clearLatch (s : State) : State := (s.setOsc { s.osc with latch := false }).syncWindows

/-! ## Release -/

/-- A HELD shelf leaves HELD (R87, R133); a shelf with a nominee joins the queue, and no unit is lent yet. -/
def State.releaseShelf (s : State) (sh : ShelfId) : State :=
  match s.shelves[sh].state with
  | .held nominee =>
    if (s.shelfDomain sh).isNone then s.enterState sh .parked (some .release) none
    else
      let t :=
        match s.shelves[sh].steering with
        | .steer p => if nominee = some p then s else s.loseSteering sh
        | .auto => s
        | .pin _ => s
      match nominee with
      | some p => (t.enterState sh (.queued p) (some .release) (some .switch)).setQueue (t.queue ++ [sh])
      | none => t.enterState sh .freerun (some .release) (some .freerun)
  | _ => s

/-- Every shelf leaves HELD in ascending number, then the idle units are lent (R87). -/
def State.releaseShelves (s : State) : State := ((List.finRange 48).foldl State.releaseShelf s).lend

/-- A change of phase: PHASE is raised and the windows follow (R15, R182). -/
def State.enterPhase (s : State) (phase : PartPhase) : State :=
  ({ s with phase := phase } : State).syncWindows.raisePart .phase

/-- HELD, or INIT with automatic release, to RUNNING (R87, R183, R184). -/
def State.release (s : State) : State := (s.enterPhase .running).releaseShelves

/-- The end of INIT (R183). -/
def State.endInit (s : State) (outcome : CheckOutcome) : State :=
  if outcome = .pass && !s.straps.holdMode then s.release else s.enterPhase .held

/-! ## Checks -/

/-- A check ends with an outcome (R118); the initial check ends INIT (R183). -/
def State.endCheck (s : State) (outcome : CheckOutcome) (difference : Option Int) : State :=
  let t := s.setOsc { s.osc with check := none, lastOutcome := some outcome, lastCheckDiff := difference }
  let t :=
    match outcome with
    | .pass => if s.osc.latch then t.clearLatch else t
    | .fail => t.setLatch .check
    | .inconclusive => t
  let t := t.raisePart .checkDone
  if s.phase = .init then t.endInit outcome else t

/-- A difference of 20 ppm or less passes (R113, R118). -/
def passes (difference : Int) : Bool := decide (|difference| ≤ 2000)

/-- A background window completes (R113); the next starts at once. -/
def State.completeBackground (s : State) (measured : Int) : State :=
  let difference := roundOffset measured
  let t := s.setOsc { s.osc with bgWindow := some 0, lastBackground := some difference }
  if passes difference then t else t.setLatch .window

/-- A check's 4 s end with the guard present throughout (R118). -/
def State.completeCheck (s : State) (measured : Int) : State :=
  s.endCheck (if passes (roundOffset measured) then .pass else .fail) (some (roundOffset measured))

/-- The guard is judged absent (R112, R113, R118). -/
def State.loseGuard (s : State) : State :=
  let t := s.setOsc { s.osc with guardPresent := false, guardSince := s.now, bgWindow := none }
  if s.osc.check.isSome then t.endCheck .inconclusive none else t

/-- The guard is judged present again; a background window starts (R112, R113). -/
def State.findGuard (s : State) : State :=
  s.setOsc { s.osc with guardPresent := true, guardSince := s.now, bgWindow := some 0 }

/-- A check starts (R118); with the guard absent it ends at once, INCONCLUSIVE. -/
def State.startCheck (s : State) : State :=
  if s.osc.guardPresent then s.setOsc { s.osc with check := some 4000 } else s.endCheck .inconclusive none

/-! ## Reset -/

/-- RESET_N rises: the straps are sampled and every block takes its reset values (R180, R181). -/
def State.rise (s : State) (pins : Straps) : State :=
  State.atReset pins (shunMsg (nodeIdOf pins)).bytes s.now s.freeCount s.pending

/-- What the part holds while RESET_N is low: everything in progress is abandoned (R181), every line is idle, and the
records stand at the values the next rise gives them (notes/assumptions/11.md). -/
def State.silenced (s : State) : State :=
  { s with
    outputs := s.outputs.map fun (o : Output) => { o with sending := none, lastSent := none, lastStart := none },
    osc := { s.osc with bgWindow := none, check := none } }

/-- RESET_N falls (R181). -/
def State.assertReset (s : State) : State :=
  { (s.rise s.straps).silenced with resetPin := false, internalReset := s.internalReset }

/-- RESET_N rises: a rise of the part, unless the power-on reset is still active (R181). -/
def State.riseOfPin (s : State) (pins : Straps) : State :=
  if s.resetPin then s
  else if s.internalReset then { s with resetPin := true }
  else s.rise pins

/-- Supplies come within range and the internal power-on reset ends (R181); with RESET_N high this acts as its rise. -/
def State.powerUp (s : State) (pins : Straps) : State :=
  if s.resetPin then s.rise pins else { s.assertReset with internalReset := false }

/-- RESTART (R179, R187): the reset values, with the straps, the active port and the OK reply to the port that asked
kept; PHASE is latched in the emptied part set. -/
def State.restartPart (s : State) (cp : ControlPort) (reply : List Byte) : State :=
  let t : State := { s.rise s.straps with active := s.active }
  ((t.raisePart .phase).setCpi cp
    { Cpi.atReset with stage := .reply reply, shifted := (s.cpi cp).shifted,
                       shiftedBits := (s.cpi cp).shiftedBits }).setCpi (otherPort cp)
    { Cpi.atReset with shifted := (s.cpi (otherPort cp)).shifted,
                       shiftedBits := (s.cpi (otherPort cp)).shiftedBits }

end Sys2Proof.Machine
end

