-- ==== Sys2Proof/Machine/Replies.lean ====
section
/-!
DEFINITION. Reply frames (R168, R189) and the bodies of the reports, each field in the order its rule lists it and in
the encoding of R190. The layouts the spec leaves open are in notes/assumptions/23.md and 24.md.
-/

namespace Sys2Proof.Machine

/-- The thirteen result codes (R189). -/
inductive ResultCode where
  | ok
  | noChange
  | badFrame
  | unknownKind
  | badField
  | notActive
  | wrongPhase
  | busy
  | notInDomain
  | notEligible
  | conflict
  | noWindow
  | denied
  deriving DecidableEq, Repr

/-- R189. -/
def ResultCode.code : ResultCode → Byte
  | .ok => 0x00
  | .noChange => 0x01
  | .badFrame => 0x10
  | .unknownKind => 0x11
  | .badField => 0x12
  | .notActive => 0x20
  | .wrongPhase => 0x21
  | .busy => 0x22
  | .notInDomain => 0x30
  | .notEligible => 0x31
  | .conflict => 0x32
  | .noWindow => 0x33
  | .denied => 0x34

/-- A result code with its body (R168). -/
structure Reply where
  code : ResultCode
  body : List Byte
  deriving DecidableEq, Repr

/-- OK with a body. -/
def Reply.ok (body : List Byte) : Reply := { code := .ok, body := body }

/-- Any other code: the body is empty (R168). -/
def Reply.plain (code : ResultCode) : Reply := { code := code, body := [] }

/-- A frame around a code byte and a body: length, code, body, CRC-16 (R189, R192). -/
def frameOf (code : Byte) (body : List Byte) : List Byte :=
  let covered := byte (4 + body.length) :: code :: body
  covered ++ be16 (crc16 covered).toNat

/-- The reply frame (R168). -/
def Reply.frame (r : Reply) : List Byte := frameOf r.code.code r.body

/-! ## Report bodies -/

/-- Part code 0x4824 and revision 0x01 (R190); that they are two bytes and one is the model's choice
(notes/assumptions/23.md). -/
def partCode : List Byte := [0x48, 0x24, 0x01]

/-- IDENTITY (R186); the codes of the active port, the phase and the straps are the model's (notes/assumptions/23.md). -/
def State.identityBody (s : State) (cp : ControlPort) : List Byte :=
  partCode ++ nodeIdBytes s.nodeId ++
    [phaseCode s.phase, controlPortCode s.active, flagByte (s.active == cp), flagByte s.straps.ctlSel,
     flagByte s.straps.holdMode, byte s.straps.nid.val]

/-- A port setup in the order of R1. -/
def portSetupBytes (p : PortSetup) : List Byte :=
  [flagByte p.enabled, rateCode p.rate, byte p.lossDwell, bandCode p.band, byte p.gradeTimeout, byte p.confirmCount]

/-- PORT STATUS (R19). -/
def State.portStatusBody (s : State) (p : PortId) : List Byte :=
  let r := s.ports[p]
  [byte p.val, domainCode (s.portDomain p), portStateCode r.state] ++ portSetupBytes r.setup ++
    [flagByte r.activity, flagByte r.window.isSome, byte r.outRun, byte r.inRun] ++ offsetCode r.offset ++
    timeCode r.restoreLeft ++ timeCode (r.waiver.map (· - s.now)) ++ [flagByte r.dropped, flagByte r.faulted]

/-- A list of identifiers with its count (R190). -/
def traceBytes (trace : List NodeId) : List Byte := byte trace.length :: trace.flatMap nodeIdBytes

/-- PORT GRADE (R38). -/
def State.portGradeBody (s : State) (p : PortId) : List Byte :=
  let g := s.grades[p]
  [byte p.val, domainCode (s.portDomain p), byte g.accepted] ++ pendingGradeCode g.pendingGrade ++
    [flagByte g.holdover, flagByte g.truncated] ++ traceBytes g.trace ++ timeCode g.timer ++
    [byte g.malformed, flagByte g.loopFlag]

/-- How many ports change domain from one partition to the other. -/
def portsDiffering (a b : Partition) : Nat := ((List.finRange 24).filter fun p => a.ports[p] != b.ports[p]).length

/-- How many shelves change domain from one partition to the other. -/
def shelvesDiffering (a b : Partition) : Nat :=
  ((List.finRange 48).filter fun sh => a.shelves[sh] != b.shelves[sh]).length

/-- PENDING PARTITION (R43): 24 and 48 domain values without a count byte, the model's choice
(notes/assumptions/23.md). -/
def State.pendingPartitionBody (s : State) : List Byte :=
  s.pendingPart.ports.toList.map domainCode ++ s.pendingPart.shelves.toList.map domainCode ++
    [byte (portsDiffering s.pendingPart s.current), byte (shelvesDiffering s.pendingPart s.current)]

/-- A domain setting record in the order of R49, with the assumed grade after the policy (R189). -/
def domainBytes (d : Domain) : List Byte :=
  [byte d.minGrade, flagByte d.assume.isSome, byte (d.assume.getD 0), flagByte d.revertive] ++ be16 d.holdOff ++
    be16 d.restoreTime ++ [byte d.maxHops, truncatedPolicyCode d.truncatedPolicy, byte d.settleTime] ++
    be16 d.learnTime ++ be16 (d.limit.getD 0) ++ [byte d.holdoverGrade, byte d.freeRunGrade]

/-- How many shelves of a domain are in the state with this index (5.1). -/
def State.shelfCount (s : State) (d : DomainId) (index : Fin 8) : Nat :=
  ((List.finRange 48).filter fun sh =>
    s.shelfDomain sh == some d && shelfStateIndex s.shelves[sh].state == index).length

/-- DOMAIN REPORT (R53): the eight state counts without a count byte, the model's choice (notes/assumptions/23.md). -/
def State.domainReportBody (s : State) (d : DomainId) : List Byte :=
  domainBytes s.domains[d] ++ (byte s.lists[d].length :: s.lists[d].map fun p => byte p.val) ++
    (byte (s.portsOf d).length :: (List.finRange 8).map fun i => byte (s.shelfCount d i))

/-- EVENT REPORT (R59); `none` selects PART. -/
def State.eventReportBody (s : State) (selector : Option DomainId) : List Byte :=
  match selector with
  | some d => be16 s.domainEvents[d].latched.toNat ++ be16 s.domainEvents[d].mask.toNat
  | none => be16 s.partEvents.latched.toNat ++ be16 s.partEvents.mask.toNat

/-- RANKING REPORT (R72). -/
def State.rankingReportBody (s : State) (sh : ShelfId) : List Byte :=
  let entries := s.eligibleList sh
  let out := (s.verdicts sh).filter fun v => v.first.isSome
  [byte sh.val, domainCode (s.shelfDomain sh)] ++ steeringCodes s.shelves[sh].steering ++
    (byte entries.length :: entries.flatMap fun e =>
      [byte e.port.val, byte e.grade, flagByte e.assumed, flagByte e.holdover, byte e.position]) ++
    (byte out.length :: out.flatMap fun v => [byte v.port.val, reasonCode v.first, reasonCode v.second])

/-- A shelf's place in the queue, counted from 1 (R102). -/
def State.queuePlace (s : State) (sh : ShelfId) : Option Nat := (s.queue.idxOf? sh).map (· + 1)

/-- The hold-off remaining, in BRIDGE (R75). -/
def ShelfState.holdOffLeft? : ShelfState → Option Nat
  | .bridge _ left => some left
  | _ => none

/-- The settle remaining, in ACQUIRE (R75). -/
def ShelfState.settleLeft? : ShelfState → Option Nat
  | .acquire _ left => some left
  | _ => none

/-- The holdover limit remaining, in HOLDOVER (R75). -/
def ShelfState.limitLeft? : ShelfState → Option (Option Nat)
  | .holdover left => some left
  | _ => none

/-- SHELF REPORT (R102). -/
def State.shelfReportBody (s : State) (sh : ShelfId) : List Byte :=
  let r := s.shelves[sh]
  [byte sh.val, domainCode (s.shelfDomain sh), shelfStateCode r.state] ++ steeringCodes r.steering ++
    [portCode r.state.reference?, portCode r.state.target?, portCode (r.state.pending?.map (·.1)),
     causeCode (r.state.pending?.map (·.2)), (match s.queuePlace sh with | some n => byte n | none => 0xFF),
     (match s.unitOf sh with | some u => byte u.val | none => 0xFF)] ++
    timeCode r.state.holdOffLeft? ++ timeCode r.state.settleLeft? ++ be32 (r.learned / 1000) ++ [flagByte r.valid] ++
    limitLeftCode r.state.limitLeft? ++ [portCode r.state.nominee?, causeCode r.lastCause, flagByte r.changed]

/-- The port a shelf names (R103). -/
def ShelfState.named? (st : ShelfState) : Option PortId := st.reference?.or st.target?

/-- CHANGE REPORT (R103). -/
def State.changeReportBody (s : State) (selector : Option DomainId) : List Byte :=
  let listed := (List.finRange 48).filter (s.listsChange selector)
  byte listed.length :: listed.flatMap fun sh =>
    [byte sh.val, domainCode (s.shelfDomain sh), shelfStateCode s.shelves[sh].state,
     portCode s.shelves[sh].state.named?, causeCode s.shelves[sh].lastCause]

/-- QUEUE REPORT (R104). -/
def State.queueReportBody (s : State) : List Byte :=
  ((List.finRange 6).flatMap fun u =>
    match s.units[u] with
    | some sh =>
      [flagByte true, byte sh.val, portCode s.shelves[sh].state.target?] ++ timeCode s.shelves[sh].state.settleLeft?
    | none => [flagByte false, shelfCode none, portCode none] ++ timeCode none) ++
    (byte s.queue.length :: s.queue.flatMap fun sh =>
      [byte sh.val, shelfStateCode s.shelves[sh].state,
       portCode (s.shelves[sh].state.target?.or (s.shelves[sh].state.pending?.map (·.1)))])

/-- A window's shelves and ports. -/
def Window.shelfSpan (w : Window) : Nat := w.lastShelf.val - w.firstShelf.val + 1
def Window.portSpan (w : Window) : Nat := w.lastPort.val - w.firstPort.val + 1

/-- The window's cell count (R137). -/
def Window.count (w : Window) : Nat := w.shelfSpan * w.portSpan

/-- The cell at a place of the scan sequence (R138), counted from 0. -/
def Window.cellAt (w : Window) (place : Nat) : Option (ShelfId × PortId) :=
  let pair :=
    match w.order with
    | .byShelf => (w.firstShelf.val + place / w.portSpan, w.firstPort.val + place % w.portSpan)
    | .byPort => (w.firstShelf.val + place % w.shelfSpan, w.firstPort.val + place / w.shelfSpan)
  if place < w.count then
    match shelfOf pair.1, portOf pair.2 with
    | some sh, some p => some (sh, p)
    | _, _ => none
  else none

/-- The cursor: shelf, then port, or 0xFF twice for end (R190). -/
def Window.cursorBytes (w : Window) : List Byte :=
  match w.cellAt w.cursor with
  | some (sh, p) => [byte sh.val, byte p.val]
  | none => [0xFF, 0xFF]

/-- EXCLUSION ROW (R144). -/
def State.exclusionRowBody (s : State) (sh : ShelfId) : List Byte :=
  [byte sh.val, domainCode (s.shelfDomain sh)] ++ ((List.finRange 24).map fun p => flagByte (s.barred sh p)) ++
    (match s.window with
      | some w =>
        [flagByte true, byte w.firstShelf.val, byte w.lastShelf.val, byte w.firstPort.val, byte w.lastPort.val,
         orderCode w.order] ++ w.cursorBytes
      | none => flagByte false :: List.replicate 7 0xFF)

/-- An output setup in the order of R145. -/
def outputSetupBytes (o : OutputSetup) : List Byte :=
  [flagByte o.enabled, modeCode o.mode, flagByte o.divide, flagByte o.invert, squelchCode o.squelch]

/-- Ms until the next message is due (R160, R162). -/
def Output.untilDue (o : Output) (now : Nat) : Option Nat :=
  if o.sendDue then some 0 else o.dueAt.map (· - now)

/-- The outgoing message as OUTPUT REPORT shows it; a disabled output has none. -/
def outgoingBytes : Option GradeMsg → List Byte
  | some m => [byte m.grade, flagByte m.holdover, flagByte m.truncated] ++ traceBytes m.trace
  | none => [Config.unstatedByte 5, Config.unstatedByte 6, Config.unstatedByte 7] ++ traceBytes []

/-- OUTPUT REPORT (R162). -/
def State.outputReportBody (s : State) (sh : ShelfId) : List Byte :=
  let o := s.outputs[sh]
  [byte sh.val, domainCode (s.shelfDomain sh), shelfStateCode s.shelves[sh].state] ++ outputSetupBytes o.active ++
    (match o.pendingSetup with
      | some p => outputSetupBytes p
      | none => (List.range 5).map Config.unstatedByte) ++
    [driveCode o.drive, driveReasonCode o.reason] ++ trackerCodes o.tracker ++ outgoingBytes o.outgoing ++
    [flagByte o.frozen.isSome] ++ timeCode (o.lastStart.map (s.now - ·)) ++ [flagByte o.changedMark] ++
    timeCode (o.untilDue s.now)

/-- OSCILLATOR REPORT (R120); guard presence as 1 present, 0 absent is the model's choice (notes/assumptions/23.md). -/
def State.oscillatorReportBody (s : State) : List Byte :=
  [flagByte s.osc.latch, sourceCode s.osc.source, flagByte s.osc.guardPresent, flagByte s.osc.bgWindow.isSome] ++
    timeCode (s.osc.bgWindow.map (· / 1000)) ++ offsetCode s.osc.lastBackground ++ [flagByte s.osc.check.isSome] ++
    timeCode s.osc.check ++ [outcomeCode s.osc.lastOutcome] ++ offsetCode s.osc.lastCheckDiff

end Sys2Proof.Machine
end

