-- ==== Sys2Proof/Machine/DomainRequests.lean ====
section
/-!
DEFINITION. The requests of chapter 3: partitions, domain settings, priority lists, event sets, masks and lines.
-/

namespace Sys2Proof.Machine

/-! ## Partitions -/

/-- ASSIGN PORT (R41). -/
def State.doAssignPort (s : State) (port domain : Nat) : State × Reply :=
  match portOf port, domainValueOf domain with
  | some p, some d =>
    if s.pendingPart.ports[p] = d then (s, Reply.plain .noChange)
    else ({ s with pendingPart := { s.pendingPart with ports := s.pendingPart.ports.set p d } }, Reply.ok [])
  | _, _ => (s, Reply.plain .badField)

/-- ASSIGN SHELF (R42). -/
def State.doAssignShelf (s : State) (shelf domain : Nat) : State × Reply :=
  match shelfOf shelf, domainValueOf domain with
  | some sh, some d =>
    if s.pendingPart.shelves[sh] = d then (s, Reply.plain .noChange)
    else ({ s with pendingPart := { s.pendingPart with shelves := s.pendingPart.shelves.set sh d } }, Reply.ok [])
  | _, _ => (s, Reply.plain .badField)

/-- PENDING PARTITION (R43). -/
def State.doPendingPartition (s : State) : State × Reply := (s, Reply.ok s.pendingPartitionBody)

/-- DISCARD PARTITION (R44). -/
def State.doDiscardPartition (s : State) : State × Reply :=
  if s.pendingPart = s.current then (s, Reply.plain .noChange)
  else ({ s with pendingPart := s.current }, Reply.ok [])

/-- The pending partition becomes current and the lists are pruned (R45, R46). -/
def State.repartition (s : State) : State :=
  { s with current := s.pendingPart,
           lists := Vector.ofFn fun d => s.lists[d].filter fun p => s.pendingPart.ports[p] == some d }

/-- A shelf whose domain changed (R47). That one whose steering was dropped while it waited LOCKED keeps its place in the
queue (R84) is the model's choice (notes/assumptions/44.md). -/
def State.moveShelf (old s : State) (sh : ShelfId) : State :=
  let t := if s.shelves[sh].steering = .auto then s else s.loseSteering sh
  if t.shelves[sh].state.isHeld then t
  else if (t.shelfDomain sh).isNone then t.park sh .partition
  else if (old.shelfDomain sh).isNone then t.reselect sh .assigned
  else
    match t.shelves[sh].state with
    | .queued _ => t.reselect sh .partition
    | .acquire _ _ => t.reselect sh .partition
    | .locked _ _ => t.reselect sh .partition
    | .bridge _ _ => t.reselect sh .partition
    | _ => t.actAuto sh Ctx.failing

/-- The port a shelf is steered to. -/
def Steering.port? : Steering → Option PortId
  | .auto => none
  | .steer p => some p
  | .pin p => some p

/-- A shelf whose domain did not change (R48). That a move after lost steering has cause PARTITION
(notes/assumptions/18.md), and that a shelf that was waiting then joins the queue at its tail (44.md), are the model's. -/
def State.keepShelf (old s : State) (sh : ShelfId) : State :=
  match s.shelves[sh].steering.port? with
  | some p =>
    if s.sameDomain sh p then State.meet old s sh Ctx.failing
    else s.actUnsteered sh { forced := some .partition, strict := true, ceased := false }
  | none => State.meet old s sh Ctx.failing

/-- What one shelf does in an apply (R47, R48). -/
def State.applyToShelf (old s : State) (sh : ShelfId) : State :=
  if old.shelfDomain sh = s.shelfDomain sh then State.keepShelf old s sh else State.moveShelf old s sh

/-- The shelves an apply reaches: those that moved and those handed something new. -/
def State.appliedTo (old s : State) : List ShelfId :=
  (List.finRange 48).filter fun sh => old.shelfDomain sh != s.shelfDomain sh || old.handed sh != s.handed sh

/-- A HOLDOVER or FREERUN shelf whose state no longer matches its record (R109): the cause is kept. -/
def State.judgeShelf (s : State) (sh : ShelfId) : State :=
  match s.shelves[sh].state with
  | .holdover _ => if s.holdoverValid sh then s else s.enterRest sh none
  | .freerun => if s.holdoverValid sh then s.enterRest sh none else s
  | _ => s

/-- R109 for every shelf. -/
def State.judgeShelves (s : State) : State := (List.finRange 48).foldl State.judgeShelf s

/-- APPLY PARTITION (R45 to R48). -/
def State.doApplyPartition (s : State) : State × Reply :=
  if s.pendingPart = s.current then (s, Reply.plain .noChange)
  else
    let t := s.repartition.raisePart .applied
    let moved := (t.inTurn (State.appliedTo s t) (State.applyToShelf s)).judgeShelves
    (State.refresh s moved,
     Reply.ok [byte (portsDiffering s.pendingPart s.current), byte (shelvesDiffering s.pendingPart s.current)])

/-! ## Domain settings and lists -/

/-- The shelves a DOMAIN SETUP reaches: those handed something new (R68), and, where revertive changed, the domain's
LOCKED shelves under AUTO, which apply the switch rule to it (R50, R95, R123). -/
def State.resetupShelves (old s : State) (d : DomainId) : List ShelfId :=
  (List.finRange 48).filter fun sh =>
    old.handed sh != s.handed sh ||
      (old.domains[d].revertive != s.domains[d].revertive && s.shelfDomain sh == some d &&
        s.shelves[sh].steering == .auto && s.shelves[sh].state.isLocked)

/-- DOMAIN SETUP (R50). -/
def State.doDomainSetup (s : State) (domain : Nat) (body : DomainSetupBody) : State × Reply :=
  match domainOf domain, domainRecordOf body with
  | some d, some record =>
    if record = s.domains[d] then (s, Reply.plain .noChange)
    else
      let t : State := { s with domains := s.domains.set d record }
      let moved := (t.inTurn (State.resetupShelves s t d) fun t sh => State.meet s t sh Ctx.failing).judgeShelves
      (State.refresh s moved, Reply.ok [])
  | _, _ => (s, Reply.plain .badField)

/-- The port numbers of a list, `none` when one is greater than 23 (R52). -/
def portsNamed : List Nat → Option (List PortId)
  | [] => some []
  | n :: rest =>
    match portOf n, portsNamed rest with
    | some p, some ps => some (p :: ps)
    | _, _ => none

/-- Some port appears more than once (R52). -/
def hasDuplicate : List PortId → Bool
  | [] => false
  | p :: rest => rest.contains p || hasDuplicate rest

/-- PRIORITY LIST (R52). -/
def State.doPriorityList (s : State) (domain : Nat) (ports : List Nat) : State × Reply :=
  match domainOf domain, portsNamed ports with
  | some d, some list =>
    if 24 < ports.length then (s, Reply.plain .badField)
    else if hasDuplicate list then (s, Reply.plain .conflict)
    else if list.any (fun p => s.portDomain p != some d) then (s, Reply.plain .notInDomain)
    else if list = s.lists[d] then (s, Reply.plain .noChange)
    else (State.commit s { s with lists := s.lists.set d list } Ctx.failing, Reply.ok [])
  | _, _ => (s, Reply.plain .badField)

/-- DOMAIN REPORT (R53). -/
def State.doDomainReport (s : State) (domain : Nat) : State × Reply :=
  match domainOf domain with
  | some d => (s, Reply.ok (s.domainReportBody d))
  | none => (s, Reply.plain .badField)

/-! ## Events and lines -/

/-- EVENT REPORT (R59). -/
def State.doEventReport (s : State) (cp : ControlPort) (selector : Nat) : State × Reply :=
  match selectorOf selector with
  | some sel => (if s.active = cp then s.clearEvents sel else s, Reply.ok (s.eventReportBody sel))
  | none => (s, Reply.plain .badField)

/-- EVENT MASK (R56); a mask bit above the set's last kind names a kind outside the set (R190). -/
def State.doEventMask (s : State) (selector mask : Nat) : State × Reply :=
  match selectorOf selector with
  | some (some d) =>
    if 1024 ≤ mask then (s, Reply.plain .badField)
    else if BitVec.ofNat 10 mask = s.domainEvents[d].mask then (s, Reply.plain .noChange)
    else
      ({ s with domainEvents := s.domainEvents.set d (s.domainEvents[d].remask (BitVec.ofNat 10 mask)) }, Reply.ok [])
  | some none =>
    if 32 ≤ mask then (s, Reply.plain .badField)
    else if BitVec.ofNat 5 mask = s.partEvents.mask then (s, Reply.plain .noChange)
    else ({ s with partEvents := s.partEvents.remask (BitVec.ofNat 5 mask) }, Reply.ok [])
  | none => (s, Reply.plain .badField)

/-- LINE SETUP (R58); lines 0 to 3 are NTF0 to NTF3, line 4 is NTFP. -/
def State.doLineSetup (s : State) (line drive : Nat) : State × Reply :=
  match boundedOf line 5, lineDriveOf drive with
  | some l, some d =>
    if s.lineDrives[l] = d then (s, Reply.plain .noChange)
    else ({ s with lineDrives := s.lineDrives.set l d }, Reply.ok [])
  | _, _ => (s, Reply.plain .badField)

end Sys2Proof.Machine
end

