-- ==== Sys2Proof/Machine/Frames.lean ====
section
/-!
DEFINITION. Request frames (R165, R166, R189): the kinds with their codes and bodies, the frame receiver, and the
CPI's four checks.
-/

namespace Sys2Proof.Machine

/-! ## Bodies -/

/-- A body of no bytes. -/
def body0 (r : Request) : List Byte → Option Request
  | [] => some r
  | _ => none

/-- A body of one byte. -/
def body1 (f : Nat → Request) : List Byte → Option Request
  | [a] => some (f a.toNat)
  | _ => none

/-- A body of two bytes. -/
def body2 (f : Nat → Nat → Request) : List Byte → Option Request
  | [a, b] => some (f a.toNat b.toNat)
  | _ => none

def nodeIdentifierBody : List Byte → Option Request
  | [hi, lo] => some (.nodeIdentifier (word16 hi lo))
  | _ => none

def portSetupBody : List Byte → Option Request
  | [p, e, r, l, b, g, c] => some (.portSetup p.toNat ⟨e.toNat, r.toNat, l.toNat, b.toNat, g.toNat, c.toNat⟩)
  | _ => none

/-- Domain, then the record of 17 bytes in the field order of R49 (R189). -/
def domainSetupBody : List Byte → Option Request
  | [d, mg, ug, ag, rv, ho1, ho0, rt1, rt0, mh, tt, st, lt1, lt0, li1, li0, hg, fg] =>
    some (.domainSetup d.toNat
      { minGrade := mg.toNat, ungraded := ug.toNat, assumed := ag.toNat, revertive := rv.toNat,
        holdOff := word16 ho1 ho0, restoreTime := word16 rt1 rt0, maxHops := mh.toNat, truncatedTrace := tt.toNat,
        settleTime := st.toNat, learnTime := word16 lt1 lt0, limit := word16 li1 li0, holdoverGrade := hg.toNat,
        freeRunGrade := fg.toNat })
  | _ => none

/-- Domain, entry count n, n ports: the frame length must be 6 + n (R189). -/
def priorityListBody : List Byte → Option Request
  | d :: n :: ports => if ports.length = n.toNat then some (.priorityList d.toNat (ports.map (·.toNat))) else none
  | _ => none

def eventMaskBody : List Byte → Option Request
  | [e, hi, lo] => some (.eventMask e.toNat (word16 hi lo))
  | _ => none

def openWindowBody : List Byte → Option Request
  | [a, b, c, d, o] => some (.openWindow a.toNat b.toNat c.toNat d.toNat o.toNat)
  | _ => none

/-- Cell count c, packed cells: the frame length must be 6 + ⌈c/8⌉ (R189). -/
def windowBody (f : List CellValue → Request) : List Byte → Option Request
  | hi :: lo :: packed =>
    if packed.length = (word16 hi lo + 7) / 8 then some (f (cellsOfBytes (word16 hi lo) packed)) else none
  | _ => none

def outputSetupBody : List Byte → Option Request
  | [s, e, m, d, i, q] => some (.outputSetup s.toNat ⟨e.toNat, m.toNat, d.toNat, i.toNat, q.toNat⟩)
  | _ => none

/-- How the body of a kind is read: `none` for a code that is none of the 38, and `some f` where `f` answers `none` for
a body of the wrong length (R189). -/
def bodyReader (kind : Nat) : Option (List Byte → Option Request) :=
  match kind with
  | 0x01 => some (body0 .identity)
  | 0x02 => some nodeIdentifierBody
  | 0x03 => some (body0 .release)
  | 0x04 => some (body0 .restart)
  | 0x08 => some (body0 .takeControl)
  | 0x09 => some (body0 .yieldControl)
  | 0x0A => some (body1 .yieldPermission)
  | 0x10 => some portSetupBody
  | 0x11 => some (body1 .portStatus)
  | 0x18 => some (body1 .portGrade)
  | 0x20 => some (body2 .assignPort)
  | 0x21 => some (body2 .assignShelf)
  | 0x22 => some (body0 .pendingPartition)
  | 0x23 => some (body0 .applyPartition)
  | 0x24 => some (body0 .discardPartition)
  | 0x25 => some domainSetupBody
  | 0x26 => some priorityListBody
  | 0x27 => some (body1 .domainReport)
  | 0x28 => some (body1 .eventReport)
  | 0x29 => some eventMaskBody
  | 0x2A => some (body2 .lineSetup)
  | 0x30 => some (body1 .rankingReport)
  | 0x38 => some (body1 .shelfReport)
  | 0x39 => some (body1 .changeReport)
  | 0x3A => some (body0 .queueReport)
  | 0x40 => some (body2 .pin)
  | 0x41 => some (body2 .steer)
  | 0x42 => some (body1 .clearSteering)
  | 0x43 => some (body2 .bar)
  | 0x44 => some (body2 .allow)
  | 0x45 => some openWindowBody
  | 0x46 => some (windowBody .writeWindow)
  | 0x47 => some (windowBody .continueWindow)
  | 0x48 => some (body1 .exclusionRow)
  | 0x50 => some outputSetupBody
  | 0x51 => some (body1 .outputReport)
  | 0x58 => some (body0 .oscillatorCheck)
  | 0x59 => some (body0 .oscillatorReport)
  | _ => none

/-! ## Writing a request as a frame (R189) -/

/-- Eight cells as a byte, the first in bit 7; absent cells are 0. -/
def byteOfCells (cells : List CellValue) : Byte :=
  byte (((List.range 8).map fun i => if cells[i]? = some .bar then 2 ^ (7 - i) else 0).sum)

/-- Cells packed eight to a byte in scan order: `n` bytes. -/
def packCells : Nat → List CellValue → List Byte
  | 0, _ => []
  | n + 1, cells => byteOfCells (cells.take 8) :: packCells n (cells.drop 8)

/-- Cell count, packed cells. -/
def windowBytes (cells : List CellValue) : List Byte := be16 cells.length ++ packCells ((cells.length + 7) / 8) cells

/-- The kind byte and the body of a request. -/
def requestBytes : Request → Byte × List Byte
  | .identity => (0x01, [])
  | .nodeIdentifier i => (0x02, be16 i)
  | .release => (0x03, [])
  | .restart => (0x04, [])
  | .takeControl => (0x08, [])
  | .yieldControl => (0x09, [])
  | .yieldPermission v => (0x0A, [byte v])
  | .portSetup p b =>
    (0x10, [byte p, byte b.enabled, byte b.rate, byte b.lossDwell, byte b.band, byte b.gradeTimeout,
            byte b.confirmCount])
  | .portStatus p => (0x11, [byte p])
  | .portGrade p => (0x18, [byte p])
  | .assignPort p d => (0x20, [byte p, byte d])
  | .assignShelf sh d => (0x21, [byte sh, byte d])
  | .pendingPartition => (0x22, [])
  | .applyPartition => (0x23, [])
  | .discardPartition => (0x24, [])
  | .domainSetup d b =>
    (0x25, [byte d, byte b.minGrade, byte b.ungraded, byte b.assumed, byte b.revertive] ++ be16 b.holdOff ++
      be16 b.restoreTime ++ [byte b.maxHops, byte b.truncatedTrace, byte b.settleTime] ++ be16 b.learnTime ++
      be16 b.limit ++ [byte b.holdoverGrade, byte b.freeRunGrade])
  | .priorityList d ps => (0x26, byte d :: byte ps.length :: ps.map byte)
  | .domainReport d => (0x27, [byte d])
  | .eventReport e => (0x28, [byte e])
  | .eventMask e m => (0x29, byte e :: be16 m)
  | .lineSetup l d => (0x2A, [byte l, byte d])
  | .rankingReport sh => (0x30, [byte sh])
  | .shelfReport sh => (0x38, [byte sh])
  | .changeReport e => (0x39, [byte e])
  | .queueReport => (0x3A, [])
  | .pin sh p => (0x40, [byte sh, byte p])
  | .steer sh p => (0x41, [byte sh, byte p])
  | .clearSteering sh => (0x42, [byte sh])
  | .bar sh p => (0x43, [byte sh, byte p])
  | .allow sh p => (0x44, [byte sh, byte p])
  | .openWindow a b c d o => (0x45, [byte a, byte b, byte c, byte d, byte o])
  | .writeWindow cells => (0x46, windowBytes cells)
  | .continueWindow cells => (0x47, windowBytes cells)
  | .exclusionRow sh => (0x48, [byte sh])
  | .outputSetup sh b => (0x50, [byte sh, byte b.enabled, byte b.mode, byte b.divide, byte b.invert, byte b.squelch])
  | .outputReport sh => (0x51, [byte sh])
  | .oscillatorCheck => (0x58, [])
  | .oscillatorReport => (0x59, [])

/-- The frame of a request: length, kind, body, CRC-16. -/
def requestFrame (r : Request) : List Byte := frameOf (requestBytes r).1 (requestBytes r).2

/-! ## Checks -/

/-- A completed frame: a request, or the code the CPI answers itself (R166, in its order). -/
inductive Checked where
  | request (r : Request)
  | answer (code : ResultCode)
  deriving DecidableEq, Repr

/-- R166. -/
def checkFrame (frame : List Byte) : Checked :=
  match frame with
  | _ :: kind :: rest =>
    if crc16 frame != 0 || decide (rest.length < 2) then .answer .badFrame
    else
      match bodyReader kind.toNat with
      | none => .answer .unknownKind
      | some read =>
        match read (rest.take (rest.length - 2)) with
        | some r => .request r
        | none => .answer .badFrame
  | _ => .answer .badFrame

/-! ## The frame receiver -/

/-- The bytes of one FRAME WRITE transaction go to the receiver (R165): the partial frame left in it, and the frame
completed, if one is; bytes after a completed frame are ignored. -/
def receiveFrame : List Byte → List Byte → List Byte × Option (List Byte)
  | partialFrame, [] => (partialFrame, none)
  | [], b :: rest => if b.toNat < 4 then ([], some [b]) else receiveFrame [b] rest
  | len :: got, b :: rest =>
    if got.length + 2 < len.toNat then receiveFrame (len :: (got ++ [b])) rest else ([], some (len :: (got ++ [b])))

end Sys2Proof.Machine
end

