-- ==== Sys2Proof/Machine/MatrixRequests.lean ====
section
/-!
DEFINITION. The requests of the Exclusion Matrix (7.6 to 7.8): BAR, ALLOW, OPEN WINDOW, WRITE WINDOW, CONTINUE WINDOW,
EXCLUSION ROW.
-/

namespace Sys2Proof.Machine

/-- Write one cell by BAR or ALLOW (R135). A QUEUED shelf whose target it bars and that has another choice follows it
with its cause kept: the model's reading of R90 against R85 (notes/assumptions/15.md). -/
def State.writeCell (s : State) (shelf port : Nat) (v : CellValue) : State × Reply :=
  match shelfOf shelf, portOf port with
  | some sh, some p =>
    if s.barred sh p = (v == .bar) then (s, Reply.plain .noChange)
    else (State.commit s (s.setCell sh p v) Ctx.ranking, Reply.ok [])
  | _, _ => (s, Reply.plain .badField)

/-- BAR (R135). -/
def State.doBar (s : State) (shelf port : Nat) : State × Reply := s.writeCell shelf port .bar

/-- ALLOW (R135). -/
def State.doAllow (s : State) (shelf port : Nat) : State × Reply := s.writeCell shelf port .allow

/-- OPEN WINDOW (R139). -/
def State.doOpenWindow (s : State) (firstShelf lastShelf firstPort lastPort order : Nat) : State × Reply :=
  match shelfOf firstShelf, shelfOf lastShelf, portOf firstPort, portOf lastPort, orderOf order with
  | some fs, some ls, some fp, some lp, some o =>
    if ls < fs || lp < fp then (s, Reply.plain .badField)
    else
      let w : Window := { firstShelf := fs, lastShelf := ls, firstPort := fp, lastPort := lp, order := o, cursor := 0 }
      ({ s with window := some w }, Reply.ok (be16 w.count))
  | _, _, _, _, _ => (s, Reply.plain .badField)

/-- Write values to the cells of a window from a place on, until the values or the cells run out (R140, R141). -/
def State.writeCells (s : State) (w : Window) : Nat → List CellValue → State
  | _, [] => s
  | place, v :: rest =>
    match w.cellAt place with
    | some (sh, p) => (s.setCell sh p v).writeCells w (place + 1) rest
    | none => s

/-- The accepted part of WRITE WINDOW and CONTINUE WINDOW: cells from `place` on (R140 to R142, R136). A QUEUED shelf
whose target they bar keeps its cause as in `writeCell` (notes/assumptions/15.md). -/
def State.writeFrom (s : State) (w : Window) (place : Nat) (cells : List CellValue) : State × Reply :=
  let taken := min cells.length (w.count - place)
  let w' : Window := { w with cursor := place + taken }
  (State.commit s { s.writeCells w place cells with window := some w' } Ctx.ranking,
   Reply.ok (be16 taken ++ be16 (cells.length - taken) ++ w'.cursorBytes))

/-- WRITE WINDOW (R140). -/
def State.doWriteWindow (s : State) (cells : List CellValue) : State × Reply :=
  if cells.length = 0 || decide (1152 < cells.length) then (s, Reply.plain .badField)
  else
    match s.window with
    | some w => s.writeFrom w 0 cells
    | none => (s, Reply.plain .noWindow)

/-- CONTINUE WINDOW (R141). -/
def State.doContinueWindow (s : State) (cells : List CellValue) : State × Reply :=
  if cells.length = 0 || decide (1152 < cells.length) then (s, Reply.plain .badField)
  else
    match s.window with
    | some w => s.writeFrom w w.cursor cells
    | none => (s, Reply.plain .noWindow)

/-- EXCLUSION ROW (R144). -/
def State.doExclusionRow (s : State) (shelf : Nat) : State × Reply :=
  match shelfOf shelf with
  | some sh => (s, Reply.ok (s.exclusionRowBody sh))
  | none => (s, Reply.plain .badField)

end Sys2Proof.Machine
end

