-- ==== Sys2Proof/Machine/OutputRequests.lean ====
section
/-!
DEFINITION. The requests of chapters 6 and 8: OUTPUT SETUP, OUTPUT REPORT, OSCILLATOR CHECK, OSCILLATOR REPORT.
-/

namespace Sys2Proof.Machine

/-- OUTPUT SETUP (R146): stored as pending, and applied in the same change when the drive is a fixed level (R147). The
body's byte is 1 for applied and 0 for pending (notes/assumptions/23.md). -/
def State.doOutputSetup (s : State) (shelf : Nat) (body : OutputSetupBody) : State × Reply :=
  match shelfOf shelf, outputSetupOf body with
  | some sh, some new =>
    if new = s.outputs[sh].pendingSetup.getD s.outputs[sh].active then (s, Reply.plain .noChange)
    else
      let t := State.refresh s (s.setOutput sh { s.outputs[sh] with pendingSetup := some new })
      (t, Reply.ok [flagByte t.outputs[sh].pendingSetup.isNone])
  | _, _ => (s, Reply.plain .badField)

/-- OUTPUT REPORT (R162). -/
def State.doOutputReport (s : State) (shelf : Nat) : State × Reply :=
  match shelfOf shelf with
  | some sh => (s, Reply.ok (s.outputReportBody sh))
  | none => (s, Reply.plain .badField)

/-- OSCILLATOR CHECK (R119). -/
def State.doOscillatorCheck (s : State) : State × Reply :=
  if s.osc.check.isSome then (s, Reply.plain .busy) else (State.commit s s.startCheck Ctx.ranking, Reply.ok [])

/-- OSCILLATOR REPORT (R120). -/
def State.doOscillatorReport (s : State) : State × Reply := (s, Reply.ok s.oscillatorReportBody)

end Sys2Proof.Machine
end

