-- ==== Sys2Proof/Machine/PartRequests.lean ====
section
/-!
DEFINITION. The requests of chapters 9 and 10 that the executor and the Phase Controller carry out: IDENTITY, NODE
IDENTIFIER, RELEASE, TAKE CONTROL, YIELD CONTROL, YIELD PERMISSION. Each answers the part after it and the reply.
The checks of R172 are made before (Machine/Executor.lean).
-/

namespace Sys2Proof.Machine

/-- A change of the active-port designation (R174): the window closes (R143), CONTROL is raised. -/
def State.changeControl (s : State) : State :=
  ({ s with active := otherPort s.active, window := none } : State).raisePart .control

/-- IDENTITY (R186). -/
def State.doIdentity (s : State) (cp : ControlPort) : State × Reply := (s, Reply.ok (s.identityBody cp))

/-- NODE IDENTIFIER (R185). -/
def State.doNodeIdentifier (s : State) (identifier : Nat) : State × Reply :=
  if s.phase = .running then (s, Reply.plain .wrongPhase)
  else if identifier = 0 || decide (0xFFFF ≤ identifier) then (s, Reply.plain .badField)
  else (State.commit s (s.setNodeId (BitVec.ofNat 16 identifier)) Ctx.ranking, Reply.ok [])

/-- The three counts of RELEASE (R184): shelves in QUEUED or ACQUIRE, in FREERUN, in PARKED. -/
def State.releaseCounts (s : State) : List Byte :=
  let count (f : ShelfState → Bool) := byte ((List.finRange 48).filter fun sh => f s.shelves[sh].state).length
  [count fun st => st.isQueued || st.isAcquire, count ShelfState.isFreerun, count ShelfState.isParked]

/-- RELEASE (R184). -/
def State.doRelease (s : State) : State × Reply :=
  if s.phase = .running then (s, Reply.plain .noChange)
  else
    let t := State.refresh s s.release
    (t, Reply.ok t.releaseCounts)

/-- TAKE CONTROL (R175). -/
def State.doTakeControl (s : State) (cp : ControlPort) : State × Reply :=
  if s.active = cp then (s, Reply.plain .noChange)
  else if s.yieldPermission then (s.changeControl, Reply.ok [])
  else (s, Reply.plain .denied)

/-- YIELD CONTROL (R176). -/
def State.doYieldControl (s : State) : State × Reply := (s.changeControl, Reply.ok [])

/-- YIELD PERMISSION (R177). -/
def State.doYieldPermission (s : State) (value : Nat) : State × Reply :=
  match flagOf value with
  | none => (s, Reply.plain .badField)
  | some v =>
    if v = s.yieldPermission then (s, Reply.plain .noChange) else ({ s with yieldPermission := v }, Reply.ok [])

end Sys2Proof.Machine
end

