-- ==== Sys2Proof/Machine/PortRequests.lean ====
section
/-!
DEFINITION. The requests of chapters 1 and 2: PORT SETUP, PORT STATUS, PORT GRADE.
-/

namespace Sys2Proof.Machine

/-- PORT SETUP (R18). -/
def State.doPortSetup (s : State) (port : Nat) (body : PortSetupBody) : State × Reply :=
  match portOf port, portSetupOf body with
  | some p, some new =>
    if new = s.ports[p].setup then (s, Reply.plain .noChange)
    else (State.commit s (s.replaceSetup p new) Ctx.ranking, Reply.ok [])
  | _, _ => (s, Reply.plain .badField)

/-- PORT STATUS (R19); on the active port it clears DROPPED and FAULTED (R20). -/
def State.doPortStatus (s : State) (cp : ControlPort) (port : Nat) : State × Reply :=
  match portOf port with
  | some p => (if s.active = cp then s.clearPortFlags p else s, Reply.ok (s.portStatusBody p))
  | none => (s, Reply.plain .badField)

/-- PORT GRADE (R38); on the active port it sets the malformed count to 0 (R39). -/
def State.doPortGrade (s : State) (cp : ControlPort) (port : Nat) : State × Reply :=
  match portOf port with
  | some p => (if s.active = cp then s.clearMalformed p else s, Reply.ok (s.portGradeBody p))
  | none => (s, Reply.plain .badField)

end Sys2Proof.Machine
end

