-- ==== Sys2Proof/Machine/ShelfRequests.lean ====
section
/-!
DEFINITION. The requests of chapters 4, 5 and 7 that name a shelf: RANKING REPORT, SHELF REPORT, CHANGE REPORT, QUEUE
REPORT, PIN, STEER, CLEAR STEERING.
-/

namespace Sys2Proof.Machine

/-- RANKING REPORT (R72). -/
def State.doRankingReport (s : State) (shelf : Nat) : State × Reply :=
  match shelfOf shelf with
  | some sh => (s, Reply.ok (s.rankingReportBody sh))
  | none => (s, Reply.plain .badField)

/-- SHELF REPORT (R102). -/
def State.doShelfReport (s : State) (shelf : Nat) : State × Reply :=
  match shelfOf shelf with
  | some sh => (s, Reply.ok (s.shelfReportBody sh))
  | none => (s, Reply.plain .badField)

/-- CHANGE REPORT (R103); on the active port it clears the changed flags it lists. -/
def State.doChangeReport (s : State) (cp : ControlPort) (selector : Nat) : State × Reply :=
  match selectorOf selector with
  | some sel => (if s.active = cp then s.clearChanged sel else s, Reply.ok (s.changeReportBody sel))
  | none => (s, Reply.plain .badField)

/-- QUEUE REPORT (R104). -/
def State.doQueueReport (s : State) : State × Reply := (s, Reply.ok s.queueReportBody)

/-! ## Steering requests -/

/-- R125, the table: what a shelf does when STEER(p) is accepted. A shelf LOCKED(c) waits on c whether or not c, pinned
until now, is eligible; the next ranking it is handed acts on that (R76, R126; notes/assumptions/38.md). A QUEUED shelf whose target becomes p has cause STEER
(notes/assumptions/40.md). -/
def State.steerTo (s : State) (sh : ShelfId) (p : PortId) : State :=
  match s.shelves[sh].state with
  | .held _ => s
  | .parked => s
  | .locked c _ =>
    if c = p then s.dropPending sh c else s.gainPending sh c p .steer
  | .acquire t _ => if t = p then s else s.toward sh p .steer
  | .queued t => if t = p then s else s.toward sh p .steer
  | .bridge _ _ => s.toward sh p .steer
  | .holdover _ => s.toward sh p .steer
  | .freerun => s.toward sh p .steer

/-- R129, the column for confirmed activity. A shelf LOCKED(c) waits on c whether or not c is eligible, until it is lent
a unit: R76 leaves PIN out (notes/assumptions/38.md). A QUEUED shelf whose target becomes p has cause PIN
(notes/assumptions/40.md). -/
def State.pinToLive (s : State) (sh : ShelfId) (p : PortId) : State :=
  match s.shelves[sh].state with
  | .held _ => s
  | .parked => s
  | .locked c _ => if c = p then s.dropPending sh c else s.gainPending sh c p .pin
  | .acquire t _ => if t = p then s else s.toward sh p .pin
  | .queued t => if t = p then s else s.toward sh p .pin
  | .bridge c _ => if c = p then s.unbridge sh c else s.toward sh p .pin
  | .holdover _ => s.toward sh p .pin
  | .freerun => s.toward sh p .pin

/-- R129, the column for activity not confirmed. -/
def State.pinToQuiet (s : State) (sh : ShelfId) (p : PortId) : State :=
  match s.shelves[sh].state with
  | .held _ => s
  | .parked => s
  | .locked c _ => if c = p then s else s.rest sh .pin
  | .acquire t _ => if t = p then s else s.rest sh .pin
  | .queued t => if t = p then s else s.rest sh .pin
  | .bridge c _ => if c = p then s else s.rest sh .pin
  | .holdover _ => s
  | .freerun => s

/-- R129: what a shelf does when PIN(p) is accepted. -/
def State.pinTo (s : State) (sh : ShelfId) (p : PortId) : State :=
  if s.ports[p].activity then s.pinToLive sh p else s.pinToQuiet sh p

/-- The causes of a re-evaluation by CLEAR STEERING (R132). -/
def Ctx.clearing : Ctx := { forced := some .cleared, strict := false, ceased := false }

/-- R132: a LOCKED shelf that CLEAR STEERING has just moved to ACQUIRE, because a unit was lent to its new pending target
at once, carries CLEARED in place of that target's cause (notes/assumptions/37.md). -/
def State.markCleared (s : State) (sh : ShelfId) : State :=
  if s.shelves[sh].state.isAcquire then s.setShelf sh { s.shelves[sh] with lastCause := some .cleared } else s

/-- R132: the re-evaluation of a shelf whose steering has just become AUTO. -/
def State.unsteer (s : State) (sh : ShelfId) : State :=
  match s.shelves[sh].state with
  | .locked c _ => ((s.dropPending sh c).actLocked sh c Ctx.clearing).markCleared sh
  | .acquire t _ => if s.eligible sh t && s.best sh == some t then s else s.reselect sh .cleared
  | .bridge c _ => if s.admissible sh c then s else s.reselect sh .cleared
  | _ => s.actAuto sh Ctx.clearing

/-- STEER (R124, R125). -/
def State.doSteer (s : State) (shelf port : Nat) : State × Reply :=
  match shelfOf shelf, portOf port with
  | some sh, some p =>
    if s.shelves[sh].steering = .steer p then (s, Reply.plain .noChange)
    else if s.eligible sh p then (State.refresh s ((s.setSteering sh (.steer p)).steerTo sh p), Reply.ok [])
    else (s, Reply.plain .notEligible)
  | _, _ => (s, Reply.plain .badField)

/-- PIN (R128, R129). -/
def State.doPin (s : State) (shelf port : Nat) : State × Reply :=
  match shelfOf shelf, portOf port with
  | some sh, some p =>
    if s.shelves[sh].steering = .pin p then (s, Reply.plain .noChange)
    else if !s.sameDomain sh p then (s, Reply.plain .notInDomain)
    else if s.ports[p].state = .off then (s, Reply.plain .notEligible)
    else (State.refresh s ((s.setSteering sh (.pin p)).pinTo sh p), Reply.ok [])
  | _, _ => (s, Reply.plain .badField)

/-- CLEAR STEERING (R132). -/
def State.doClearSteering (s : State) (shelf : Nat) : State × Reply :=
  match shelfOf shelf with
  | some sh =>
    if s.shelves[sh].steering = .auto then (s, Reply.plain .noChange)
    else (State.refresh s ((s.setSteering sh .auto).unsteer sh), Reply.ok [])
  | none => (s, Reply.plain .badField)

end Sys2Proof.Machine
end

