-- ==== Sys2Proof/Machine/Executor.lean ====
section
/-!
DEFINITION. The Request Executor and the Control Port Interfaces (chapter 9): classes and checks, taking a request,
arbitration, placing a reply, completing a frame and the bytes a transaction shifts out.
-/

namespace Sys2Proof.Machine

/-- The changing class (R172, 9.6): 24 kinds. TAKE CONTROL is of its own class. -/
def isChanging : Request → Bool
  | .nodeIdentifier _ => true
  | .release => true
  | .restart => true
  | .yieldControl => true
  | .yieldPermission _ => true
  | .portSetup _ _ => true
  | .assignPort _ _ => true
  | .assignShelf _ _ => true
  | .applyPartition => true
  | .discardPartition => true
  | .domainSetup _ _ => true
  | .priorityList _ _ => true
  | .eventMask _ _ => true
  | .lineSetup _ _ => true
  | .steer _ _ => true
  | .pin _ _ => true
  | .clearSteering _ => true
  | .bar _ _ => true
  | .allow _ _ => true
  | .openWindow _ _ _ _ _ => true
  | .writeWindow _ => true
  | .continueWindow _ => true
  | .outputSetup _ _ => true
  | .oscillatorCheck => true
  | .identity => false
  | .takeControl => false
  | .portStatus _ => false
  | .portGrade _ => false
  | .pendingPartition => false
  | .domainReport _ => false
  | .eventReport _ => false
  | .rankingReport _ => false
  | .shelfReport _ => false
  | .changeReport _ => false
  | .queueReport => false
  | .exclusionRow _ => false
  | .outputReport _ => false
  | .oscillatorReport => false

/-- The executor's two checks, in order (R172): the code of a refusal, or none. R133 speaks of STEER, PIN and CLEAR
STEERING as accepted in INIT; that they too are refused there, as R172 says of every kind but IDENTITY, is the model's
choice (notes/assumptions/45.md). -/
def State.precheck (s : State) (cp : ControlPort) (r : Request) : Option ResultCode :=
  if s.phase = .init && r != .identity then some .wrongPhase
  else if isChanging r && s.active != cp then some .notActive
  else none

/-- A request that passed both checks, by its own rule. RESTART is carried out by `State.take`, since it also resets
the executor (R179); its reply is the one written here. -/
def State.carryOut (s : State) (cp : ControlPort) : Request → State × Reply
  | .identity => s.doIdentity cp
  | .nodeIdentifier i => s.doNodeIdentifier i
  | .release => s.doRelease
  | .restart => (s, Reply.ok [])
  | .takeControl => s.doTakeControl cp
  | .yieldControl => s.doYieldControl
  | .yieldPermission v => s.doYieldPermission v
  | .portSetup p b => s.doPortSetup p b
  | .portStatus p => s.doPortStatus cp p
  | .portGrade p => s.doPortGrade cp p
  | .assignPort p d => s.doAssignPort p d
  | .assignShelf sh d => s.doAssignShelf sh d
  | .pendingPartition => s.doPendingPartition
  | .applyPartition => s.doApplyPartition
  | .discardPartition => s.doDiscardPartition
  | .domainSetup d b => s.doDomainSetup d b
  | .priorityList d ps => s.doPriorityList d ps
  | .domainReport d => s.doDomainReport d
  | .eventReport e => s.doEventReport cp e
  | .eventMask e m => s.doEventMask e m
  | .lineSetup l d => s.doLineSetup l d
  | .rankingReport sh => s.doRankingReport sh
  | .shelfReport sh => s.doShelfReport sh
  | .changeReport e => s.doChangeReport cp e
  | .queueReport => s.doQueueReport
  | .pin sh p => s.doPin sh p
  | .steer sh p => s.doSteer sh p
  | .clearSteering sh => s.doClearSteering sh
  | .bar sh p => s.doBar sh p
  | .allow sh p => s.doAllow sh p
  | .openWindow a b c d o => s.doOpenWindow a b c d o
  | .writeWindow cells => s.doWriteWindow cells
  | .continueWindow cells => s.doContinueWindow cells
  | .exclusionRow sh => s.doExclusionRow sh
  | .outputSetup sh b => s.doOutputSetup sh b
  | .outputReport sh => s.doOutputReport sh
  | .oscillatorCheck => s.doOscillatorCheck
  | .oscillatorReport => s.doOscillatorReport

/-- The checks of R172, then the request's own rule. -/
def State.answer (s : State) (cp : ControlPort) (r : Request) : State × Reply :=
  match s.precheck cp r with
  | some code => (s, Reply.plain code)
  | none => s.carryOut cp r

/-- A control port's state is replaced (9.2). -/
def State.setStage (s : State) (cp : ControlPort) (stage : PortStage) : State :=
  s.setCpi cp { s.cpi cp with stage := stage }

/-- A request is taken (R171): carried out as one change; its reply is fixed and waits to be placed. The port is
recorded as the previous supplier, whatever the code. A RESTART that passes the checks places its reply itself and
forgets the previous supplier (R179). -/
def State.take (s : State) (cp : ControlPort) (r : Request) : State :=
  if r = .restart && (s.precheck cp r).isNone then s.restartPart cp (Reply.ok []).frame
  else
    let done := s.answer cp r
    ({ done.1 with carrying := some (cp, done.2.frame), prevSupplier := some cp } : State).setStage cp (.working none)

/-- The request waiting on a port (R171). -/
def State.waiting (s : State) (cp : ControlPort) : Option Request :=
  match (s.cpi cp).stage with
  | .working w => w
  | .idle => none
  | .reply _ => none

/-- Which port the executor takes from when both wait (R171). -/
def State.preferred (s : State) : ControlPort :=
  match s.prevSupplier with
  | some q => otherPort q
  | none => s.active

/-- The executor takes a waiting request when it is free (R171). -/
def State.serve (s : State) : State :=
  if s.carrying.isSome then s
  else
    match s.waiting s.preferred, s.waiting (otherPort s.preferred) with
    | some r, _ => s.take s.preferred r
    | none, some r => s.take (otherPort s.preferred) r
    | none, none => s

/-- The reply of the request being carried out is placed, and the executor is free again (R171). -/
def State.placeReply (s : State) : State :=
  match s.carrying with
  | some (cp, frame) => (({ s with carrying := none } : State).setStage cp (.reply frame)).serve
  | none => s

/-- A request has completed on a port that is not WORKING: it waits for the executor (R166). -/
def State.arrived (s : State) (cp : ControlPort) (r : Request) : State :=
  s.setCpi cp { s.cpi cp with receiver := [], stage := .working (some r) }

/-- A frame completed on a port that is not WORKING: the reply buffer is emptied; a request waits for the executor, any
other frame is answered by the CPI itself (R166). -/
def State.accept (s : State) (cp : ControlPort) : Checked → State
  | .request r => (s.arrived cp r).serve
  | .answer code => s.setCpi cp { s.cpi cp with receiver := [], stage := .reply (Reply.plain code).frame }

/-- A frame has been completed on a port: while the port is WORKING it is discarded and FRAME_DROPPED set (R167). -/
def State.complete (s : State) (cp : ControlPort) (checked : Checked) : State :=
  match (s.cpi cp).stage with
  | .working _ => s.setCpi cp { s.cpi cp with receiver := [], frameDropped := true }
  | .idle => s.accept cp checked
  | .reply _ => s.accept cp checked

/-- The control port state in the status byte (R188). -/
def PortStage.code : PortStage → Nat
  | .idle => 0
  | .working _ => 1
  | .reply _ => 2

/-- The port status byte (R164, R188). -/
def State.statusByte (s : State) (cp : ControlPort) : Byte :=
  byte (0x80 + (phaseCode s.phase).toNat * 16 + (if (s.cpi cp).frameDropped then 8 else 0) +
    (if s.active = cp then 4 else 0) + (s.cpi cp).stage.code)

/-- What the bytes after the opener shift out: the bytes given, then 0xFF (R163, R170). -/
def shiftOut (bytes : List Byte) (clocked : Nat) : List Byte :=
  bytes.take clocked ++ List.replicate (clocked - bytes.length) 0xFF

/-- Record what a transaction shifted out: the status byte, then the bytes clocked (notes/assumptions/29.md). -/
def State.shift (s : State) (cp : ControlPort) (bytes : List Byte) (clocked : Nat) : State :=
  s.setCpi cp { s.cpi cp with shifted := s.statusByte cp :: shiftOut bytes clocked, shiftedBits := [] }

/-- Frame bytes reach the receiver of a port (R165 to R167); bytes after a completed frame are ignored. -/
def State.receive (s : State) (cp : ControlPort) (bytes : List Byte) : State :=
  match receiveFrame (s.cpi cp).receiver bytes with
  | (_, some frame) => s.complete cp (checkFrame frame)
  | (receiver, none) => s.setCpi cp { s.cpi cp with receiver := receiver }

/-- The bytes of a FRAME WRITE that arrive after its RESTART frame has been carried out (R179): there are some only
when the frame completed is a RESTART that left the port in REPLY. -/
def State.afterRestart (s : State) (cp : ControlPort) (bytes : List Byte) : List Byte :=
  match receiveFrame (s.cpi cp).receiver bytes with
  | (_, some frame) =>
    match checkFrame frame, ((s.receive cp bytes).cpi cp).stage with
    | .request .restart, .reply _ => bytes.drop (frame.length - (s.cpi cp).receiver.length)
    | _, _ => []
  | (_, none) => []

/-- FRAME WRITE (R165 to R167). Bytes after a RESTART that the transaction itself completed start a new frame, as R179
says against R165's "ignored" (notes/assumptions/43.md). -/
def State.frameWrite (s : State) (cp : ControlPort) (bytes : List Byte) : State :=
  let t := s.shift cp [] bytes.length
  (t.receive cp bytes).receive cp (t.afterRestart cp bytes)

/-- REPLY READ (R169, R170). -/
def State.replyRead (s : State) (cp : ControlPort) (clocked : Nat) : State :=
  match (s.cpi cp).stage with
  | .reply frame =>
    let t := s.shift cp frame clocked
    t.setCpi cp { t.cpi cp with receiver := [], frameDropped := false }
  | _ =>
    let t := s.shift cp [] clocked
    t.setCpi cp { t.cpi cp with receiver := [] }

/-- RESYNC (R169). -/
def State.resync (s : State) (cp : ControlPort) (clocked : Nat) : State :=
  let t := s.shift cp [] clocked
  t.setCpi cp { t.cpi cp with receiver := [] }

/-- A status-only transaction (R163). -/
def State.statusOnly (s : State) (cp : ControlPort) (clocked : Nat) : State := s.shift cp [] clocked

/-- The bits of a byte in the order a control port sends them, most significant first (R163). -/
def bitsOf (b : Byte) : List Bool := [7, 6, 5, 4, 3, 2, 1, 0].map b.getLsbD

/-- A void transaction (R163): no whole byte is shifted out, only the first `bits` bits of the status byte (R164). -/
def State.voidOut (s : State) (cp : ControlPort) (bits : Nat) : State :=
  s.setCpi cp { s.cpi cp with shifted := [], shiftedBits := (bitsOf (s.statusByte cp)).take bits }

/-! ## Transactions by their opener (R163, R188) -/

/-- The kinds of transaction an opener byte names (R163). -/
inductive OpenerKind where
  | frameWrite
  | replyRead
  | resync
  | statusOnly
  deriving DecidableEq, Repr

/-- FRAME WRITE 0x5A, REPLY READ 0xA5, RESYNC 0x3C; any other value opens a status-only transaction (R188). -/
def openerKind (opener : Byte) : OpenerKind :=
  if opener = 0x5A#8 then .frameWrite
  else if opener = 0xA5#8 then .replyRead
  else if opener = 0x3C#8 then .resync
  else .statusOnly

/-- A transaction: an opener byte and the whole bytes the controller clocked in after it (R163). -/
def State.transaction (s : State) (cp : ControlPort) (opener : Byte) (bytes : List Byte) : State :=
  match openerKind opener with
  | .frameWrite => s.frameWrite cp bytes
  | .replyRead => s.replyRead cp bytes.length
  | .resync => s.resync cp bytes.length
  | .statusOnly => s.statusOnly cp bytes.length

/-- Bytes clocked whose value the part does not look at (R169, R170). -/
def fillerBytes (clocked : Nat) : List Byte := List.replicate clocked 0x00#8

end Sys2Proof.Machine
end

