-- ==== Sys2Proof/Machine/Events.lean ====
section
/-!
DEFINITION. The meanings of the commands that are not requests: transactions, the reset pin and power-on, and the
events of ports, grade lines, shelves, oscillators and outputs. A timed event first lets the time to its moment pass
(notes/assumptions/3.md); an event that finds nothing to act on changes nothing (notes/assumptions/33.md).
-/

namespace Sys2Proof.Machine

/-- A change of ranking inputs made after `d` ms have passed, with all its consequences (R68, R152). -/
def State.after (s : State) (d : Nat) (change : State → State) : State :=
  State.commit (s.elapse d) (change (s.elapse d)) Ctx.ranking

/-! ## Transactions -/

/-- FRAME_WRITE (R165): opener 0x5A (R188). -/
def execFrameWrite (cp : ControlPort) (bytes : List Byte) (s : State) : Host.Outcome State Fault Refusal :=
  s.live fun s => s.transaction cp 0x5A#8 bytes

/-- REPLY_READ (R170): opener 0xA5 (R188). -/
def execReplyRead (cp : ControlPort) (clocked : Nat) (s : State) : Host.Outcome State Fault Refusal :=
  s.live fun s => s.transaction cp 0xA5#8 (fillerBytes clocked)

/-- RESYNC (R169): opener 0x3C (R188). -/
def execResync (cp : ControlPort) (clocked : Nat) (s : State) : Host.Outcome State Fault Refusal :=
  s.live fun s => s.transaction cp 0x3C#8 (fillerBytes clocked)

/-- STATUS_ONLY_TRANSACTION (R163): any opener but the three of R188, which changes no state of the part; one of the
three acts as what it opens. -/
def execStatusOnlyTransaction (cp : ControlPort) (opener : Byte) (bytes : List Byte) (s : State) :
    Host.Outcome State Fault Refusal :=
  s.live fun s => s.transaction cp opener bytes

/-- VOID_TRANSACTION (R163, R164). -/
def execVoidTransaction (cp : ControlPort) (bits : Nat) (s : State) : Host.Outcome State Fault Refusal :=
  s.live fun s => s.voidOut cp bits

/-- REQUEST_REPLY_PLACED (R171). -/
def execRequestReplyPlaced (s : State) : Host.Outcome State Fault Refusal := s.live State.placeReply

/-! ## Reset and power -/

/-- RESET_ASSERT (R181). -/
def execResetAssert (s : State) : Host.Outcome State Fault Refusal := .next s.assertReset

/-- RESET_RELEASE (R180, R181). -/
def execResetRelease (pins : Straps) (s : State) : Host.Outcome State Fault Refusal := .next (s.riseOfPin pins)

/-- POWER_ON (R181). -/
def execPowerOn (pins : Straps) (s : State) : Host.Outcome State Fault Refusal := .next (s.powerUp pins)

/-! ## Reference ports -/

/-- ACTIVITY_CONFIRMATION (R3): the edges have come unbroken for the loss dwell. -/
def execActivityConfirmation (p : PortId) (s : State) : Host.Outcome State Fault Refusal :=
  s.live fun s =>
    if s.ports[p].state == .down && !s.ports[p].activity then
      s.after (s.ports[p].since + s.ports[p].setup.lossDwell - s.now) fun t => t.confirmActivity p
    else s

/-- ACTIVITY_LOSS (R3): the line has been quiet for the loss dwell. -/
def execActivityLoss (p : PortId) (s : State) : Host.Outcome State Fault Refusal :=
  s.live fun s =>
    if s.ports[p].activity then
      s.after (s.ports[p].since + s.ports[p].setup.lossDwell - s.now) fun t => t.loseActivity p
    else s

/-- MEASUREMENT_WINDOW_COMPLETE (R5); the measured mean offset is in 0.001 ppm. -/
def execMeasurementWindowComplete (p : PortId) (measured : Int) (s : State) : Host.Outcome State Fault Refusal :=
  s.live fun s =>
    match s.ports[p].window with
    | some elapsed => s.after (1000 - elapsed) fun t => t.completeWindow p measured
    | none => s

/-- RESTORE_TIMER_EXPIRY (R10). -/
def execRestoreTimerExpiry (p : PortId) (s : State) : Host.Outcome State Fault Refusal :=
  s.live fun s =>
    match s.ports[p].restoreLeft with
    | some left => if s.ports[p].state == .qualifying then s.after left fun t => t.expireRestore p else s
    | none => s

/-- WAIVER_DEADLINE_PASSES (R13). -/
def execWaiverDeadlinePasses (p : PortId) (s : State) : Host.Outcome State Fault Refusal :=
  s.live fun s =>
    match s.ports[p].waiver with
    | some t => (s.elapse (t - s.now)).passWaiver p
    | none => s

/-! ## Grade lines -/

/-- GRADE_MESSAGE (R26): a complete message, its bytes after the marker; a port that is OFF ignores it (R35). -/
def execGradeMessage (p : PortId) (bytes : List Byte) (framingError : Bool) (s : State) :
    Host.Outcome State Fault Refusal :=
  s.live fun s =>
    if s.ports[p].state == .off then s else s.after 0 fun t => t.completeMessage p bytes framingError

/-- COLLECTING_GAP_TIMEOUT (R22). -/
def execCollectingGapTimeout (p : PortId) (s : State) : Host.Outcome State Fault Refusal :=
  s.live fun s => s.gapTimeout p

/-- GRADE_TIMER_EXPIRY (R31). -/
def execGradeTimerExpiry (p : PortId) (s : State) : Host.Outcome State Fault Refusal :=
  s.live fun s =>
    match s.grades[p].timer with
    | some left => s.after left fun t => t.putGrade p t.grades[p].expire
    | none => s

/-- GRADE_LINE_BYTE_RECEIVED (R22); the last byte of a message also completes it. -/
def execGradeLineByteReceived (p : PortId) (b : Byte) (framingError : Bool) (s : State) :
    Host.Outcome State Fault Refusal :=
  s.live fun s => s.after 0 fun t => t.receiveByte p b framingError

/-! ## Shelves -/

/-- R100, R127, R130: the hold-off of a BRIDGE shelf has ended. Under STEER the shelf reselects away from its steering
port, so the steering is dropped. -/
def State.endHoldOff (s : State) (sh : ShelfId) : State :=
  match s.shelves[sh].steering with
  | .steer _ => (s.loseSteering sh).reselect sh .lost
  | .auto => s.reselect sh .lost
  | .pin _ => s.reselect sh .lost

/-- HOLD_OFF_EXPIRY (R100). -/
def execHoldOffExpiry (sh : ShelfId) (s : State) : Host.Outcome State Fault Refusal :=
  s.live fun s =>
    match s.shelves[sh].state with
    | .bridge _ left => State.refresh (s.elapse left) ((s.elapse left).endHoldOff sh)
    | _ => s

/-- R92: an ACQUIRE shelf locks to its target, its unit is freed and lent again, its learned time restarts at 0, LOCK
is raised, and the switch rule is applied at once. -/
def State.completeSettle (s : State) (sh : ShelfId) (t : PortId) : State :=
  let u := (s.setShelf sh { s.shelves[sh] with learned := 0 }).enterState sh (.locked t none) none (some .lock)
  (u.freeUnit sh).act sh Ctx.ranking

/-- SETTLE_COMPLETE (R92). -/
def execSettleComplete (sh : ShelfId) (s : State) : Host.Outcome State Fault Refusal :=
  s.live fun s =>
    match s.shelves[sh].state with
    | .acquire t left => State.refresh (s.elapse left) ((s.elapse left).completeSettle sh t)
    | _ => s

/-- R111: the holdover limit of a shelf expires. -/
def State.expireLimit (s : State) (sh : ShelfId) : State :=
  ((s.setShelf sh { s.shelves[sh] with learned := 0 }).enterState sh .freerun (some .expiry) (some .expired)).raiseShelf
    sh .freerun

/-- HOLDOVER_LIMIT_EXPIRY (R111); an UNLIMITED limit never expires (R110). -/
def execHoldoverLimitExpiry (sh : ShelfId) (s : State) : Host.Outcome State Fault Refusal :=
  s.live fun s =>
    match s.shelves[sh].state with
    | .holdover (some left) => State.refresh (s.elapse left) ((s.elapse left).expireLimit sh)
    | _ => s

/-- Ms until a growing learned time reaches the learn time of the shelf's domain (R105, R106). -/
def State.untilLearned (s : State) (sh : ShelfId) : Option Nat :=
  match s.shelfRecord sh with
  | some d =>
    if s.shelves[sh].state.isLocked && !s.osc.latch && decide (s.shelves[sh].learned < d.learnTime * 1000) then
      some (d.learnTime * 1000 - s.shelves[sh].learned)
    else none
  | none => none

/-- LEARN_TIME_REACHED (R105, R108): the record becomes valid. -/
def execLearnTimeReached (sh : ShelfId) (s : State) : Host.Outcome State Fault Refusal :=
  s.live fun s =>
    match s.untilLearned sh with
    | some left => State.refresh (s.elapse left) (s.elapse left)
    | none => s

/-! ## Oscillators -/

/-- GUARD_ABSENT (R112). -/
def execGuardAbsent (s : State) : Host.Outcome State Fault Refusal :=
  s.live fun s =>
    if s.osc.guardPresent then
      let t := s.elapse (s.osc.guardSince + 10 - s.now)
      State.refresh t t.loseGuard
    else s

/-- GUARD_PRESENT (R112). -/
def execGuardPresent (s : State) : Host.Outcome State Fault Refusal :=
  s.live fun s =>
    if s.osc.guardPresent then s else (s.elapse (s.osc.guardSince + 10 - s.now)).findGuard

/-- BACKGROUND_WINDOW_COMPLETE (R113); the measured difference is in 0.001 ppm. -/
def execBackgroundWindowComplete (measured : Int) (s : State) : Host.Outcome State Fault Refusal :=
  s.live fun s =>
    match s.osc.bgWindow with
    | some elapsed => s.after (16000 - elapsed) fun t => t.completeBackground measured
    | none => s

/-- CHECK_COMPLETE (R118); the measured difference is in 0.001 ppm. -/
def execCheckComplete (measured : Int) (s : State) : Host.Outcome State Fault Refusal :=
  s.live fun s =>
    match s.osc.check with
    | some left => s.after left fun t => t.completeCheck measured
    | none => s

/-! ## Outputs -/

/-- A pending setup takes over at the seam of a clock drive (R147). -/
def State.takeSetup (s : State) (sh : ShelfId) (setup : OutputSetup) : State :=
  s.setOutput sh { s.outputs[sh] with active := setup, pendingSetup := none }

/-- OUTPUT_SEAM (R147). -/
def execOutputSeam (sh : ShelfId) (s : State) : Host.Outcome State Fault Refusal :=
  s.live fun s =>
    match s.outputs[sh].pendingSetup with
    | some setup => State.refresh s (s.takeSetup sh setup)
    | none => s

/-- GRADE_MESSAGE_SEND (R160): the next message falls due. -/
def execGradeMessageSend (sh : ShelfId) (s : State) : Host.Outcome State Fault Refusal :=
  s.live fun s =>
    match s.outputs[sh].dueAt with
    | some due =>
      let t := s.elapse (due - s.now)
      if t.outputs[sh].active.enabled then t.setOutput sh (t.outputs[sh].sendNow t.now) else t
    | none => s

/-- The message on the line ends; one that waits for it starts (R160, R161). -/
def Output.endMessage (o : Output) (now : Nat) : Output :=
  if o.sendDue then ({ o with sending := none } : Output).startMessage now else { o with sending := none }

/-- GRADE_MESSAGE_SEND_END (R159, R160). -/
def execGradeMessageSendEnd (sh : ShelfId) (s : State) : Host.Outcome State Fault Refusal :=
  s.live fun s => s.setOutput sh (s.outputs[sh].endMessage s.now)

end Sys2Proof.Machine
end

