-- ==== Sys2Proof/Machine/RequestRows.lean ====
section
/-!
DEFINITION. The meanings of the 38 request rows: an intact frame of the kind completes on a control port, which hands it
to the executor (R166, R171), or drops it while the port is WORKING (R167). What each request does is the `do…` of its
family file; see notes/assumptions/1.md.
-/

namespace Sys2Proof.Machine

/-- IDENTITY (R186). -/
def execIdentity (cp : ControlPort) (s : State) : Host.Outcome State Fault Refusal :=
  s.live fun s => s.complete cp (.request .identity)

/-- NODE_IDENTIFIER (R185). -/
def execNodeIdentifier (cp : ControlPort) (identifier : Nat) (s : State) : Host.Outcome State Fault Refusal :=
  s.live fun s => s.complete cp (.request (.nodeIdentifier identifier))

/-- RELEASE (R184). -/
def execRelease (cp : ControlPort) (s : State) : Host.Outcome State Fault Refusal :=
  s.live fun s => s.complete cp (.request .release)

/-- RESTART (R187). -/
def execRestart (cp : ControlPort) (s : State) : Host.Outcome State Fault Refusal :=
  s.live fun s => s.complete cp (.request .restart)

/-- TAKE_CONTROL (R175). -/
def execTakeControl (cp : ControlPort) (s : State) : Host.Outcome State Fault Refusal :=
  s.live fun s => s.complete cp (.request .takeControl)

/-- YIELD_CONTROL (R176). -/
def execYieldControl (cp : ControlPort) (s : State) : Host.Outcome State Fault Refusal :=
  s.live fun s => s.complete cp (.request .yieldControl)

/-- YIELD_PERMISSION (R177). -/
def execYieldPermission (cp : ControlPort) (value : Nat) (s : State) : Host.Outcome State Fault Refusal :=
  s.live fun s => s.complete cp (.request (.yieldPermission value))

/-- PORT_SETUP (R18). -/
def execPortSetup (cp : ControlPort) (port : Nat) (body : PortSetupBody) (s : State) :
    Host.Outcome State Fault Refusal :=
  s.live fun s => s.complete cp (.request (.portSetup port body))

/-- PORT_STATUS (R19). -/
def execPortStatus (cp : ControlPort) (port : Nat) (s : State) : Host.Outcome State Fault Refusal :=
  s.live fun s => s.complete cp (.request (.portStatus port))

/-- PORT_GRADE (R38). -/
def execPortGrade (cp : ControlPort) (port : Nat) (s : State) : Host.Outcome State Fault Refusal :=
  s.live fun s => s.complete cp (.request (.portGrade port))

/-- ASSIGN_PORT (R41). -/
def execAssignPort (cp : ControlPort) (port domain : Nat) (s : State) : Host.Outcome State Fault Refusal :=
  s.live fun s => s.complete cp (.request (.assignPort port domain))

/-- ASSIGN_SHELF (R42). -/
def execAssignShelf (cp : ControlPort) (shelf domain : Nat) (s : State) : Host.Outcome State Fault Refusal :=
  s.live fun s => s.complete cp (.request (.assignShelf shelf domain))

/-- PENDING_PARTITION (R43). -/
def execPendingPartition (cp : ControlPort) (s : State) : Host.Outcome State Fault Refusal :=
  s.live fun s => s.complete cp (.request .pendingPartition)

/-- APPLY_PARTITION (R45). -/
def execApplyPartition (cp : ControlPort) (s : State) : Host.Outcome State Fault Refusal :=
  s.live fun s => s.complete cp (.request .applyPartition)

/-- DISCARD_PARTITION (R44). -/
def execDiscardPartition (cp : ControlPort) (s : State) : Host.Outcome State Fault Refusal :=
  s.live fun s => s.complete cp (.request .discardPartition)

/-- DOMAIN_SETUP (R50). -/
def execDomainSetup (cp : ControlPort) (domain : Nat) (body : DomainSetupBody) (s : State) :
    Host.Outcome State Fault Refusal :=
  s.live fun s => s.complete cp (.request (.domainSetup domain body))

/-- PRIORITY_LIST (R52). -/
def execPriorityList (cp : ControlPort) (domain : Nat) (ports : List Nat) (s : State) :
    Host.Outcome State Fault Refusal :=
  s.live fun s => s.complete cp (.request (.priorityList domain ports))

/-- DOMAIN_REPORT (R53). -/
def execDomainReport (cp : ControlPort) (domain : Nat) (s : State) : Host.Outcome State Fault Refusal :=
  s.live fun s => s.complete cp (.request (.domainReport domain))

/-- EVENT_REPORT (R59). -/
def execEventReport (cp : ControlPort) (selector : Nat) (s : State) : Host.Outcome State Fault Refusal :=
  s.live fun s => s.complete cp (.request (.eventReport selector))

/-- EVENT_MASK (R56). -/
def execEventMask (cp : ControlPort) (selector mask : Nat) (s : State) : Host.Outcome State Fault Refusal :=
  s.live fun s => s.complete cp (.request (.eventMask selector mask))

/-- LINE_SETUP (R58). -/
def execLineSetup (cp : ControlPort) (line drive : Nat) (s : State) : Host.Outcome State Fault Refusal :=
  s.live fun s => s.complete cp (.request (.lineSetup line drive))

/-- RANKING_REPORT (R72). -/
def execRankingReport (cp : ControlPort) (shelf : Nat) (s : State) : Host.Outcome State Fault Refusal :=
  s.live fun s => s.complete cp (.request (.rankingReport shelf))

/-- SHELF_REPORT (R102). -/
def execShelfReport (cp : ControlPort) (shelf : Nat) (s : State) : Host.Outcome State Fault Refusal :=
  s.live fun s => s.complete cp (.request (.shelfReport shelf))

/-- CHANGE_REPORT (R103). -/
def execChangeReport (cp : ControlPort) (selector : Nat) (s : State) : Host.Outcome State Fault Refusal :=
  s.live fun s => s.complete cp (.request (.changeReport selector))

/-- QUEUE_REPORT (R104). -/
def execQueueReport (cp : ControlPort) (s : State) : Host.Outcome State Fault Refusal :=
  s.live fun s => s.complete cp (.request .queueReport)

/-- PIN (R128). -/
def execPin (cp : ControlPort) (shelf port : Nat) (s : State) : Host.Outcome State Fault Refusal :=
  s.live fun s => s.complete cp (.request (.pin shelf port))

/-- STEER (R124). -/
def execSteer (cp : ControlPort) (shelf port : Nat) (s : State) : Host.Outcome State Fault Refusal :=
  s.live fun s => s.complete cp (.request (.steer shelf port))

/-- CLEAR_STEERING (R132). -/
def execClearSteering (cp : ControlPort) (shelf : Nat) (s : State) : Host.Outcome State Fault Refusal :=
  s.live fun s => s.complete cp (.request (.clearSteering shelf))

/-- BAR (R135). -/
def execBar (cp : ControlPort) (shelf port : Nat) (s : State) : Host.Outcome State Fault Refusal :=
  s.live fun s => s.complete cp (.request (.bar shelf port))

/-- ALLOW (R135). -/
def execAllow (cp : ControlPort) (shelf port : Nat) (s : State) : Host.Outcome State Fault Refusal :=
  s.live fun s => s.complete cp (.request (.allow shelf port))

/-- OPEN_WINDOW (R139). -/
def execOpenWindow (cp : ControlPort) (firstShelf lastShelf firstPort lastPort order : Nat) (s : State) :
    Host.Outcome State Fault Refusal :=
  s.live fun s => s.complete cp (.request (.openWindow firstShelf lastShelf firstPort lastPort order))

/-- WRITE_WINDOW (R140). -/
def execWriteWindow (cp : ControlPort) (cells : List CellValue) (s : State) : Host.Outcome State Fault Refusal :=
  s.live fun s => s.complete cp (.request (.writeWindow cells))

/-- CONTINUE_WINDOW (R141). -/
def execContinueWindow (cp : ControlPort) (cells : List CellValue) (s : State) : Host.Outcome State Fault Refusal :=
  s.live fun s => s.complete cp (.request (.continueWindow cells))

/-- EXCLUSION_ROW (R144). -/
def execExclusionRow (cp : ControlPort) (shelf : Nat) (s : State) : Host.Outcome State Fault Refusal :=
  s.live fun s => s.complete cp (.request (.exclusionRow shelf))

/-- OUTPUT_SETUP (R146). -/
def execOutputSetup (cp : ControlPort) (shelf : Nat) (body : OutputSetupBody) (s : State) :
    Host.Outcome State Fault Refusal :=
  s.live fun s => s.complete cp (.request (.outputSetup shelf body))

/-- OUTPUT_REPORT (R162). -/
def execOutputReport (cp : ControlPort) (shelf : Nat) (s : State) : Host.Outcome State Fault Refusal :=
  s.live fun s => s.complete cp (.request (.outputReport shelf))

/-- OSCILLATOR_CHECK (R119). -/
def execOscillatorCheck (cp : ControlPort) (s : State) : Host.Outcome State Fault Refusal :=
  s.live fun s => s.complete cp (.request .oscillatorCheck)

/-- OSCILLATOR_REPORT (R120). -/
def execOscillatorReport (cp : ControlPort) (s : State) : Host.Outcome State Fault Refusal :=
  s.live fun s => s.complete cp (.request .oscillatorReport)

end Sys2Proof.Machine
end

