-- ==== Sys2Proof/Machine/Dispatch.lean ====
section
/-!
DEFINITION. One arm per command: each row of spec/opcode_table.json has its meaning.
-/

namespace Sys2Proof.Machine

/-- A command's effect on everything but the queue. -/
def exec (i : Instr) (s : State) : Host.Outcome State Fault Refusal :=
  match i with
  | .identity cp => Sys2Proof.Machine.execIdentity cp s
  | .nodeIdentifier cp identifier => Sys2Proof.Machine.execNodeIdentifier cp identifier s
  | .release cp => Sys2Proof.Machine.execRelease cp s
  | .restart cp => Sys2Proof.Machine.execRestart cp s
  | .takeControl cp => Sys2Proof.Machine.execTakeControl cp s
  | .yieldControl cp => Sys2Proof.Machine.execYieldControl cp s
  | .yieldPermission cp value => Sys2Proof.Machine.execYieldPermission cp value s
  | .portSetup cp port body => Sys2Proof.Machine.execPortSetup cp port body s
  | .portStatus cp port => Sys2Proof.Machine.execPortStatus cp port s
  | .portGrade cp port => Sys2Proof.Machine.execPortGrade cp port s
  | .assignPort cp port domain => Sys2Proof.Machine.execAssignPort cp port domain s
  | .assignShelf cp shelf domain => Sys2Proof.Machine.execAssignShelf cp shelf domain s
  | .pendingPartition cp => Sys2Proof.Machine.execPendingPartition cp s
  | .applyPartition cp => Sys2Proof.Machine.execApplyPartition cp s
  | .discardPartition cp => Sys2Proof.Machine.execDiscardPartition cp s
  | .domainSetup cp domain body => Sys2Proof.Machine.execDomainSetup cp domain body s
  | .priorityList cp domain ports => Sys2Proof.Machine.execPriorityList cp domain ports s
  | .domainReport cp domain => Sys2Proof.Machine.execDomainReport cp domain s
  | .eventReport cp selector => Sys2Proof.Machine.execEventReport cp selector s
  | .eventMask cp selector mask => Sys2Proof.Machine.execEventMask cp selector mask s
  | .lineSetup cp line drive => Sys2Proof.Machine.execLineSetup cp line drive s
  | .rankingReport cp shelf => Sys2Proof.Machine.execRankingReport cp shelf s
  | .shelfReport cp shelf => Sys2Proof.Machine.execShelfReport cp shelf s
  | .changeReport cp selector => Sys2Proof.Machine.execChangeReport cp selector s
  | .queueReport cp => Sys2Proof.Machine.execQueueReport cp s
  | .pin cp shelf port => Sys2Proof.Machine.execPin cp shelf port s
  | .steer cp shelf port => Sys2Proof.Machine.execSteer cp shelf port s
  | .clearSteering cp shelf => Sys2Proof.Machine.execClearSteering cp shelf s
  | .bar cp shelf port => Sys2Proof.Machine.execBar cp shelf port s
  | .allow cp shelf port => Sys2Proof.Machine.execAllow cp shelf port s
  | .openWindow cp firstShelf lastShelf firstPort lastPort order => Sys2Proof.Machine.execOpenWindow cp firstShelf lastShelf firstPort lastPort order s
  | .writeWindow cp cells => Sys2Proof.Machine.execWriteWindow cp cells s
  | .continueWindow cp cells => Sys2Proof.Machine.execContinueWindow cp cells s
  | .exclusionRow cp shelf => Sys2Proof.Machine.execExclusionRow cp shelf s
  | .outputSetup cp shelf body => Sys2Proof.Machine.execOutputSetup cp shelf body s
  | .outputReport cp shelf => Sys2Proof.Machine.execOutputReport cp shelf s
  | .oscillatorCheck cp => Sys2Proof.Machine.execOscillatorCheck cp s
  | .oscillatorReport cp => Sys2Proof.Machine.execOscillatorReport cp s
  | .frameWrite cp bytes => Sys2Proof.Machine.execFrameWrite cp bytes s
  | .replyRead cp clocked => Sys2Proof.Machine.execReplyRead cp clocked s
  | .resync cp clocked => Sys2Proof.Machine.execResync cp clocked s
  | .statusOnlyTransaction cp opener bytes => Sys2Proof.Machine.execStatusOnlyTransaction cp opener bytes s
  | .voidTransaction cp bits => Sys2Proof.Machine.execVoidTransaction cp bits s
  | .resetAssert => Sys2Proof.Machine.execResetAssert s
  | .resetRelease pins => Sys2Proof.Machine.execResetRelease pins s
  | .powerOn pins => Sys2Proof.Machine.execPowerOn pins s
  | .activityConfirmation port => Sys2Proof.Machine.execActivityConfirmation port s
  | .activityLoss port => Sys2Proof.Machine.execActivityLoss port s
  | .measurementWindowComplete port measured => Sys2Proof.Machine.execMeasurementWindowComplete port measured s
  | .restoreTimerExpiry port => Sys2Proof.Machine.execRestoreTimerExpiry port s
  | .waiverDeadlinePasses port => Sys2Proof.Machine.execWaiverDeadlinePasses port s
  | .gradeMessage port bytes framingError => Sys2Proof.Machine.execGradeMessage port bytes framingError s
  | .collectingGapTimeout port => Sys2Proof.Machine.execCollectingGapTimeout port s
  | .gradeTimerExpiry port => Sys2Proof.Machine.execGradeTimerExpiry port s
  | .holdOffExpiry shelf => Sys2Proof.Machine.execHoldOffExpiry shelf s
  | .settleComplete shelf => Sys2Proof.Machine.execSettleComplete shelf s
  | .holdoverLimitExpiry shelf => Sys2Proof.Machine.execHoldoverLimitExpiry shelf s
  | .guardAbsent => Sys2Proof.Machine.execGuardAbsent s
  | .guardPresent => Sys2Proof.Machine.execGuardPresent s
  | .backgroundWindowComplete measured => Sys2Proof.Machine.execBackgroundWindowComplete measured s
  | .checkComplete measured => Sys2Proof.Machine.execCheckComplete measured s
  | .outputSeam shelf => Sys2Proof.Machine.execOutputSeam shelf s
  | .gradeMessageSend shelf => Sys2Proof.Machine.execGradeMessageSend shelf s
  | .gradeMessageSendEnd shelf => Sys2Proof.Machine.execGradeMessageSendEnd shelf s
  | .gradeLineByteReceived port byte framingError => Sys2Proof.Machine.execGradeLineByteReceived port byte framingError s
  | .requestReplyPlaced => Sys2Proof.Machine.execRequestReplyPlaced s
  | .learnTimeReached shelf => Sys2Proof.Machine.execLearnTimeReached shelf s

end Sys2Proof.Machine
end

