-- ==== Sys2Proof/Machine/Step.lean ====
section
/-!
DEFINITION. One step: the command at the front of the queue, or 1 ms of idling when none waits
(notes/assumptions/2.md).
-/

namespace Sys2Proof.Machine

/-- Take the command at the front; on an empty queue 1 ms passes, and nothing happens while the part is in reset. -/
def step (s : State) : Host.Outcome State Fault Refusal :=
  match s.pending with
  | c :: rest => exec c { s with pending := rest }
  | [] => s.live fun s => s.elapse 1

/-- `s` with the command a table word spells at the front of its queue: no word spells one. -/
def State.withFetchWord (s : State) (nbits w : Nat) : State :=
  match decodeTableWord nbits w with
  | some c => { s with pending := c :: s.pending }
  | none => s

end Sys2Proof.Machine
end

