-- ==== Sys2Proof/Machine/Pins.lean ====
section
/-!
DEFINITION. What the pins show of a state (R57, R58, R149, R150, R153, R159, R181). Nothing here is state of its own;
edges and half-periods are left out (notes/assumptions/30.md).
-/

namespace Sys2Proof.Machine

/-- The level of a notify line (R58). -/
inductive LineLevel where
  | drivenLow
  | drivenHigh
  | released
  deriving DecidableEq, Repr

/-- A line level from its drive setting and whether it is asserted (R58). -/
def LineDrive.level : LineDrive → Bool → LineLevel
  | .activeLowOpenDrain, true => .drivenLow
  | .activeLowOpenDrain, false => .released
  | .activeHighPushPull, true => .drivenHigh
  | .activeHighPushPull, false => .drivenLow

/-- NTF0 to NTF3 for a domain, NTFP for `none` (R57, R58). -/
def State.notifyLine (s : State) (line : Option DomainId) : LineLevel :=
  (s.lineDrives[match line with | some d => d.castSucc | none => (4 : Fin 5)]).level (s.lineAsserted line)

/-- What a shelf clock line carries: a level, or a clock with its nominal rate in kHz and polarity (R149, R153). -/
inductive ClockLine where
  | low
  | high
  | tracker (source : TrackerSource) (kHz : Nat) (inverted : Bool)
  | localOsc (kHz : Nat) (inverted : Bool)
  deriving DecidableEq, Repr

/-- A shelf clock line (R149, R150, R153); low while the part is in reset (R181). -/
def State.clockLine (s : State) (sh : ShelfId) : ClockLine :=
  let o := s.outputs[sh]
  if s.inReset then .low
  else
    match o.drive with
    | .low => .low
    | .high => .high
    | .tracker => .tracker o.tracker (if o.active.divide then 1024 else 2048) o.active.invert
    | .localOsc => .localOsc (if o.active.divide then 10000 else 20000) o.active.invert

/-- The bytes on a shelf grade line; `none` is idle high (R159, R161, R181). -/
def State.gradeLine (s : State) (sh : ShelfId) : Option (List Byte) :=
  if s.inReset then none else s.outputs[sh].sending

/-- The bytes the last transaction on a control port shifted out; SDO is undriven while the part is in reset (R163). -/
def State.dataOut (s : State) (cp : ControlPort) : List Byte := if s.inReset then [] else (s.cpi cp).shifted

/-- The bits of the status byte a void transaction shifted out, up to the last bit clocked (R164). -/
def State.dataOutBits (s : State) (cp : ControlPort) : List Bool := if s.inReset then [] else (s.cpi cp).shiftedBits

end Sys2Proof.Machine
end

