-- ==== Sys2Proof/Safety.lean ====
section
/-!
DEFINITION. The conditions that rules of the spec say always hold, as predicates on a state, and the words the
statements use: when a request is carried out at once, the part with a reply fixed, and what a shelf does with a ranking.
-/

namespace Sys2Proof.Machine

/-! ## Requests -/

/-- A request completing on this port now is taken at once: the part is out of reset, the executor is free, this port
is not WORKING and no request waits on the other (R165, R171). -/
def State.ready (s : State) (cp : ControlPort) : Bool :=
  !s.inReset && s.carrying.isNone && (s.waiting (otherPort cp)).isNone &&
    match (s.cpi cp).stage with
    | .working _ => false
    | _ => true

/-- Ready, past INIT, and on the active port: the checks of R172 let every request through. -/
def State.readyActive (s : State) (cp : ControlPort) : Bool :=
  s.ready cp && s.phase != .init && s.active == cp

/-- The part after a request of port `cp` has been taken and its reply fixed (R171): the reply waits to be placed, the
port is WORKING with its receiver empty, and it is the previous supplier. -/
def State.answered (s : State) (cp : ControlPort) (code : ResultCode) (body : List Byte) : State :=
  ({ s with carrying := some (cp, ({ code := code, body := body } : Reply).frame), prevSupplier := some cp } :
    State).setCpi cp { s.cpi cp with receiver := [], stage := .working none }

/-- The reply of port `cp` is fixed in `t`, and no other control-port state differs from `s` (R171). -/
def Answers (s t : State) (cp : ControlPort) (code : ResultCode) (body : List Byte) : Prop :=
  t.carrying = some (cp, ({ code := code, body := body } : Reply).frame) ∧ t.prevSupplier = some cp ∧
    t.cpi cp = { s.cpi cp with receiver := [], stage := .working none } ∧
    t.cpi (otherPort cp) = s.cpi (otherPort cp)

/-- From `s` to `t` nothing differs but what shelves and outputs do about a change: shelf records, units, queue, domain
events, the model's free counter and the outputs. -/
def Consequences (s t : State) : Prop :=
  t = { s with shelves := t.shelves, units := t.units, queue := t.queue, domainEvents := t.domainEvents,
               freeCount := t.freeCount, outputs := t.outputs }

/-- The same, and the control-port state that taking a request changes. -/
def RequestConsequences (s t : State) : Prop :=
  t = { s with shelves := t.shelves, units := t.units, queue := t.queue, domainEvents := t.domainEvents,
               freeCount := t.freeCount, outputs := t.outputs, carrying := t.carrying,
               prevSupplier := t.prevSupplier, cpa := t.cpa, cpb := t.cpb }

/-- The lengths of R189's table: the length the kind of a frame calls for, `none` for a code that is no kind. Where it
depends on a count, the count is read from its place; a frame too short to hold it is too short for a count of 0. -/
def lengthCalledFor (frame : List Byte) : Option Nat :=
  match frame[1]? with
  | none => none
  | some kind =>
    if kind ∈ [0x01#8, 0x03#8, 0x04#8, 0x08#8, 0x09#8, 0x22#8, 0x23#8, 0x24#8, 0x3A#8, 0x58#8, 0x59#8] then some 4
    else if kind ∈ [0x0A#8, 0x11#8, 0x18#8, 0x27#8, 0x28#8, 0x30#8, 0x38#8, 0x39#8, 0x42#8, 0x48#8, 0x51#8] then some 5
    else if kind ∈ [0x02#8, 0x20#8, 0x21#8, 0x2A#8, 0x40#8, 0x41#8, 0x43#8, 0x44#8] then some 6
    else if kind = 0x29#8 then some 7
    else if kind = 0x45#8 then some 9
    else if kind = 0x50#8 then some 10
    else if kind = 0x10#8 then some 11
    else if kind = 0x25#8 then some 22
    else if kind = 0x26#8 then some (6 + (frame[3]?.getD 0).toNat)
    else if kind = 0x46#8 ∨ kind = 0x47#8 then
      some (6 + (word16 (frame[2]?.getD 0) (frame[3]?.getD 0) + 7) / 8)
    else none

/-- The commands that may carry out a request that a frame has brought: two transactions and the placing of a reply, which
lets a waiting request be taken (R165, R171). -/
def bringsFrame : Instr → Bool
  | .frameWrite _ _ => true
  | .statusOnlyTransaction _ _ _ => true
  | .requestReplyPlaced => true
  | _ => false

/-! ## Events -/

/-- The kind is latched in a domain's set. -/
def State.latched (s : State) (d : DomainId) (k : DomainEvent) : Bool := s.domainEvents[d].latched &&& k.bit != 0

/-- The kind is masked in a domain's set. -/
def State.masked (s : State) (d : DomainId) (k : DomainEvent) : Bool := s.domainEvents[d].mask &&& k.bit != 0

/-- The kind is latched in the part set. -/
def State.partLatched (s : State) (k : PartEvent) : Bool := s.partEvents.latched &&& k.bit != 0

/-- The kind is masked in the part set. -/
def State.partMasked (s : State) (k : PartEvent) : Bool := s.partEvents.mask &&& k.bit != 0

/-- The kind is latched in `t` wherever a shelf raises it in `s` (R54, R78). -/
def Raised (s t : State) (sh : ShelfId) (k : DomainEvent) : Prop :=
  ∀ d, s.shelfDomain sh = some d → s.masked d k = false → t.latched d k = true

/-- The kinds of R78 that a shelf raises as its state goes from `a` to `b`, and STEER_LOST where `lost` says that the
part took its steering (R127, R131). -/
def shelfRaises (a b : ShelfState) (lost : Bool) : DomainEvent → Bool
  | .switch => b.isQueued && !a.isQueued || b.isAcquire && !a.isQueued && a != b
  | .lock => b.isLocked && a.isAcquire
  | .bridge => b.isBridge && !a.isBridge
  | .holdover => b.isHoldover && !a.isHoldover
  | .freerun => b.isFreerun && !a.isFreerun
  | .steerLost => lost
  | .expired => false
  | .port => false
  | .grade => false
  | .loop => false

/-- From `s` to `t` exactly the events of the shelves' moves have been raised: a kind is latched in a domain if it was,
or if it is not masked and some shelf of the domain raises it (R54, R78). -/
def EventsOfMoves (s t : State) : Prop :=
  ∀ (d : DomainId) (k : DomainEvent), t.masked d k = s.masked d k ∧
    (t.latched d k = true ↔ s.latched d k = true ∨ s.masked d k = false ∧ ∃ sh : ShelfId, s.shelfDomain sh = some d ∧
      shelfRaises s.shelves[sh].state t.shelves[sh].state
        (s.shelves[sh].steering != .auto && t.shelves[sh].steering == .auto) k = true)

/-- The kinds a port raises: PORT as its state changes (R17), GRADE as its accepted grade changes, LOOP as its loop flag
goes from clear to set (R36). -/
def portRaises (r r' : Port) (g g' : Grade) : DomainEvent → Bool
  | .port => r'.state != r.state
  | .grade => g'.accepted != g.accepted
  | .loop => g'.loopFlag && !g.loopFlag
  | .switch => false
  | .lock => false
  | .bridge => false
  | .holdover => false
  | .freerun => false
  | .expired => false
  | .steerLost => false

/-- From `s` to `t` the kinds PORT, GRADE and LOOP have been raised for exactly the ports whose records raise them, each
in its domain (R17, R36, R54). -/
def EventsOfPorts (s t : State) : Prop :=
  ∀ (d : DomainId) (k : DomainEvent), k = .port ∨ k = .grade ∨ k = .loop →
    (t.latched d k = true ↔ s.latched d k = true ∨ s.masked d k = false ∧ ∃ p : PortId, s.portDomain p = some d ∧
      portRaises s.ports[p] t.ports[p] s.grades[p] t.grades[p] k = true)

/-! ## What the engine hands a shelf (chapter 4) -/

/-- The checks of R64 on a port for a shelf of domain `d`, in order: each reason with whether its check fails. -/
def State.checks (s : State) (sh : ShelfId) (d : DomainId) (p : PortId) : List (Reason × Bool) :=
  [(.off, s.ports[p].state == .off), (.down, s.ports[p].state == .down), (.suspect, s.ports[p].state == .suspect),
   (.qualifying, s.ports[p].state == .qualifying), (.notListed, !s.lists[d].contains p), (.barred, s.barred sh p),
   (.shun, s.effectiveGrade d p == 15), (.ungraded, s.effectiveGrade d p == 0),
   (.belowMin, decide (s.domains[d].minGrade < s.effectiveGrade d p)), (.loop, s.grades[p].loopFlag),
   (.hops, decide (s.domains[d].maxHops < s.grades[p].trace.length)),
   (.truncated, s.grades[p].truncated && s.domains[d].truncatedPolicy == .exclude)]

/-- The reason of the first check that fails. -/
def firstFailing (checks : List (Reason × Bool)) : Option Reason := (checks.find? (·.2)).map (·.1)

/-- Conditions 2 to 8 of R62 for a port and a shelf of domain `d`. -/
def State.suits (s : State) (sh : ShelfId) (d : DomainId) (p : PortId) : Prop :=
  p ∈ s.lists[d] ∧ s.barred sh p = false ∧ s.effectiveGrade d p ≠ 15 ∧ s.effectiveGrade d p ≠ 0 ∧
    s.effectiveGrade d p ≤ s.domains[d].minGrade ∧ s.grades[p].loopFlag = false ∧
    s.grades[p].trace.length ≤ s.domains[d].maxHops ∧
    (s.grades[p].truncated = false ∨ s.domains[d].truncatedPolicy = .accept)

/-! ## The pool and the other shelves (5.2) -/

/-- A shelf that R79 puts in the queue: QUEUED, or LOCKED with a pending target. -/
def ShelfState.waits (st : ShelfState) : Bool := st.isQueued || st.pending?.isSome

/-- R79: a shelf holds a unit exactly when it is in ACQUIRE, and then one; it is in the queue, once, exactly when it
waits; and while the queue is not empty every unit is lent. -/
def State.poolSound (s : State) : Prop :=
  (∀ u : UnitId, ∀ sh : ShelfId, s.units[u] = some sh → s.shelves[sh].state.isAcquire = true) ∧
  (∀ sh : ShelfId, s.shelves[sh].state.isAcquire = true → ∃ u : UnitId, s.units[u] = some sh) ∧
  (∀ u v : UnitId, ∀ sh : ShelfId, s.units[u] = some sh → s.units[v] = some sh → u = v) ∧
  (∀ sh : ShelfId, sh ∈ s.queue ↔ s.shelves[sh].state.waits = true) ∧
  s.queue.Nodup ∧ (s.queue ≠ [] → ∀ u : UnitId, s.units[u] ≠ none)

/-- The lowest-numbered idle unit (R82). -/
def LowestIdle (units : Vector (Option ShelfId) 6) (low : UnitId) : Prop :=
  units[low] = none ∧ ∀ v : UnitId, v < low → units[v] ≠ none

/-- What one shelf's move from `s` to `t` makes of units and queue (R80 to R83). A shelf that gives up its acquisition frees
its unit to the head of the queue, and stands at the tail if it waits; where nobody waits the unit is idle, and a shelf that
joins is lent the lowest idle one. A shelf without a unit that waits keeps its place, or joins at the tail; one that acquires
met an empty queue and has the lowest idle unit; any other has left the queue. A shelf whose state stays moves nothing. -/
def PoolFollows (s t : State) (sh : ShelfId) : Prop :=
  (t.shelves[sh].state = s.shelves[sh].state → t.units = s.units ∧ t.queue = s.queue) ∧
  (∀ unit : UnitId, s.units[unit] = some sh → t.shelves[sh].state ≠ s.shelves[sh].state →
    match s.queue with
    | head :: rest =>
      t.units = s.units.set unit (some head) ∧
        t.queue = if t.shelves[sh].state.waits = true then rest ++ [sh] else rest
    | [] =>
      t.queue = [] ∧ (t.shelves[sh].state.isAcquire = false → t.units = s.units.set unit none) ∧
        (t.shelves[sh].state.isAcquire = true → ∃ low : UnitId,
          LowestIdle (s.units.set unit none) low ∧ t.units = (s.units.set unit none).set low (some sh))) ∧
  ((∀ unit : UnitId, s.units[unit] ≠ some sh) →
    (t.shelves[sh].state.waits = true →
      t.units = s.units ∧ t.queue = if sh ∈ s.queue then s.queue else s.queue ++ [sh]) ∧
    (t.shelves[sh].state.isAcquire = true →
      s.queue = [] ∧ t.queue = [] ∧ ∃ low : UnitId, LowestIdle s.units low ∧ t.units = s.units.set low (some sh)) ∧
    (t.shelves[sh].state.waits = false → t.shelves[sh].state.isAcquire = false →
      t.units = s.units ∧ t.queue = s.queue.filter (· != sh)))

/-- The shelf begins no move: its last cause and its changed flag are kept (R77). -/
def MarksKept (s t : State) (sh : ShelfId) : Prop :=
  t.shelves[sh].lastCause = s.shelves[sh].lastCause ∧ t.shelves[sh].changed = s.shelves[sh].changed

/-- The shelf keeps its record but for its validity and, in HELD, its nominee. -/
def ShelfKept (s t : State) (x : ShelfId) : Prop :=
  t.shelves[x] = { s.shelves[x] with valid := t.shelves[x].valid, state := t.shelves[x].state } ∧
    (t.shelves[x].state = s.shelves[x].state ∨
      s.shelves[x].state.isHeld = true ∧ t.shelves[x].state.isHeld = true)

/-- The shelf stood in the queue and has been lent a unit (R82): a QUEUED shelf is in ACQUIRE toward its target with its
cause kept, a LOCKED one toward its pending target with that target's cause (R96). -/
def Lent (s t : State) (x : ShelfId) : Prop :=
  x ∈ s.queue ∧
    match s.shelves[x].state with
    | .queued b =>
      t.shelves[x] = { s.shelves[x] with state := .acquire b (s.settleMs x), changed := true, valid := t.shelves[x].valid }
    | .locked _ (some (b, cause)) =>
      t.shelves[x] = { s.shelves[x] with state := .acquire b (s.settleMs x), lastCause := some cause, changed := true,
                                         valid := t.shelves[x].valid }
    | _ => False

/-- What a move of other shelves leaves of a shelf: all of its record, unless it was lent a unit. -/
def Undisturbed (s t : State) (x : ShelfId) : Prop := ShelfKept s t x ∨ Lent s t x

/-- No shelf moves, no unit is lent, nothing joins or leaves the queue and no domain event is raised. -/
def ShelvesKept (s t : State) : Prop :=
  t.units = s.units ∧ t.queue = s.queue ∧ t.domainEvents = s.domainEvents ∧ ∀ x : ShelfId, ShelfKept s t x

/-! ## What a shelf does with a ranking (chapters 5 and 7)

`s` is the part before the shelf acts and `t` after it. -/

/-- The shelf has gone toward `p` with this cause: QUEUED, or ACQUIRE with a full settle time where a unit was lent at
once (R80, R84, R91); SWITCH is raised unless it was QUEUED (R78). -/
def GoesToward (s t : State) (sh : ShelfId) (p : PortId) (cause : Cause) : Prop :=
  (t.shelves[sh].state = .queued p ∨ t.shelves[sh].state = .acquire p (s.settleMs sh)) ∧
    t.shelves[sh].lastCause = some cause ∧ t.shelves[sh].changed = true ∧
    (s.shelves[sh].state.isQueued = false → Raised s t sh .switch)

/-- The shelf rests with this cause, out of the queue: in HOLDOVER with its full limit when its record is valid, in
FREERUN when it is not, with the event of the state entered (R78, R84, R110). -/
def Rests (s t : State) (sh : ShelfId) (cause : Cause) : Prop :=
  t.shelves[sh].state = (if s.holdoverValid sh = true then .holdover (s.limitMs sh) else .freerun) ∧
    t.shelves[sh].lastCause = some cause ∧ t.shelves[sh].changed = true ∧ sh ∉ t.queue ∧
    Raised s t sh (if s.holdoverValid sh = true then .holdover else .freerun)

/-- The shelf has been lent a unit toward `b` (R82, R96): ACQUIRE with its full settle time and this cause. -/
def Granted (s t : State) (sh : ShelfId) (b : PortId) (cause : Option Cause) : Prop :=
  t.shelves[sh].state = .acquire b (s.settleMs sh) ∧ t.shelves[sh].lastCause = cause ∧ t.shelves[sh].changed = true

/-- The shelf has reselected with this choice and cause (R84). -/
def Reselects (s t : State) (sh : ShelfId) (choice : Option PortId) (cause : Cause) : Prop :=
  match choice with
  | some p => GoesToward s t sh p cause
  | none => Rests s t sh cause

/-- The shelf has entered BRIDGE with its full hold-off and this cause, out of the queue, and BRIDGE is raised (R78,
R97). -/
def Bridges (s t : State) (sh : ShelfId) (c : PortId) (cause : Cause) : Prop :=
  t.shelves[sh].state = .bridge c (s.shelfHoldOff sh) ∧ t.shelves[sh].lastCause = some cause ∧
    t.shelves[sh].changed = true ∧ sh ∉ t.queue ∧ Raised s t sh .bridge

/-- The switch rule applied by a shelf LOCKED to `c` (R95, R96): it wants no switch and has no pending target and no
place in the queue; or it wants one and waits for it, or was lent a unit at once. -/
def AppliesSwitchRule (s t : State) (sh : ShelfId) (c : PortId) : Prop :=
  match s.switchWanted sh c with
  | none => t.shelves[sh].state = .locked c none ∧ t.shelves[sh].lastCause = s.shelves[sh].lastCause
  | some (b, cause) =>
    (t.shelves[sh].state = .locked c (some (b, cause)) ∧ t.shelves[sh].lastCause = s.shelves[sh].lastCause ∧
        sh ∈ t.queue) ∨
      (t.shelves[sh].state = .acquire b (s.settleMs sh) ∧ t.shelves[sh].lastCause = some cause ∧
        t.shelves[sh].changed = true ∧ Raised s t sh .switch)

/-- A shelf under AUTO acts on its ranking (R88 to R100). `strict` says that a QUEUED shelf whose target is not eligible
reselects (R50, R52) instead of following its choice (R90). -/
def ActsUnderAuto (s t : State) (sh : ShelfId) (strict : Bool) : Prop :=
  match s.shelves[sh].state with
  | .held _ => t = s
  | .parked => t = s
  | .freerun => (match s.best sh with | some b => GoesToward s t sh b .better | none => t = s)
  | .holdover _ => (match s.best sh with | some b => GoesToward s t sh b .better | none => t = s)
  | .queued q =>
    if strict = true ∧ s.eligible sh q = false then Reselects s t sh (s.best sh) (s.failCause sh q)
    else
      match s.best sh with
      | some b =>
        if b = q then t = s
        else t = s.setShelf sh { s.shelves[sh] with state := .queued b, changed := true }
      | none => Rests s t sh (s.failCause sh q)
  | .acquire q _ =>
    if s.eligible sh q = true then t = s else Reselects s t sh (s.best sh) (s.failCause sh q)
  | .locked c pend =>
    if s.eligible sh c = true then
      AppliesSwitchRule s t sh c ∧ (s.switchWanted sh c = none → pend = none → t = s) ∧
        (t.shelves[sh].state.isLocked = true → t.shelves[sh].changed = s.shelves[sh].changed)
    else if s.admissible sh c = true ∧ s.shelfHoldOff sh ≠ 0 then Bridges s t sh c .lost
    else Reselects s t sh (s.best sh) (if s.admissible sh c = true then .lost else s.failCause sh c)
  | .bridge c _ =>
    if s.eligible sh c = true then AppliesSwitchRule s t sh c ∧ t.shelves[sh].changed = true
    else if s.admissible sh c = true then t = s
    else Reselects s t sh (s.best sh) (if s.sameDomain sh c = true then .ineligible else .partition)

/-- The part with a shelf's steering returned to AUTO, any pending target dropped and the shelf's place in the queue with
it (R127, R131; in an APPLY PARTITION that takes its reference too, the model's choice: notes/assumptions/44.md). -/
def State.unsteered (s : State) (sh : ShelfId) : State :=
  { s with
    shelves := s.shelves.set sh { s.shelves[sh] with
      steering := .auto,
      state := (match s.shelves[sh].state with
        | .locked c (some _) => .locked c none
        | st => st) },
    queue := if s.shelves[sh].state.pending?.isSome then s.queue.filter (· != sh) else s.queue }

/-- The shelf has lost its steering: AUTO, STEER_LOST raised, and then it acts as an AUTO shelf (R127, R131). -/
def LosesSteering (s t : State) (sh : ShelfId) : Prop :=
  t.shelves[sh].steering = .auto ∧
    (∀ d, s.shelfDomain sh = some d → s.masked d .steerLost = false → t.latched d .steerLost = true) ∧
    ActsUnderAuto ((s.unsteered sh).raiseShelf sh .steerLost) t sh true

/-- A shelf under STEER(p) acts on its ranking (R126, R127). -/
def ActsUnderSteer (s t : State) (sh : ShelfId) (p : PortId) : Prop :=
  match s.shelves[sh].state with
  | .locked c _ =>
    if c = p then
      if s.eligible sh p = true then t = s
      else if s.admissible sh p = true ∧ s.shelfHoldOff sh ≠ 0 then Bridges s t sh p .lost
      else LosesSteering s t sh
    else if s.eligible sh p = false then LosesSteering s t sh
    else if s.eligible sh c = true then t = s
    else GoesToward s t sh p (s.failCause sh c)
  | .bridge c _ =>
    if s.eligible sh c = true then
      t.shelves[sh].state = .locked c none ∧ t.shelves[sh].lastCause = s.shelves[sh].lastCause ∧
        t.shelves[sh].changed = true
    else if s.admissible sh c = true then t = s
    else LosesSteering s t sh
  | .queued q => if s.eligible sh q = true then t = s else LosesSteering s t sh
  | .acquire q _ => if s.eligible sh q = true then t = s else LosesSteering s t sh
  | .held _ => t = s
  | .parked => t = s
  | .freerun => t = s
  | .holdover _ => t = s

/-- A shelf under PIN(p) acts on its ranking (R126, R130, R131, R133). `ceased` says that the change took the reference of
a LOCKED shelf away. -/
def ActsUnderPin (s t : State) (sh : ShelfId) (p : PortId) (ceased : Bool) : Prop :=
  if s.ports[p].state = .off ∨ s.sameDomain sh p = false then LosesSteering s t sh
  else if s.ports[p].activity = true then
    match s.shelves[sh].state with
    | .locked c _ => if c = p ∨ ceased = false then t = s else GoesToward s t sh p (s.failCause sh c)
    | .bridge c _ =>
      if c = p then
        t.shelves[sh].state = .locked p none ∧ t.shelves[sh].lastCause = s.shelves[sh].lastCause ∧
          t.shelves[sh].changed = true
      else t = s
    | .freerun => GoesToward s t sh p .better
    | .holdover _ => GoesToward s t sh p .better
    | .queued _ => t = s
    | .acquire _ _ => t = s
    | .held _ => t = s
    | .parked => t = s
  else
    match s.shelves[sh].state with
    | .locked c _ => if c = p ∧ s.shelfHoldOff sh ≠ 0 then Bridges s t sh p .lost else Rests s t sh .lost
    | .queued _ => Rests s t sh .lost
    | .acquire _ _ => Rests s t sh .lost
    | .bridge _ _ => t = s
    | .freerun => t = s
    | .holdover _ => t = s
    | .held _ => t = s
    | .parked => t = s

/-- Exactly the shelves of `reached` act on a change from `u`, one whole move after the other, on the part `v`, and `w` is
what the last of them leaves. The order is any: R80, R82 and R90 leave it open where they meet at the pool. -/
def ActInTurn (u v w : State) (x : Ctx) (reached : ShelfId → Bool) : Prop :=
  ∃ order : List ShelfId, order.Perm ((List.finRange 48).filter reached) ∧
    w = order.foldl (fun w sh => w.act sh { x with ceased := State.ceased u w sh }) v

/-- A change of ranking inputs leads from `u` to `t`, and exactly the shelves it hands something new act on it (R68): `v`
is the part with the inputs changed, where nothing but PORT, GRADE and LOOP has been raised, and `w` the part when they
have acted. Units, queue and domain events of `t` are those of `w`, and so is every shelf but for its validity, which
follows R105, and in HELD its nominee, which follows R71. -/
def ActsOnChange (u t : State) (x : Ctx) : Prop :=
  ∃ v w : State, RequestConsequences v t ∧ v.shelves = u.shelves ∧ v.units = u.units ∧ v.queue = u.queue ∧
    (∀ d k, v.masked d k = u.masked d k ∧ (k ≠ .port → k ≠ .grade → k ≠ .loop → v.latched d k = u.latched d k)) ∧
    EventsOfPorts u v ∧ ActInTurn u v w x (fun sh => u.handed sh != v.handed sh) ∧ t.units = w.units ∧
    t.queue = w.queue ∧ t.domainEvents = w.domainEvents ∧
    ∀ sh : ShelfId, ShelfKept w t sh

/-- The commands that change ranking inputs (R67): how the shelves they reach act on the change. PRIORITY LIST makes a
QUEUED shelf whose target stops being eligible reselect (R52). -/
def rerankedBy : Instr → Option Ctx
  | .activityConfirmation _ => some Ctx.ranking
  | .activityLoss _ => some Ctx.ranking
  | .measurementWindowComplete _ _ => some Ctx.ranking
  | .restoreTimerExpiry _ => some Ctx.ranking
  | .gradeMessage _ _ _ => some Ctx.ranking
  | .gradeTimerExpiry _ => some Ctx.ranking
  | .gradeLineByteReceived _ _ _ => some Ctx.ranking
  | .nodeIdentifier _ _ => some Ctx.ranking
  | .portSetup _ _ _ => some Ctx.ranking
  | .bar _ _ _ => some Ctx.ranking
  | .allow _ _ _ => some Ctx.ranking
  | .writeWindow _ _ => some Ctx.ranking
  | .continueWindow _ _ => some Ctx.ranking
  | .priorityList _ _ _ => some Ctx.failing
  | _ => none

/-- The port record `r` of port `p` is as the qualification decision leaves it, taken in the part `u` (R9): UP while a
waiver has not passed, outside RUNNING, in domain none or with restore time 0; else QUALIFYING with the restore time. -/
def QualifiedIn (u : State) (p : PortId) (r : Port) : Prop :=
  ((∃ w, u.ports[p].waiver = some w ∧ u.now ≤ w) ∨ u.phase ≠ .running ∨ u.portDomain p = none ∨
      (∃ d, u.portDomain p = some d ∧ u.domains[d].restoreTime = 0) → r.state = .up ∧ r.restoreLeft = none) ∧
  (∀ d, (∀ w, u.ports[p].waiver = some w → w < u.now) → u.phase = .running → u.portDomain p = some d →
    u.domains[d].restoreTime ≠ 0 → r.state = .qualifying ∧ r.restoreLeft = some (u.domains[d].restoreTime * 1000))

/-- The latch, clear in `u`, has been set in `t` (R14, R115): windows and runs are gone and a declared fault is cleared
with a qualification decision; every learned time is 0 and every record not valid, a HOLDOVER shelf has gone to FREERUN
with cause OSC_FAULT and the event FREERUN, and then the shelves act on the ports' changes; a clock of the part's own
oscillator is sent with SHUN. -/
def LatchTakesEffect (u t : State) : Prop :=
  (∀ p : PortId,
    t.ports[p] = { u.ports[p] with window := none, outRun := 0, inRun := 0, state := t.ports[p].state,
                                   fault := if u.ports[p].state = .suspect then false else u.ports[p].fault,
                                   restoreLeft := t.ports[p].restoreLeft } ∧
    (u.ports[p].state ≠ .suspect →
      t.ports[p].state = u.ports[p].state ∧ t.ports[p].restoreLeft = u.ports[p].restoreLeft) ∧
    (u.ports[p].state = .suspect → QualifiedIn u p t.ports[p])) ∧
  (∃ v : State,
    v = { u with
      domainEvents := v.domainEvents,
      shelves := Vector.ofFn fun sh =>
        if u.shelves[sh].state.isHoldover then
          { u.shelves[sh] with state := .freerun, learned := 0, valid := false, lastCause := some .oscFault,
                               changed := true }
        else { u.shelves[sh] with learned := 0, valid := false } } ∧
    EventsOfMoves u v ∧ ActsOnChange v t Ctx.ranking) ∧
  (∀ (sh : ShelfId) (d : DomainId), u.shelves[sh].state.isHoldover = true → u.shelfDomain sh = some d →
    u.masked d .freerun = false → t.latched d .freerun = true) ∧
  (∀ sh : ShelfId, t.outputs[sh].active.enabled = true →
    t.outputs[sh].drive = .localOsc ∨ (t.outputs[sh].drive = .tracker ∧ t.shelves[sh].state.isLocked = false) →
    t.outputs[sh].outgoing = some (shunMsg t.nodeId))

/-- Every shelf has left HELD from `u` to `t` (R87, R133): the shelves with a nominee have joined in ascending number and
the first six of them have been lent units 0 to 5; each carries cause RELEASE and its changed flag; a pin is kept, and a
STEER whose port is the nominee; and exactly the events of these moves are raised. -/
def Releases (u t : State) : Prop :=
  t.queue = ((List.finRange 48).filter fun sh =>
    (u.shelfDomain sh).isSome && u.shelves[sh].state.nominee?.isSome).drop 6 ∧
  (∀ unit : UnitId, t.units[unit] = ((List.finRange 48).filter fun sh =>
    (u.shelfDomain sh).isSome && u.shelves[sh].state.nominee?.isSome)[unit.val]?) ∧
  (∀ sh : ShelfId,
    t.shelves[sh].lastCause = some .release ∧ t.shelves[sh].changed = true ∧
    (u.shelfDomain sh = none → t.shelves[sh].state = .parked) ∧
    (u.shelfDomain sh ≠ none → u.shelves[sh].state.nominee? = none → t.shelves[sh].state = .freerun) ∧
    (∀ p, u.shelfDomain sh ≠ none → u.shelves[sh].state.nominee? = some p →
      t.shelves[sh].state = .queued p ∨ t.shelves[sh].state = .acquire p (u.settleMs sh)) ∧
    (∀ p, u.shelfDomain sh ≠ none → u.shelves[sh].steering = .steer p →
      t.shelves[sh].steering = if u.shelves[sh].state.nominee? = some p then .steer p else .auto) ∧
    t.shelves[sh].learned = u.shelves[sh].learned ∧
    (u.shelves[sh].steering = .auto → t.shelves[sh].steering = .auto) ∧
    (∀ p, u.shelves[sh].steering = .pin p → t.shelves[sh].steering = .pin p)) ∧
  EventsOfMoves u t

/-- A shelf in HOLDOVER or FREERUN whose record is judged and that goes nowhere else (R109): it stays where its state matches
its record, and otherwise it is in FREERUN, or in HOLDOVER with its full limit, with its changed flag set and the event of
the state entered. Its last cause is kept. -/
def Judged (v t : State) (sh : ShelfId) : Prop :=
  t.shelves[sh].lastCause = v.shelves[sh].lastCause ∧
    if v.holdoverValid sh = v.shelves[sh].state.isHoldover then
      t.shelves[sh].state = v.shelves[sh].state ∧ t.shelves[sh].changed = v.shelves[sh].changed
    else
      t.shelves[sh].state = (if v.holdoverValid sh = true then .holdover (v.limitMs sh) else .freerun) ∧
        t.shelves[sh].changed = true ∧ Raised v t sh (if v.holdoverValid sh = true then .holdover else .freerun)

/-- What is left to do for a shelf when every turn of an apply has been taken, `w` being the part then: one in HOLDOVER or
FREERUN has its record judged (R109), and any other keeps its record but for its validity and, in HELD, its nominee. -/
def JudgedAfterTurns (w t : State) (sh : ShelfId) : Prop :=
  if w.shelves[sh].state.isHoldover = true ∨ w.shelves[sh].state.isFreerun = true then
    Judged w t sh ∧
      t.shelves[sh] = { w.shelves[sh] with state := t.shelves[sh].state, changed := t.shelves[sh].changed,
                                           valid := t.shelves[sh].valid }
  else ShelfKept w t sh

/-- What an apply leaves of a shelf it hands nothing new (R68, R48): its steering and learned time, and its record but for
the validity, unless it waited and was lent a unit (R82, R96), or rested and its state did not match its record (R109). `v`
is the part under the new partition, where the shelf's record is still the one before. -/
def Spared (v t : State) (sh : ShelfId) : Prop :=
  t.shelves[sh].steering = v.shelves[sh].steering ∧ t.shelves[sh].learned = v.shelves[sh].learned ∧
    match v.shelves[sh].state with
    | .holdover _ => Judged v t sh
    | .freerun => Judged v t sh
    | _ => Undisturbed v t sh

/-! ## Sending grade messages (8.5) -/

/-- What a change at `now` makes of an output's sending (R158, R160, R161). Enabled before and after, or disabled before and
after: the message on the line, the last one sent, its starting time and the waiting message are kept, and the changed mark
can only be set, where the message differs from the last one sent. Disabled: the message on the line goes on to its end, the
mark, the starting time and the waiting message go. Enabled: the message is built and starts at once, or waits for the end
of the one on the line. -/
def TransmitterFollows (o o' : Output) (now : Nat) : Prop :=
  (o'.active.enabled = o.active.enabled →
    o'.sending = o.sending ∧ o'.lastSent = o.lastSent ∧ o'.lastStart = o.lastStart ∧ o'.sendDue = o.sendDue ∧
      (o.changedMark = true → o'.changedMark = true) ∧
      (o'.changedMark = true → o.changedMark = true ∨ o'.lastSent ≠ o'.outgoing)) ∧
  (o.active.enabled = true → o'.active.enabled = false →
    o'.sending = o.sending ∧ o'.lastSent = o.lastSent ∧ o'.outgoing = none ∧ o'.changedMark = false ∧
      o'.lastStart = none ∧ o'.sendDue = false) ∧
  (o.active.enabled = false → o'.active.enabled = true →
    ∃ m, o'.outgoing = some m ∧
      (o.sending = none → o'.sending = some m.bytes ∧ o'.lastSent = some m ∧ o'.lastStart = some now ∧
        o'.changedMark = false ∧ o'.sendDue = false) ∧
      (o.sending ≠ none → o'.sending = o.sending ∧ o'.lastSent = o.lastSent ∧ o'.sendDue = true))

/-! ## Invariants -/

/-- The table of 1.4 and the last sentences of R2 and R4: which live fields a port state goes with. -/
def Port.sound (r : Port) (may : Bool) : Bool :=
  (r.fault == (r.state == .suspect)) && (r.setup.enabled == (r.state != .off)) &&
    (r.restoreLeft.isSome == (r.state == .qualifying)) &&
    (r.activity == (r.state == .suspect || r.state == .qualifying || r.state == .up)) &&
    (r.window.isSome == (r.setup.enabled && r.activity && may))

/-- Every port is as its state says (R2, R4, 1.4). -/
def State.portsSound (s : State) : Prop := ∀ p : PortId, s.ports[p].sound s.mayMeasure = true

/-- R15: in INIT and HELD no port is QUALIFYING. -/
def State.noneQualifies (s : State) : Prop := s.phase ≠ .running → ∀ p : PortId, s.ports[p].state ≠ .qualifying

/-- A port setup within the ranges of R1. -/
def PortSetup.sound (p : PortSetup) : Bool :=
  inRange p.lossDwell 1 255 && inRange p.gradeTimeout 2 30 && inRange p.confirmCount 1 4

/-- A grade record as R25, R29 and R32 say it always is. -/
def Grade.sound (g : Grade) : Bool :=
  (decide (g.accepted ≤ 12) || g.accepted == 15) && decide (g.trace.length ≤ 8) && decide (g.malformed ≤ 255) &&
    (match g.pendingGrade with
      | some (v, n) => inRange v 1 12 && inRange n 1 3 && decide (gradeRank v < gradeRank g.accepted)
      | none => true) &&
    (g.timer.isSome || (g.accepted == 0 && g.trace.isEmpty && !g.holdover && !g.truncated && g.pendingGrade.isNone))

/-- Every port setup and grade record is within its ranges, and every loop flag says whether the trace holds the node
identifier (R1, R25, R29, R32, R33). -/
def State.gradesSound (s : State) : Prop :=
  ∀ p : PortId, s.ports[p].setup.sound = true ∧ s.grades[p].sound = true ∧
    s.grades[p].loopFlag = s.grades[p].trace.contains s.nodeId

/-- R51: the entries of a list are ports of its domain, none appears twice, and there are at most 24. -/
def State.listsSound (s : State) : Prop :=
  ∀ d : DomainId, (∀ p ∈ s.lists[d], s.portDomain p = some d) ∧ s.lists[d].Nodup ∧ s.lists[d].length ≤ 24

/-- R86: in INIT and HELD every shelf is HELD, in RUNNING none is. -/
def State.phaseSound (s : State) : Prop :=
  ∀ sh : ShelfId, s.shelves[sh].state.isHeld = true ↔ s.phase ≠ .running

/-- R114: while the latch is set every learned time is 0, no shelf is in HOLDOVER, no port is SUSPECT, and (R4) no
measurement window runs. -/
def State.latchSound (s : State) : Prop :=
  s.osc.latch = true →
    (∀ sh : ShelfId, s.shelves[sh].learned = 0 ∧ s.shelves[sh].state.isHoldover = false) ∧
    (∀ p : PortId, s.ports[p].state ≠ .suspect ∧ s.ports[p].window = none)

/-- R105: every record's validity is the condition of R105. -/
def State.validSound (s : State) : Prop := ∀ sh : ShelfId, s.shelves[sh].valid = s.holdoverValid sh

/-- R152: an enabled output whose line carries no clock sends SHUN with the own identifier alone; a disabled output has
no outgoing message (R157). -/
def State.outputsSound (s : State) : Prop :=
  ∀ sh : ShelfId,
    (s.outputs[sh].active.enabled = true → s.outputs[sh].drive.fixed = true →
      s.outputs[sh].outgoing = some (shunMsg s.nodeId)) ∧
    (s.outputs[sh].active.enabled = false → s.outputs[sh].outgoing = none)

/-- R171: a request waits only while another is being carried out, and a port is WORKING on a request that does not wait
exactly while that request is the one being carried out. -/
def State.executorSound (s : State) : Prop :=
  (s.carrying = none → s.waiting .cpa = none ∧ s.waiting .cpb = none) ∧
    ∀ cp : ControlPort, (s.cpi cp).stage = .working none ↔ ∃ f, s.carrying = some (cp, f)

/-- R150, R154, R156, R158 and R147: every output's drive, reason, tracker source and outgoing message are what the
shelf's state, the record's validity and the latch call for under the active setup; a frozen message is held exactly in
BRIDGE; a pending setup waits only on a clock; and out of reset, while the changed mark is clear, an enabled output's
message is the last one it sent. -/
def State.outputsCurrent (s : State) : Prop :=
  ∀ sh : ShelfId,
    (s.outputs[sh].drive, s.outputs[sh].reason) = s.driveUnder sh s.outputs[sh].active s.outputs[sh].frozen ∧
    s.outputs[sh].tracker = s.trackerOf sh ∧
    s.outputs[sh].outgoing =
      s.messageFor sh s.outputs[sh].active.enabled s.outputs[sh].drive s.outputs[sh].frozen ∧
    (s.outputs[sh].frozen.isSome = true ↔ s.shelves[sh].state.isBridge = true) ∧
    (s.outputs[sh].pendingSetup.isSome = true → s.outputs[sh].drive.fixed = false) ∧
    (s.inReset = false → s.outputs[sh].active.enabled = true → s.outputs[sh].changedMark = false →
      s.outputs[sh].lastSent = s.outputs[sh].outgoing)

/-- R71, R76, R122: where a shelf stands when every ranking has been acted on. A HELD shelf's nominee is the one R71
names; a shelf outside HELD is PARKED exactly in domain none; it is under STEER or PIN only toward a port of its own
domain; and its state names ports as its steering lets it (R88 to R100 for AUTO, R126 and R127 for STEER, R130 and R131
for PIN). Under STEER or PIN a shelf may wait LOCKED to another port that is not eligible, pinned until then (R125, R129),
but not to one without a clock. -/
def State.shelfSettled (s : State) (sh : ShelfId) : Bool :=
  match s.shelves[sh].steering with
  | .auto =>
    match s.shelves[sh].state with
    | .held n => n == s.nomineeOf sh
    | .parked => (s.shelfDomain sh).isNone
    | .freerun => (s.shelfDomain sh).isSome && s.best sh == none
    | .holdover _ => (s.shelfDomain sh).isSome && s.best sh == none
    | .queued t => s.best sh == some t
    | .acquire t _ => s.eligible sh t
    | .locked c pend => s.eligible sh c && pend == s.switchWanted sh c
    | .bridge c _ => s.admissible sh c && !s.eligible sh c
  | .steer p =>
    s.sameDomain sh p &&
      match s.shelves[sh].state with
      | .held n => n == s.nomineeOf sh
      | .queued t => t == p && s.eligible sh p
      | .acquire t _ => t == p && s.eligible sh p
      | .locked c pend =>
        if c = p then s.eligible sh p && pend == none
        else s.eligible sh p && pend.map (·.1) == some p && s.sameDomain sh c && s.ports[c].activity
      | .bridge c _ => c == p && s.admissible sh p && !s.eligible sh p
      | .parked => false
      | .freerun => false
      | .holdover _ => false
  | .pin p =>
    s.sameDomain sh p && s.ports[p].state != .off &&
      match s.shelves[sh].state with
      | .held n => n == s.nomineeOf sh
      | .queued t => t == p && s.ports[p].activity
      | .acquire t _ => t == p && s.ports[p].activity
      | .locked c pend =>
        if c = p then s.ports[p].activity && pend == none
        else s.ports[p].activity && pend.map (·.1) == some p && s.sameDomain sh c && s.ports[c].activity
      | .bridge c _ => c == p && !s.ports[p].activity
      | .freerun => !s.ports[p].activity
      | .holdover _ => !s.ports[p].activity
      | .parked => false

/-- Every shelf stands where its ranking and its steering call for it. -/
def State.shelvesSettled (s : State) : Prop := ∀ sh : ShelfId, s.shelfSettled sh = true

/-- A message that R154, R155 and R159 say the part can send: 1 to 8 identifiers, none of them 0x0000 or 0xFFFF, and
grade 0 to 12 or 15. -/
def GradeMsg.sendable (m : GradeMsg) : Bool :=
  inRange m.trace.length 1 8 && m.trace.all (fun i => i != 0x0000#16 && i != 0xFFFF#16) &&
    (decide (m.grade ≤ 12) || m.grade == 15)

end Sys2Proof.Machine
end

