-- ==== Sys2Proof/Certificates/Slice0/Obligations.lean ====
section
/-!
DEFINITION. The statements for the provers, listed in OBLIGATIONS.json. `s.elapse d` is `s` after `d` ms in which no
command falls: a timed event lets the time to its moment pass first (notes/assumptions/3.md).
-/

open Sys2Proof Sys2Proof.Machine

/-! ## Steps -/

/-- A step runs the command at the front of the queue on the part with the queue's rest. -/
def Obligations.StepRunsTheFrontCommand : Prop :=
  ∀ (c : Instr) (rest : List Instr) (s : State), s.pending = c :: rest → step s = exec c { s with pending := rest }

/-- With no command waiting 1 ms passes, and in reset nothing happens (the model's choice: notes/assumptions/2.md).
What a stretch of time does to every timer, window and learned time (R10, R31, R75, R105, R106, R110, R113, R118). -/
def Obligations.StepOnAnEmptyQueuePassesOneMillisecond : Prop :=
  ∀ s : State, s.pending = [] →
    (s.inReset = false →
      ∃ t, step s = .next t ∧ t.now = s.now + 1 ∧
        t = { s with now := t.now, ports := t.ports, grades := t.grades, shelves := t.shelves, osc := t.osc } ∧
        t = s.elapse 1) ∧
    (s.inReset = true → step s = .next s) ∧
    s.elapse 0 = s ∧
    (∀ (d : Nat) (u : State), 0 < d → u = s.elapse d →
      u = { s with now := s.now + d, ports := u.ports, grades := u.grades, shelves := u.shelves, osc := u.osc } ∧
      (∀ p : PortId,
        u.ports[p] = { s.ports[p] with window := s.ports[p].window.map fun e => min 1000 (e + d),
                                       restoreLeft := s.ports[p].restoreLeft.map fun left => left - d } ∧
        u.grades[p] = { s.grades[p] with timer := s.grades[p].timer.map fun left => left - d }) ∧
      (∀ sh : ShelfId,
        u.shelves[sh] =
          { s.shelves[sh] with
            state := (match s.shelves[sh].state with
              | .holdover left => .holdover (left.map fun left => left - d)
              | .acquire q left => .acquire q (left - d)
              | .bridge c left => .bridge c (left - d)
              | st => st),
            learned := if s.shelves[sh].state.isLocked = true ∧ s.osc.latch = false then
              min 3600000 (s.shelves[sh].learned + d) else s.shelves[sh].learned,
            valid := u.holdoverValid sh } ∧
        (u.holdoverValid sh = true ↔ ∃ e, u.shelfDomain sh = some e ∧ u.osc.latch = false ∧
          u.domains[e].learnTime * 1000 ≤ u.shelves[sh].learned)) ∧
      u.osc = { s.osc with bgWindow := s.osc.bgWindow.map fun e => min 16000 (e + d),
                           check := s.osc.check.map fun left => left - d })

/-- Every command answers a next state, and none touches the queue of commands (the model's choice for an event that
finds nothing to act on: notes/assumptions/33.md). -/
def Obligations.EveryCommandAnswersANextState : Prop :=
  ∀ (c : Instr) (s : State), ∃ t, exec c s = .next t ∧ t.pending = s.pending

/-! ## The executor and the Phase Controller -/

/-- A request refused by the executor's checks changes no state of any block (R172). That STEER, PIN and CLEAR STEERING are
among those refused in INIT is the model's choice (notes/assumptions/45.md). -/
def Obligations.ExecutorChecksRefuseWithoutEffect : Prop :=
  ∀ (i : Instr) (cp : ControlPort) (r : Request) (s : State), i.request? = some (cp, r) → s.ready cp = true →
    (s.phase = .init → r ≠ .identity → exec i s = .next (s.answered cp .wrongPhase [])) ∧
    (s.phase ≠ .init → isChanging r = true → s.active = otherPort cp →
      exec i s = .next (s.answered cp .notActive []))

/-- IDENTITY (R186): either port, every phase, nothing changed. The sizes of part code and revision and the codes of the
phase, the active port and the straps are the model's choice (notes/assumptions/23.md). -/
def Obligations.IdentityReportsThePart : Prop :=
  ∀ (cp : ControlPort) (s : State), s.ready cp = true →
    exec (.identity cp) s = .next (s.answered cp .ok
      ([0x48#8, 0x24#8, 0x01#8] ++ nodeIdBytes s.nodeId ++
        [phaseCode s.phase, controlPortCode s.active, flagByte (s.active == cp), flagByte s.straps.ctlSel,
         flagByte s.straps.holdMode, byte s.straps.nid.val]))

/-- TAKE CONTROL, YIELD CONTROL and YIELD PERMISSION (R175, R176, R177), with the change of control of R174. -/
def Obligations.ControlPassesAsItsRulesSay : Prop :=
  ∀ (cp : ControlPort) (s : State), s.ready cp = true →
    (s.phase = .init → exec (.takeControl cp) s = .next (s.answered cp .wrongPhase [])) ∧
    (s.phase ≠ .init → s.active = cp → exec (.takeControl cp) s = .next (s.answered cp .noChange [])) ∧
    (s.phase ≠ .init → s.active = otherPort cp → s.yieldPermission = true →
      exec (.takeControl cp) s = .next (({ s with
        active := cp, window := none, partEvents := s.partEvents.raise .control } : State).answered cp .ok [])) ∧
    (s.phase ≠ .init → s.active = otherPort cp → s.yieldPermission = false →
      exec (.takeControl cp) s = .next (s.answered cp .denied [])) ∧
    (s.phase ≠ .init → s.active = otherPort cp →
      exec (.yieldControl cp) s = .next (s.answered cp .notActive [])) ∧
    (s.phase ≠ .init → s.active = cp →
      exec (.yieldControl cp) s = .next (({ s with
        active := otherPort cp, window := none, partEvents := s.partEvents.raise .control } : State).answered
          cp .ok [])) ∧
    (∀ v : Nat, s.phase ≠ .init → s.active = otherPort cp →
      exec (.yieldPermission cp v) s = .next (s.answered cp .notActive [])) ∧
    (∀ v : Nat, s.phase ≠ .init → s.active = cp → 2 ≤ v →
      exec (.yieldPermission cp v) s = .next (s.answered cp .badField [])) ∧
    (∀ b : Bool, s.phase ≠ .init → s.active = cp → s.yieldPermission = b →
      exec (.yieldPermission cp b.toNat) s = .next (s.answered cp .noChange [])) ∧
    (∀ b : Bool, s.phase ≠ .init → s.active = cp → s.yieldPermission ≠ b →
      exec (.yieldPermission cp b.toNat) s =
        .next (({ s with yieldPermission := b } : State).answered cp .ok []))

/-- NODE IDENTIFIER (R185). -/
def Obligations.NodeIdentifierRecomputesLoopFlags : Prop :=
  ∀ (cp : ControlPort) (i : Nat) (s : State), s.readyActive cp = true → i < 65536 →
    (s.phase = .running → exec (.nodeIdentifier cp i) s = .next (s.answered cp .wrongPhase [])) ∧
    (s.phase = .held → i = 0 ∨ i = 0xFFFF →
      exec (.nodeIdentifier cp i) s = .next (s.answered cp .badField [])) ∧
    (s.phase = .held → i ≠ 0 → i ≠ 0xFFFF →
      ∃ t, exec (.nodeIdentifier cp i) s = .next t ∧ Answers s t cp .ok [] ∧ t.nodeId.toNat = i ∧
        RequestConsequences { s with nodeId := t.nodeId, grades := t.grades } t ∧
        (∀ p : PortId,
          t.grades[p] = { s.grades[p] with loopFlag := s.grades[p].trace.contains t.nodeId } ∧
          (∀ d, s.portDomain p = some d → s.masked d .loop = false → s.grades[p].loopFlag = false →
            t.grades[p].loopFlag = true → t.latched d .loop = true)) ∧
        (s.phaseSound → ∀ sh : ShelfId, t.outputs[sh].active.enabled = true →
          t.outputs[sh].outgoing = some (shunMsg t.nodeId)))

/-- RELEASE (R184, R87, R133): every shelf leaves HELD; the shelves with a nominee join in ascending number and the
first six of them are lent units 0 to 5. SWITCH, FREERUN and STEER_LOST are raised as R78 and R133 say. -/
def Obligations.ReleaseMovesEveryShelfOutOfHeld : Prop :=
  ∀ (cp : ControlPort) (s : State), s.readyActive cp = true →
    (s.phase = .running → exec (.release cp) s = .next (s.answered cp .noChange [])) ∧
    (s.phase = .held → s.phaseSound → s.queue = [] → (∀ u : UnitId, s.units[u] = none) →
      ∃ t, exec (.release cp) s = .next t ∧
        Answers s t cp .ok
          [byte ((List.finRange 48).filter fun sh =>
              t.shelves[sh].state.isQueued || t.shelves[sh].state.isAcquire).length,
            byte ((List.finRange 48).filter fun sh => t.shelves[sh].state.isFreerun).length,
            byte ((List.finRange 48).filter fun sh => t.shelves[sh].state.isParked).length] ∧
        RequestConsequences { s with phase := .running, ports := t.ports,
                                     partEvents := s.partEvents.raise .phase } t ∧
        (∀ p : PortId, t.ports[p] = { s.ports[p] with window := t.ports[p].window }) ∧
        Releases s t)

/-- RESTART (R187, R179): the reset values with the straps and the active port kept, PHASE alone latched, the OK reply
with the port that asked. The clock, the free counter and the queue are the model's own (notes/assumptions/28.md). Bytes
that the transaction still carries after the RESTART frame start a new frame (R179; notes/assumptions/43.md). -/
def Obligations.RestartReturnsToResetValues : Prop :=
  ∀ (cp : ControlPort) (s : State), s.readyActive cp = true →
    ∃ t, exec (.restart cp) s = .next t ∧
      t.cpi cp = { receiver := [], stage := .reply ({ code := .ok, body := [] } : Reply).frame, frameDropped := false,
                   shifted := (s.cpi cp).shifted, shiftedBits := (s.cpi cp).shiftedBits } ∧
      t.cpi (otherPort cp) = { receiver := [], stage := .idle, frameDropped := false,
                               shifted := (s.cpi (otherPort cp)).shifted,
                               shiftedBits := (s.cpi (otherPort cp)).shiftedBits } ∧
      t = { State.atReset s.straps (shunMsg (nodeIdOf s.straps)).bytes s.now s.freeCount s.pending with
            active := s.active, partEvents := { latched := 0x10#5, mask := 0 }, cpa := t.cpa, cpb := t.cpb } ∧
      (∀ rest : List Byte, (s.cpi cp).receiver = [] →
        ∃ v, exec (.frameWrite cp rest) t = .next v ∧
          exec (.frameWrite cp (requestFrame .restart ++ rest)) s = .next (v.setCpi cp { v.cpi cp with
            shifted := s.statusByte cp :: List.replicate (4 + rest.length) 0xFF, shiftedBits := [] }))

/-- RESET_ASSERT, RESET_RELEASE and POWER_ON (R180, R181): in reset every line is idle and SDO undriven; a rise gives
the reset values with the straps sampled. What the records hold meanwhile is the model's choice
(notes/assumptions/11.md, 12.md). -/
def Obligations.ResetPinAndPowerOnGiveResetValues : Prop :=
  ∀ (pins : Straps) (s : State),
    (∃ t, exec .resetAssert s = .next t ∧ t.inReset = true ∧
      (∀ line, t.notifyLine line = .released) ∧ (∀ sh, t.clockLine sh = .low ∧ t.gradeLine sh = none) ∧
      (∀ cp, t.dataOut cp = [] ∧ t.dataOutBits cp = [])) ∧
    (s.resetPin = false → s.internalReset = false →
      exec (.resetRelease pins) s =
        .next (State.atReset pins (shunMsg (nodeIdOf pins)).bytes s.now s.freeCount s.pending)) ∧
    (s.resetPin = false → s.internalReset = true →
      exec (.resetRelease pins) s = .next { s with resetPin := true }) ∧
    (s.resetPin = true → exec (.resetRelease pins) s = .next s) ∧
    (s.resetPin = true →
      exec (.powerOn pins) s =
        .next (State.atReset pins (shunMsg (nodeIdOf pins)).bytes s.now s.freeCount s.pending)) ∧
    (s.resetPin = false → ∃ t, exec (.powerOn pins) s = .next t ∧ t.inReset = true ∧ t.internalReset = false)

/-! ## Reference ports -/

/-- PORT SETUP (R18, R7, R35), with the ranges of R1 and the events of R17 and R36. -/
def Obligations.PortSetupCarriesOutEachChangedField : Prop :=
  ∀ (cp : ControlPort) (n : Nat) (b : PortSetupBody) (s : State), s.readyActive cp = true →
    (portOf n = none ↔ 24 ≤ n) ∧ (∀ p, portOf n = some p → p.val = n) ∧
    (portSetupOf b = none ↔
      2 ≤ b.enabled ∨ 4 ≤ b.rate ∨ b.lossDwell = 0 ∨ 255 < b.lossDwell ∨ 4 ≤ b.band ∨ b.gradeTimeout < 2 ∨
        30 < b.gradeTimeout ∨ b.confirmCount = 0 ∨ 4 < b.confirmCount) ∧
    (∀ new, portSetupOf b = some new →
      new = { enabled := b.enabled == 1, rate := [.khz8, .mhz2048, .mhz10, .mhz25].getD b.rate .khz8,
              lossDwell := b.lossDwell, band := [.ppm2, .ppm5, .ppm12, .ppm50].getD b.band .ppm2,
              gradeTimeout := b.gradeTimeout, confirmCount := b.confirmCount }) ∧
    (portOf n = none ∨ portSetupOf b = none → exec (.portSetup cp n b) s = .next (s.answered cp .badField [])) ∧
    (∀ p new, portOf n = some p → portSetupOf b = some new → new = s.ports[p].setup →
      exec (.portSetup cp n b) s = .next (s.answered cp .noChange [])) ∧
    (∀ p new, portOf n = some p → portSetupOf b = some new → new ≠ s.ports[p].setup →
      ∃ t, exec (.portSetup cp n b) s = .next t ∧ Answers s t cp .ok [] ∧
        RequestConsequences { s with ports := t.ports, grades := t.grades } t ∧ EventsOfPorts s t ∧
        (∀ q : PortId, q ≠ p → t.ports[q] = s.ports[q] ∧ t.grades[q] = s.grades[q]) ∧
        (s.ports[p].setup.enabled = true → new.enabled = false →
          t.ports[p] = { setup := new, state := .off, activity := false, fault := false, outRun := 0, inRun := 0,
                         offset := none, window := none, restoreLeft := none, waiver := none,
                         dropped := s.ports[p].dropped || s.ports[p].state == .up, faulted := s.ports[p].faulted,
                         since := s.now } ∧
          t.grades[p] = { receiver := .hunting, accepted := 0, pendingGrade := none, holdover := false,
                          truncated := false, trace := [], timer := none, malformed := s.grades[p].malformed,
                          loopFlag := false }) ∧
        (s.ports[p].setup.enabled = false → new.enabled = true →
          t.ports[p] = { s.ports[p] with setup := new, state := .down, since := s.now } ∧
          t.grades[p] = { s.grades[p] with receiver := .hunting }) ∧
        (s.ports[p].setup.enabled = false → new.enabled = false →
          t.ports[p] = { s.ports[p] with setup := new } ∧ t.grades[p] = s.grades[p]) ∧
        (s.ports[p].setup.enabled = true → new.enabled = true →
          t.grades[p] = s.grades[p] ∧
          t.ports[p] =
            { s.ports[p] with
              setup := new,
              offset := if s.ports[p].setup.rate = new.rate then s.ports[p].offset else none,
              outRun := if s.ports[p].setup.rate = new.rate ∧ s.ports[p].setup.band = new.band then
                s.ports[p].outRun else 0,
              inRun := if s.ports[p].setup.rate = new.rate ∧ s.ports[p].setup.band = new.band then
                s.ports[p].inRun else 0,
              window := if s.ports[p].activity = true ∧ s.mayMeasure = true then
                some (if s.ports[p].setup.rate = new.rate ∧ s.ports[p].setup.band = new.band then
                  s.ports[p].window.getD 0 else 0) else none,
              since := if s.ports[p].setup.rate = new.rate ∧ s.ports[p].setup.lossDwell = new.lossDwell then
                s.ports[p].since else s.now }))

/-- PORT STATUS and PORT GRADE (R19, R20, R38, R39). -/
def Obligations.PortReportsReportAndClearOnTheActivePort : Prop :=
  ∀ (cp : ControlPort) (n : Nat) (s : State), s.ready cp = true → s.phase ≠ .init →
    (24 ≤ n → exec (.portStatus cp n) s = .next (s.answered cp .badField []) ∧
      exec (.portGrade cp n) s = .next (s.answered cp .badField [])) ∧
    (∀ p : PortId, p.val = n →
      exec (.portStatus cp n) s = .next
        ((if s.active = cp then s.setPort p { s.ports[p] with dropped := false, faulted := false } else s).answered
          cp .ok
          ([byte n, domainCode (s.portDomain p), portStateCode s.ports[p].state,
            flagByte s.ports[p].setup.enabled, rateCode s.ports[p].setup.rate, byte s.ports[p].setup.lossDwell,
            bandCode s.ports[p].setup.band, byte s.ports[p].setup.gradeTimeout, byte s.ports[p].setup.confirmCount,
            flagByte s.ports[p].activity, flagByte s.ports[p].window.isSome, byte s.ports[p].outRun,
            byte s.ports[p].inRun] ++ offsetCode s.ports[p].offset ++ timeCode s.ports[p].restoreLeft ++
            timeCode (s.ports[p].waiver.map (· - s.now)) ++
            [flagByte s.ports[p].dropped, flagByte s.ports[p].faulted])) ∧
      exec (.portGrade cp n) s = .next
        ((if s.active = cp then s.setGrade p { s.grades[p] with malformed := 0 } else s).answered cp .ok
          ([byte n, domainCode (s.portDomain p), byte s.grades[p].accepted] ++
            pendingGradeCode s.grades[p].pendingGrade ++
            [flagByte s.grades[p].holdover, flagByte s.grades[p].truncated, byte s.grades[p].trace.length] ++
            s.grades[p].trace.flatMap nodeIdBytes ++ timeCode s.grades[p].timer ++
            [byte s.grades[p].malformed, flagByte s.grades[p].loopFlag])))

/-- ACTIVITY_CONFIRMATION with the qualification decision (R3, R9, R17). -/
def Obligations.ActivityConfirmationQualifiesThePort : Prop :=
  ∀ (p : PortId) (s u : State), s.inReset = false → s.ports[p].state = .down → s.ports[p].activity = false →
    u = s.elapse (s.ports[p].since + s.ports[p].setup.lossDwell - s.now) →
    ∃ t, exec (.activityConfirmation p) s = .next t ∧ Consequences { u with ports := t.ports } t ∧ EventsOfPorts u t ∧
      (∀ q : PortId, q ≠ p → t.ports[q] = u.ports[q]) ∧
      t.ports[p] = { u.ports[p] with activity := true, since := u.now, state := t.ports[p].state,
                                     window := t.ports[p].window, restoreLeft := t.ports[p].restoreLeft } ∧
      ((∃ w, u.ports[p].waiver = some w ∧ u.now ≤ w) ∨ u.phase ≠ .running ∨ u.portDomain p = none ∨
          (∃ d, u.portDomain p = some d ∧ u.domains[d].restoreTime = 0) →
        t.ports[p].state = .up ∧ t.ports[p].restoreLeft = none) ∧
      (∀ d, (∀ w, u.ports[p].waiver = some w → w < u.now) → u.phase = .running → u.portDomain p = some d →
          u.domains[d].restoreTime ≠ 0 →
        t.ports[p].state = .qualifying ∧ t.ports[p].restoreLeft = some (u.domains[d].restoreTime * 1000)) ∧
      (∀ d, u.portDomain p = some d → u.masked d .port = false → t.latched d .port = true)

/-- ACTIVITY_LOSS (R3, R8, R12, R17). -/
def Obligations.ActivityLossTakesThePortDown : Prop :=
  ∀ (p : PortId) (s u : State), s.inReset = false →
    u = s.elapse (s.ports[p].since + s.ports[p].setup.lossDwell - s.now) →
    (s.ports[p].activity = false → exec (.activityLoss p) s = .next s) ∧
    (s.ports[p].activity = true →
      ∃ t, exec (.activityLoss p) s = .next t ∧ Consequences { u with ports := t.ports } t ∧ EventsOfPorts u t ∧
        (∀ q : PortId, q ≠ p → t.ports[q] = u.ports[q]) ∧
        t.ports[p] = { u.ports[p] with
          state := .down, activity := false, fault := false, outRun := 0, inRun := 0, offset := none, window := none,
          restoreLeft := none, since := u.now, dropped := u.ports[p].dropped || u.ports[p].state == .up,
          waiver := t.ports[p].waiver } ∧
        (∀ d, u.ports[p].state = .up → u.portDomain p = some d → u.domains[d].holdOff ≠ 0 →
          t.ports[p].waiver = some (u.now + u.domains[d].holdOff)) ∧
        (u.ports[p].state ≠ .up ∨ u.portDomain p = none ∨
            (∃ d, u.portDomain p = some d ∧ u.domains[d].holdOff = 0) →
          t.ports[p].waiver = u.ports[p].waiver) ∧
        (∀ d, u.ports[p].state ≠ .down → u.portDomain p = some d → u.masked d .port = false →
          t.latched d .port = true))

/-- MEASUREMENT_WINDOW_COMPLETE (R5, R6, R9, R11, R12, R17). The rounding of a tie is a free value
(notes/assumptions/8.md). -/
def Obligations.MeasurementWindowGivesAVerdict : Prop :=
  (∀ m : Int, |roundOffset m| ≤ 32767 ∧ (|m| ≤ 327670 → |10 * roundOffset m - m| ≤ 5) ∧
    (327670 ≤ m → roundOffset m = 32767) ∧ (m ≤ -327670 → roundOffset m = -32767)) ∧
  ∀ (p : PortId) (m : Int) (e : Nat) (s u : State), s.inReset = false → s.ports[p].window = some e →
    u = s.elapse (1000 - e) →
    ∃ t, exec (.measurementWindowComplete p m) s = .next t ∧ Consequences { u with ports := t.ports } t ∧
      EventsOfPorts u t ∧
      (∀ q : PortId, q ≠ p → t.ports[q] = u.ports[q]) ∧
      t.ports[p].offset = some (roundOffset m) ∧ t.ports[p].window = some 0 ∧
      t.ports[p].setup = u.ports[p].setup ∧ t.ports[p].activity = u.ports[p].activity ∧
      (|roundOffset m| ≤ u.ports[p].setup.band.limit →
        t.ports[p].outRun = 0 ∧ t.ports[p].inRun = min 2 (u.ports[p].inRun + 1) ∧
        t.ports[p].faulted = u.ports[p].faulted ∧ t.ports[p].dropped = u.ports[p].dropped ∧
        t.ports[p].waiver = u.ports[p].waiver ∧
        (u.ports[p].fault = true → t.ports[p].inRun = 2 →
          t.ports[p].fault = false ∧ (t.ports[p].state = .up ∨ t.ports[p].state = .qualifying) ∧
          QualifiedIn u p t.ports[p]) ∧
        (u.ports[p].fault = false ∨ t.ports[p].inRun ≠ 2 →
          t.ports[p].fault = u.ports[p].fault ∧ t.ports[p].state = u.ports[p].state ∧
          t.ports[p].restoreLeft = u.ports[p].restoreLeft)) ∧
      (u.ports[p].setup.band.limit < |roundOffset m| →
        t.ports[p].inRun = 0 ∧ t.ports[p].outRun = min 2 (u.ports[p].outRun + 1) ∧
        (u.ports[p].fault = false → t.ports[p].outRun = 2 →
          t.ports[p].fault = true ∧ t.ports[p].faulted = true ∧ t.ports[p].state = .suspect ∧
          t.ports[p].restoreLeft = none ∧ t.ports[p].dropped = (u.ports[p].dropped || u.ports[p].state == .up) ∧
          (∀ d, u.ports[p].state = .up → u.portDomain p = some d → u.domains[d].holdOff ≠ 0 →
            t.ports[p].waiver = some (u.now + u.domains[d].holdOff)) ∧
          (u.ports[p].state ≠ .up ∨ u.portDomain p = none ∨
              (∃ d, u.portDomain p = some d ∧ u.domains[d].holdOff = 0) →
            t.ports[p].waiver = u.ports[p].waiver)) ∧
        (u.ports[p].fault = true ∨ t.ports[p].outRun ≠ 2 →
          t.ports[p].fault = u.ports[p].fault ∧ t.ports[p].faulted = u.ports[p].faulted ∧
          t.ports[p].state = u.ports[p].state ∧ t.ports[p].restoreLeft = u.ports[p].restoreLeft ∧
          t.ports[p].dropped = u.ports[p].dropped ∧ t.ports[p].waiver = u.ports[p].waiver))

/-- RESTORE_TIMER_EXPIRY and WAIVER_DEADLINE_PASSES (R10, R13). -/
def Obligations.RestoreTimerAndWaiverEndOnTime : Prop :=
  ∀ (p : PortId) (n : Nat) (s : State), s.inReset = false →
    (s.ports[p].state = .qualifying → s.ports[p].restoreLeft = some n →
      ∃ t, exec (.restoreTimerExpiry p) s = .next t ∧
        Consequences ((s.elapse n).setPort p { (s.elapse n).ports[p] with state := .up, restoreLeft := none }) t ∧
        (∀ d, s.portDomain p = some d → s.masked d .port = false → t.latched d .port = true)) ∧
    (s.ports[p].state ≠ .qualifying → exec (.restoreTimerExpiry p) s = .next s) ∧
    (s.ports[p].waiver = some n →
      exec (.waiverDeadlinePasses p) s =
        .next ((s.elapse (n - s.now)).setPort p { (s.elapse (n - s.now)).ports[p] with waiver := none })) ∧
    (s.ports[p].waiver = none → exec (.waiverDeadlinePasses p) s = .next s)

/-! ## Grade receivers -/

/-- GRADE_MESSAGE (R24, R26, R28, R29, R36). -/
def Obligations.GradeMessageIsAcceptedConfirmedOrDiscarded : Prop :=
  ∀ (p : PortId) (bytes : List Byte) (bad : Bool) (s : State), s.inReset = false →
    (s.ports[p].state = .off → exec (.gradeMessage p bytes bad) s = .next s) ∧
    (s.ports[p].state ≠ .off → GradeMsg.ofBytes bytes bad = none →
      ∃ t, exec (.gradeMessage p bytes bad) s = .next t ∧
        Consequences (s.setGrade p
          { s.grades[p] with receiver := .hunting, malformed := min 255 (s.grades[p].malformed + 1) }) t) ∧
    (∀ m, s.ports[p].state ≠ .off → GradeMsg.ofBytes bytes bad = some m →
      ∃ (t : State) (g : Grade), exec (.gradeMessage p bytes bad) s = .next t ∧
        Consequences { s with grades := s.grades.set p g } t ∧
        g = { receiver := .hunting, accepted := g.accepted, pendingGrade := g.pendingGrade, holdover := m.holdover,
              truncated := m.truncated, trace := m.trace, timer := some (s.ports[p].setup.gradeTimeout * 1000),
              malformed := s.grades[p].malformed, loopFlag := m.trace.contains s.nodeId } ∧
        (m.grade = 0 ∨ m.grade = 15 ∨ gradeRank s.grades[p].accepted ≤ gradeRank m.grade →
          g.accepted = m.grade ∧ g.pendingGrade = none) ∧
        (m.grade ≠ 0 → m.grade ≠ 15 → gradeRank m.grade < gradeRank s.grades[p].accepted →
          (s.ports[p].setup.confirmCount = 1 → g.accepted = m.grade ∧ g.pendingGrade = none) ∧
          (∀ n, 1 < s.ports[p].setup.confirmCount → s.grades[p].pendingGrade = some (m.grade, n) →
            (s.ports[p].setup.confirmCount ≤ n + 1 → g.accepted = m.grade ∧ g.pendingGrade = none) ∧
            (n + 1 < s.ports[p].setup.confirmCount →
              g.accepted = s.grades[p].accepted ∧ g.pendingGrade = some (m.grade, n + 1))) ∧
          (1 < s.ports[p].setup.confirmCount → (∀ n, s.grades[p].pendingGrade ≠ some (m.grade, n)) →
            g.accepted = s.grades[p].accepted ∧ g.pendingGrade = some (m.grade, 1))) ∧
        (∀ d, s.portDomain p = some d → s.masked d .grade = false → g.accepted ≠ s.grades[p].accepted →
          t.latched d .grade = true) ∧
        (∀ d, s.portDomain p = some d → s.masked d .loop = false → s.grades[p].loopFlag = false →
          g.loopFlag = true → t.latched d .loop = true))

/-- GRADE_LINE_BYTE_RECEIVED, COLLECTING_GAP_TIMEOUT and GRADE_TIMER_EXPIRY (R22, R31, R36). That the last byte
completes the message in the same step is the model's choice (notes/assumptions/34.md). -/
def Obligations.GradeLineBytesAssembleMessages : Prop :=
  ∀ (p : PortId) (b : Byte) (bad : Bool) (s : State), s.inReset = false →
    (s.ports[p].state ≠ .off → s.grades[p].receiver = .hunting → b = 0x7E#8 ∧ bad = false →
      ∃ t, exec (.gradeLineByteReceived p b bad) s = .next t ∧
        Consequences (s.setGrade p { s.grades[p] with receiver := .collecting [] false }) t) ∧
    (s.ports[p].state = .off ∨ (s.grades[p].receiver = .hunting ∧ (b ≠ 0x7E#8 ∨ bad = true)) →
      ∃ t, exec (.gradeLineByteReceived p b bad) s = .next t ∧ Consequences s t) ∧
    (∀ f, s.ports[p].state ≠ .off → s.grades[p].receiver = .collecting [] f →
      (bad = false ∧ b.toNat ∈ [5, 7, 9, 11, 13, 15, 17, 19] →
        ∃ t, exec (.gradeLineByteReceived p b bad) s = .next t ∧
          Consequences (s.setGrade p
            { s.grades[p] with receiver := .collecting [b] false }) t) ∧
      (bad = true ∨ b.toNat ∉ [5, 7, 9, 11, 13, 15, 17, 19] →
        ∃ t, exec (.gradeLineByteReceived p b bad) s = .next t ∧
          Consequences (s.setGrade p
            { s.grades[p] with receiver := .hunting, malformed := min 255 (s.grades[p].malformed + 1) }) t)) ∧
    (∀ (len : Byte) (rest : List Byte) (f : Bool), s.ports[p].state ≠ .off →
      s.grades[p].receiver = .collecting (len :: rest) f →
      (rest.length + 1 < len.toNat →
        ∃ t, exec (.gradeLineByteReceived p b bad) s = .next t ∧
          Consequences (s.setGrade p
            { s.grades[p] with receiver := .collecting (len :: (rest ++ [b])) (f || bad) }) t) ∧
      (len.toNat ≤ rest.length + 1 →
        exec (.gradeLineByteReceived p b bad) s = exec (.gradeMessage p (len :: (rest ++ [b])) (f || bad)) s)) ∧
    (s.grades[p].receiver = .hunting → exec (.collectingGapTimeout p) s = .next s) ∧
    (∀ (got : List Byte) (f : Bool), s.grades[p].receiver = .collecting got f →
      exec (.collectingGapTimeout p) s = .next (s.setGrade p
        { s.grades[p] with receiver := .hunting, malformed := min 255 (s.grades[p].malformed + 1) })) ∧
    (s.grades[p].timer = none → exec (.gradeTimerExpiry p) s = .next s) ∧
    (∀ left, s.grades[p].timer = some left →
      ∃ t, exec (.gradeTimerExpiry p) s = .next t ∧
        Consequences ((s.elapse left).setGrade p
          { receiver := (s.elapse left).grades[p].receiver, accepted := 0, pendingGrade := none, holdover := false,
            truncated := false, trace := [], timer := none, malformed := (s.elapse left).grades[p].malformed,
            loopFlag := false }) t ∧ EventsOfPorts (s.elapse left) t)

/-- A message the part can send is the message its own receivers read back (R23, R159, R191, R192); and a complete
message is malformed in exactly the cases of R23, and otherwise carries what its bytes say. -/
def Obligations.SentGradeMessagesAreReadBack : Prop :=
  (∀ m : GradeMsg, m.sendable = true →
    ∃ rest, m.bytes = 0x7E#8 :: rest ∧ completeGradeBytes rest = true ∧ GradeMsg.ofBytes rest false = some m) ∧
  (∀ (bytes rest : List Byte) (len flags count : Byte) (bad : Bool), bytes = len :: flags :: count :: rest →
    completeGradeBytes bytes = true →
    (GradeMsg.ofBytes bytes bad = none ↔
      bad = true ∨ bytes.getLast? ≠ some (crc8 bytes.dropLast) ∨ len.toNat ≠ 3 + 2 * count.toNat ∨ count = 0 ∨
        8 < count.toNat ∨ flags.toNat / 16 = 13 ∨ flags.toNat / 16 = 14 ∨
        ∃ k < count.toNat, ∃ hi lo, rest[2 * k]? = some hi ∧ rest[2 * k + 1]? = some lo ∧
          (hi = 0x00#8 ∧ lo = 0x00#8 ∨ hi = 0xFF#8 ∧ lo = 0xFF#8)) ∧
    (∀ m, GradeMsg.ofBytes bytes bad = some m →
      m.grade = flags.toNat / 16 ∧ m.holdover = flags.getLsbD 3 ∧ m.truncated = flags.getLsbD 2 ∧
        m.trace.length = count.toNat ∧ m.trace.flatMap nodeIdBytes = rest.dropLast))

/-! ## Ranking and shelves -/

/-- What the engine hands a shelf: the effective grade (R61), eligibility and admissibility (R62, R63), the verdicts
(R64), and the eligible list, which holds exactly the eligible ports, each with its fields, in the strict order of
R65, and with the ineligible ports makes up the domain (R60, R73). -/
def Obligations.EligibleListIsCompleteAndInOrder : Prop :=
  (∀ (sh : ShelfId) (d : DomainId) (s : State), s.listsSound → s.shelfDomain sh = some d →
    (∀ p : PortId, (∃ e ∈ s.eligibleList sh, e.port = p) ↔ s.eligible sh p = true) ∧
    (s.eligibleList sh).Pairwise (fun a b =>
      a.grade < b.grade ∨ (a.grade = b.grade ∧ a.holdover = false ∧ b.holdover = true) ∨
        (a.grade = b.grade ∧ a.holdover = b.holdover ∧ a.position < b.position)) ∧
    (s.eligibleList sh).length + ((s.verdicts sh).filter fun v => v.first.isSome).length = (s.portsOf d).length) ∧
  (∀ (d : DomainId) (p : PortId) (s : State),
    s.effectiveGrade d p =
      if s.grades[p].accepted = 0 then s.domains[d].assume.getD 0 else s.grades[p].accepted) ∧
  (∀ (sh : ShelfId) (d : DomainId) (s : State), s.shelfDomain sh = some d →
    (∀ p : PortId,
      (s.eligible sh p = true ↔ s.portDomain p = some d ∧ s.ports[p].state = .up ∧ s.suits sh d p) ∧
      (s.admissible sh p = true ↔ s.portDomain p = some d ∧ s.suits sh d p)) ∧
    s.verdicts sh = ((List.finRange 24).filter fun p => s.portDomain p == some d).map (fun p =>
      { port := p, first := firstFailing (s.checks sh d p),
        second := if s.ports[p].state = .up then none else firstFailing ((s.checks sh d p).drop 4) }) ∧
    (∀ e ∈ s.eligibleList sh,
      e.grade = s.effectiveGrade d e.port ∧
      e.assumed = (s.grades[e.port].accepted == 0 && s.domains[d].assume.isSome) ∧
      e.holdover = s.grades[e.port].holdover ∧ 0 < e.position ∧ s.lists[d][e.position - 1]? = some e.port) ∧
    s.best sh = (s.eligibleList sh).head?.map (·.port)) ∧
  (∀ (sh : ShelfId) (s : State), s.shelfDomain sh = none →
    s.eligibleList sh = [] ∧ s.verdicts sh = [] ∧
      ∀ p : PortId, s.eligible sh p = false ∧ s.admissible sh p = false)

/-- A LOCKED shelf under AUTO whose reference is no longer eligible bridges it or reselects (R97, R84, R85). A command
that changes ranking inputs makes exactly the shelves it hands something new act (R68), each as its steering and state
call for: AUTO (R88 to R90, R93 to R100), STEER (R126, R127), PIN (R126, R130, R131, section 7.5 with R133), with the
switch rule of R95 and the times of R91, R97 and R110 and the events of R78; with the queue and unit that the pool rules
give it (R80 to R83), and every other shelf as it was but for one that is lent a unit (`Undisturbed`). That a QUEUED shelf follows its choice with
its cause kept (notes/assumptions/15.md), that a returning bridge applies the switch rule at once (14.md), that a later
ranking rewrites a pending target's cause (39.md), that a HELD shelf whose pin is cleared raises STEER_LOST (27.md), that
AUTO and STEER act on the level (16.md, 19.md), and what takes the reference of a pinned shelf away (38.md, 41.md) are the
model's readings. -/
def Obligations.LostReferenceIsBridgedOrReselected : Prop :=
  (∀ (sh : ShelfId) (c : PortId) (pend : Option (PortId × Cause)) (s t : State),
    s.shelves[sh].steering = .auto → s.shelves[sh].state = .locked c pend → s.eligible sh c = false →
    t = s.act sh Ctx.ranking →
    t.shelves[sh].changed = true ∧ t.shelves[sh].learned = s.shelves[sh].learned ∧
    (s.admissible sh c = true → s.shelfHoldOff sh ≠ 0 →
      t.shelves[sh].state = .bridge c (s.shelfHoldOff sh) ∧ t.shelves[sh].lastCause = some .lost ∧ sh ∉ t.queue) ∧
    (s.admissible sh c = false ∨ s.shelfHoldOff sh = 0 →
      (s.admissible sh c = true → t.shelves[sh].lastCause = some .lost) ∧
      (s.admissible sh c = false → s.sameDomain sh c = false → t.shelves[sh].lastCause = some .partition) ∧
      (s.admissible sh c = false → s.sameDomain sh c = true → s.ports[c].state = .up →
        t.shelves[sh].lastCause = some .ineligible) ∧
      (s.admissible sh c = false → s.sameDomain sh c = true → s.ports[c].state ≠ .up →
        t.shelves[sh].lastCause = some .lost) ∧
      (∀ b, s.best sh = some b →
        t.shelves[sh].state = .queued b ∨ t.shelves[sh].state = .acquire b (s.settleMs sh)) ∧
      (s.best sh = none → s.holdoverValid sh = true →
        t.shelves[sh].state = .holdover (s.limitMs sh) ∧ sh ∉ t.queue) ∧
      (s.best sh = none → s.holdoverValid sh = false → t.shelves[sh].state = .freerun ∧ sh ∉ t.queue))) ∧
  (∀ (i : Instr) (x : Ctx) (s : State), rerankedBy i = some x →
    (∀ cp r, i.request? = some (cp, r) → s.ready cp = true) →
    ∃ t, exec i s = .next t ∧ ActsOnChange (s.elapse (t.now - s.now)) t x) ∧
  (∀ (sh : ShelfId) (c : PortId) (u v : State), v.shelves[sh].state.reference? = some c →
    (State.ceased u v sh = true ↔ (u.eligible sh c = true ∧ v.eligible sh c = false ∧ v.barred sh c = false) ∨
      (u.sameDomain sh c = true ∧ v.sameDomain sh c = false) ∨
      (u.ports[c].activity = true ∧ v.ports[c].activity = false))) ∧
  (∀ (sh : ShelfId) (x : Ctx) (s t : State), x.forced = none → t = s.act sh x →
    EventsOfMoves s t ∧ (∀ other : ShelfId, other ≠ sh → Undisturbed s t other) ∧
    t.shelves[sh].learned = s.shelves[sh].learned ∧
    (t.shelves[sh].steering = s.shelves[sh].steering ∨ LosesSteering s t sh) ∧
    (s.poolSound → t.poolSound ∧
      PoolFollows (if s.shelves[sh].steering ≠ .auto ∧ t.shelves[sh].steering = .auto then s.unsteered sh else s) t sh) ∧
    (s.shelves[sh].steering = .auto → ActsUnderAuto s t sh x.strict) ∧
    (∀ p, s.shelves[sh].steering = .steer p → ActsUnderSteer s t sh p) ∧
    (∀ p, s.shelves[sh].steering = .pin p → ActsUnderPin s t sh p x.ceased)) ∧
  (∀ (sh : ShelfId) (d : DomainId) (s : State), s.shelfDomain sh = some d →
    s.settleMs sh = s.domains[d].settleTime * 1000 ∧ s.shelfHoldOff sh = s.domains[d].holdOff ∧
    s.limitMs sh = s.domains[d].limit.map (fun minutes => minutes * 60000) ∧
    (∀ p, s.failCause sh p = if s.portDomain p ≠ some d then .partition
      else if s.ports[p].state = .up then .ineligible else .lost) ∧
    (∀ (c : PortId) (b e : Entry), (s.eligibleList sh).head? = some b →
      (s.eligibleList sh).find? (fun e => e.port == c) = some e →
      s.switchWanted sh c =
        if b.port = c then none
        else if b.grade < e.grade ∨ (b.grade = e.grade ∧ b.holdover = false ∧ e.holdover = true) then
          some (b.port, .better)
        else if s.domains[d].revertive = true ∧ b.grade = e.grade ∧ b.holdover = e.holdover ∧
            b.position < e.position then some (b.port, .revert)
        else none))

/-- HOLD_OFF_EXPIRY (R100, R84, R127, R130), with the events of R78, the pool rules (R80 to R83) and the other shelves. -/
def Obligations.HoldOffExpiryReselectsWithCauseLost : Prop :=
  ∀ (sh : ShelfId) (s u : State), s.inReset = false →
    ((∀ c left, s.shelves[sh].state ≠ .bridge c left) → exec (.holdOffExpiry sh) s = .next s) ∧
    (∀ c left, s.shelves[sh].state = .bridge c left → u = s.elapse left →
      ∃ t, exec (.holdOffExpiry sh) s = .next t ∧ Consequences u t ∧ EventsOfMoves u t ∧
        (∀ other : ShelfId, other ≠ sh → Undisturbed u t other) ∧ (u.poolSound → PoolFollows u t sh) ∧
        t.shelves[sh].lastCause = some .lost ∧ t.shelves[sh].changed = true ∧
        t.shelves[sh].learned = u.shelves[sh].learned ∧
        (∀ p, s.shelves[sh].steering = .steer p → t.shelves[sh].steering = .auto ∧
          (∀ d, u.shelfDomain sh = some d → u.masked d .steerLost = false → t.latched d .steerLost = true)) ∧
        ((∀ p, s.shelves[sh].steering ≠ .steer p) → t.shelves[sh].steering = s.shelves[sh].steering) ∧
        (∀ b, (∀ p, s.shelves[sh].steering ≠ .steer p) → u.choice sh = some b →
          t.shelves[sh].state = .queued b ∨ t.shelves[sh].state = .acquire b (u.settleMs sh)) ∧
        (∀ p b, s.shelves[sh].steering = .steer p → u.best sh = some b →
          t.shelves[sh].state = .queued b ∨ t.shelves[sh].state = .acquire b (u.settleMs sh)) ∧
        ((u.choice sh = none ∨ (∃ p, s.shelves[sh].steering = .steer p) ∧ u.best sh = none) →
          t.shelves[sh].state = if u.holdoverValid sh = true then .holdover (u.limitMs sh) else .freerun))

/-- SETTLE_COMPLETE (R92): with no switch wanted the shelf stands LOCKED to its target; where the switch rule wants one
(R95) it waits for it LOCKED, or has been lent a unit toward it at once. Its unit goes to the head of the queue (R82, R83),
and every other shelf is as it was. -/
def Obligations.SettleCompletionLocksAndFreesTheUnit : Prop :=
  ∀ (sh : ShelfId) (s u : State), s.inReset = false →
    ((∀ p left, s.shelves[sh].state ≠ .acquire p left) → exec (.settleComplete sh) s = .next s) ∧
    (∀ p left, s.shelves[sh].state = .acquire p left → u = s.elapse left →
      ∃ t, exec (.settleComplete sh) s = .next t ∧ Consequences u t ∧ t.shelves[sh].learned = 0 ∧
        (∀ other : ShelfId, other ≠ sh → Undisturbed u t other) ∧ (u.poolSound → PoolFollows u t sh) ∧
        t.shelves[sh].changed = true ∧
        (∀ d, u.shelfDomain sh = some d → u.masked d .lock = false → t.latched d .lock = true) ∧
        ((s.shelves[sh].steering = .auto ∧ u.eligible sh p = true ∧ u.switchWanted sh p = none) ∨
            (s.shelves[sh].steering = .steer p ∧ u.eligible sh p = true) ∨
            (s.shelves[sh].steering = .pin p ∧ u.sameDomain sh p = true ∧ u.ports[p].state ≠ .off ∧
              u.ports[p].activity = true) →
          t.shelves[sh].state = .locked p none ∧ t.shelves[sh].lastCause = s.shelves[sh].lastCause ∧
          t.shelves[sh].steering = s.shelves[sh].steering ∧ (∀ v : UnitId, t.units[v] ≠ some sh) ∧ EventsOfMoves u t) ∧
        (∀ b cause, s.shelves[sh].steering = .auto → u.eligible sh p = true →
            u.switchWanted sh p = some (b, cause) →
          t.shelves[sh].steering = .auto ∧
          ((t.shelves[sh].state = .locked p (some (b, cause)) ∧ t.shelves[sh].lastCause = s.shelves[sh].lastCause ∧
              sh ∈ t.queue ∧ (∀ v : UnitId, t.units[v] ≠ some sh) ∧ EventsOfMoves u t) ∨
            (t.shelves[sh].state = .acquire b (u.settleMs sh) ∧ t.shelves[sh].lastCause = some cause ∧
              Raised u t sh .switch))))

/-- HOLDOVER_LIMIT_EXPIRY and LEARN_TIME_REACHED (R105, R106, R110, R111); no other shelf moves. -/
def Obligations.HoldoverLimitAndLearnTimeEnd : Prop :=
  ∀ (sh : ShelfId) (s : State), s.inReset = false →
    ((∀ left, s.shelves[sh].state ≠ .holdover (some left)) → exec (.holdoverLimitExpiry sh) s = .next s) ∧
    (∀ left, s.shelves[sh].state = .holdover (some left) →
      ∃ t, exec (.holdoverLimitExpiry sh) s = .next t ∧ Consequences (s.elapse left) t ∧
        (∀ other : ShelfId, other ≠ sh → ShelfKept (s.elapse left) t other) ∧
        t.shelves[sh].state = .freerun ∧ t.shelves[sh].learned = 0 ∧ t.shelves[sh].lastCause = some .expiry ∧
        t.shelves[sh].changed = true ∧ t.shelves[sh].steering = s.shelves[sh].steering ∧
        t.units = s.units ∧ t.queue = s.queue ∧
        (∀ d, s.shelfDomain sh = some d → s.masked d .expired = false → t.latched d .expired = true) ∧
        (∀ d, s.shelfDomain sh = some d → s.masked d .freerun = false → t.latched d .freerun = true) ∧
        (∀ d k, t.latched d k = true →
          s.latched d k = true ∨ s.shelfDomain sh = some d ∧ (k = .expired ∨ k = .freerun))) ∧
    (∀ d c pend, s.shelves[sh].state = .locked c pend → s.osc.latch = false → s.shelfDomain sh = some d →
      s.domains[d].learnTime ≤ 3600 → s.shelves[sh].learned < s.domains[d].learnTime * 1000 →
      ∃ t, exec (.learnTimeReached sh) s = .next t ∧
        Consequences (s.elapse (s.domains[d].learnTime * 1000 - s.shelves[sh].learned)) t ∧
        ShelvesKept (s.elapse (s.domains[d].learnTime * 1000 - s.shelves[sh].learned)) t ∧
        t.shelves[sh].valid = true ∧ t.shelves[sh].learned = s.domains[d].learnTime * 1000 ∧
        t.shelves[sh].state = .locked c pend)

/-! ## The Oscillator Monitor -/

/-- GUARD_ABSENT and GUARD_PRESENT (R112, R113, R118, R183). -/
def Obligations.GuardAbsenceEndsWindowAndCheck : Prop :=
  ∀ (s u : State), s.inReset = false → u = s.elapse (s.osc.guardSince + 10 - s.now) →
    (s.osc.guardPresent = false →
      exec .guardAbsent s = .next s ∧
      exec .guardPresent s = .next { u with osc :=
        { u.osc with guardPresent := true, guardSince := u.now, bgWindow := some 0 } }) ∧
    (s.osc.guardPresent = true →
      exec .guardPresent s = .next s ∧
      ∃ t, exec .guardAbsent s = .next t ∧ ShelvesKept u t ∧ t.osc.guardPresent = false ∧ t.osc.bgWindow = none ∧
        t.osc.latch = u.osc.latch ∧ t.osc.lastBackground = u.osc.lastBackground ∧
        (s.osc.check = none → Consequences { u with osc :=
          { u.osc with guardPresent := false, guardSince := u.now, bgWindow := none } } t) ∧
        (s.osc.check ≠ none →
          t.osc.check = none ∧ t.osc.lastOutcome = some .inconclusive ∧ t.osc.lastCheckDiff = none ∧
          (u.partMasked .checkDone = false → t.partLatched .checkDone = true) ∧
          (s.phase = .init → t.phase = .held ∧ (u.partMasked .phase = false → t.partLatched .phase = true)) ∧
          (s.phase ≠ .init → t.phase = s.phase ∧ t.ports = u.ports) ∧
          t.osc = { u.osc with guardPresent := false, guardSince := u.now, bgWindow := none, check := none,
                               lastOutcome := some .inconclusive, lastCheckDiff := none } ∧
          t.partEvents = (if s.phase = .init then (u.partEvents.raise .checkDone).raise .phase
            else u.partEvents.raise .checkDone) ∧
          Consequences { u with osc := t.osc, phase := t.phase, ports := t.ports, partEvents := t.partEvents } t ∧
          (s.phase = .init → ∀ p : PortId, t.ports[p] = { u.ports[p] with
            window := if u.ports[p].setup.enabled = true ∧ u.ports[p].activity = true ∧ u.osc.latch = false then
              some (u.ports[p].window.getD 0) else none })))

/-- BACKGROUND_WINDOW_COMPLETE (R113, R114, R115, R14). -/
def Obligations.FailingBackgroundWindowSetsTheLatch : Prop :=
  ∀ (m : Int) (s u : State), s.inReset = false →
    (s.osc.bgWindow = none → exec (.backgroundWindowComplete m) s = .next s) ∧
    (∀ e, s.osc.bgWindow = some e → u = s.elapse (16000 - e) →
      ∃ t, exec (.backgroundWindowComplete m) s = .next t ∧ t.osc.bgWindow = some 0 ∧
        t.osc.lastBackground = some (roundOffset m) ∧ t.osc.check = u.osc.check ∧
        (|roundOffset m| ≤ 2000 ∨ u.osc.latch = true → ShelvesKept u t) ∧
        (|roundOffset m| ≤ 2000 → Consequences { u with osc :=
          { u.osc with bgWindow := some 0, lastBackground := some (roundOffset m) } } t) ∧
        (2000 < |roundOffset m| → t.osc.latch = true ∧ t.osc.source = some .window ∧
          (u.osc.latch = true → t.ports = u.ports ∧ t.partEvents = u.partEvents ∧
            Consequences { u with osc := { u.osc with bgWindow := some 0, lastBackground := some (roundOffset m),
                                                      source := some .window } } t) ∧
          (u.osc.latch = false →
            t.partEvents = u.partEvents.raise .oscFault ∧
            Consequences { u with
              osc := { u.osc with bgWindow := some 0, lastBackground := some (roundOffset m), latch := true,
                                  source := some .window },
              ports := t.ports, partEvents := t.partEvents } t ∧
            LatchTakesEffect u t ∧
            (∀ sh : ShelfId, t.shelves[sh].learned = 0 ∧ t.shelves[sh].valid = false ∧
              t.shelves[sh].state.isHoldover = false) ∧
            (∀ p : PortId, t.ports[p].window = none ∧ t.ports[p].outRun = 0 ∧ t.ports[p].inRun = 0 ∧
              t.ports[p].state ≠ .suspect ∧ t.ports[p].faulted = u.ports[p].faulted ∧
              (u.ports[p].state ≠ .suspect → t.ports[p].state = u.ports[p].state ∧
                t.ports[p].restoreLeft = u.ports[p].restoreLeft)))))

/-- CHECK_COMPLETE (R118, R114, R115, R116, R183, with the release of R87). A port gains its window at 0 (R4); `getD`
speaks of a window that runs already. -/
def Obligations.CheckOutcomeDecidesLatchAndPhase : Prop :=
  ∀ (m : Int) (s u : State), s.inReset = false →
    (s.osc.check = none → exec (.checkComplete m) s = .next s) ∧
    (∀ left, s.osc.check = some left → u = s.elapse left →
      ∃ t, exec (.checkComplete m) s = .next t ∧ t.osc.check = none ∧
        t.osc.lastCheckDiff = some (roundOffset m) ∧
        (u.partMasked .checkDone = false → t.partLatched .checkDone = true) ∧
        (|roundOffset m| ≤ 2000 → t.osc.lastOutcome = some .pass ∧ t.osc.latch = false ∧
          t.osc.source = u.osc.source) ∧
        (2000 < |roundOffset m| → t.osc.lastOutcome = some .fail ∧ t.osc.latch = true ∧
          t.osc.source = some .check) ∧
        (u.phase ≠ .init → t.phase = u.phase) ∧
        (u.phase = .init →
          t.phase = (if |roundOffset m| ≤ 2000 ∧ u.straps.holdMode = false then .running else .held) ∧
          (u.partMasked .phase = false → t.partLatched .phase = true)) ∧
        t.osc = { u.osc with
          check := none, lastCheckDiff := some (roundOffset m),
          lastOutcome := some (if |roundOffset m| ≤ 2000 then .pass else .fail),
          latch := decide (2000 < |roundOffset m|),
          source := if |roundOffset m| ≤ 2000 then u.osc.source else some .check } ∧
        Consequences { u with osc := t.osc, phase := t.phase, ports := t.ports, partEvents := t.partEvents } t ∧
        t.partEvents.mask = u.partEvents.mask ∧
        t.partEvents.latched = (u.partEvents.latched ||| (~~~u.partEvents.mask &&&
          (PartEvent.checkDone.bit ||| ((if u.phase = .init then PartEvent.phase.bit else 0) |||
            (if 2000 < |roundOffset m| ∧ u.osc.latch = false then PartEvent.oscFault.bit else 0))))) ∧
        (|roundOffset m| ≤ 2000 ∨ u.osc.latch = true → ∀ p : PortId, t.ports[p] = { u.ports[p] with
          window := if u.phase = .init ∨ u.osc.latch ≠ t.osc.latch then
              (if u.ports[p].setup.enabled = true ∧ u.ports[p].activity = true ∧ t.osc.latch = false then
                some (if u.phase = .init ∧ u.osc.latch = true then 0 else u.ports[p].window.getD 0) else none)
            else u.ports[p].window }) ∧
        (2000 < |roundOffset m| → u.osc.latch = false → LatchTakesEffect u t) ∧
        (|roundOffset m| ≤ 2000 ∨ u.osc.latch = true → u.phase ≠ .init ∨ t.phase = .held → ShelvesKept u t) ∧
        (|roundOffset m| ≤ 2000 → u.straps.holdMode = false → u.phase = .init → u.phaseSound → u.queue = [] →
          (∀ v : UnitId, u.units[v] = none) → Releases u t))

/-- OSCILLATOR CHECK and OSCILLATOR REPORT (R119, R118, R120). The byte of guard presence, 1 present and 0 absent, is
the model's choice (notes/assumptions/23.md). -/
def Obligations.OscillatorRequestsStartAndReportChecks : Prop :=
  ∀ (cp : ControlPort) (s : State),
    (s.readyActive cp = true → s.osc.check ≠ none →
      exec (.oscillatorCheck cp) s = .next (s.answered cp .busy [])) ∧
    (s.readyActive cp = true → s.osc.check = none → s.osc.guardPresent = true →
      ∃ t, exec (.oscillatorCheck cp) s = .next t ∧ Answers s t cp .ok [] ∧ ShelvesKept s t ∧
        RequestConsequences { s with osc := { s.osc with check := some 4000 } } t) ∧
    (s.readyActive cp = true → s.osc.check = none → s.osc.guardPresent = false →
      ∃ t, exec (.oscillatorCheck cp) s = .next t ∧ Answers s t cp .ok [] ∧ ShelvesKept s t ∧
        RequestConsequences { s with
          osc := { s.osc with lastOutcome := some .inconclusive, lastCheckDiff := none },
          partEvents := s.partEvents.raise .checkDone } t) ∧
    (s.ready cp = true → s.phase ≠ .init →
      exec (.oscillatorReport cp) s = .next (s.answered cp .ok
        ([flagByte s.osc.latch, sourceCode s.osc.source, flagByte s.osc.guardPresent,
          flagByte s.osc.bgWindow.isSome] ++ timeCode (s.osc.bgWindow.map (· / 1000)) ++
          offsetCode s.osc.lastBackground ++ [flagByte s.osc.check.isSome] ++ timeCode s.osc.check ++
          [outcomeCode s.osc.lastOutcome] ++ offsetCode s.osc.lastCheckDiff)))

/-! ## Domains and notices -/

/-- ASSIGN PORT and ASSIGN SHELF (R41, R42). -/
def Obligations.AssignmentsEditThePendingPartition : Prop :=
  ∀ (cp : ControlPort) (n v : Nat) (s : State), s.readyActive cp = true →
    (24 ≤ n ∨ (4 ≤ v ∧ v ≠ 0xFF) → exec (.assignPort cp n v) s = .next (s.answered cp .badField [])) ∧
    (48 ≤ n ∨ (4 ≤ v ∧ v ≠ 0xFF) → exec (.assignShelf cp n v) s = .next (s.answered cp .badField [])) ∧
    (∀ (p : PortId) (d : Option DomainId), p.val = n → v = d.elim 0xFF (·.val) →
      (s.pendingPart.ports[p] = d → exec (.assignPort cp n v) s = .next (s.answered cp .noChange [])) ∧
      (s.pendingPart.ports[p] ≠ d → exec (.assignPort cp n v) s = .next (({ s with
        pendingPart := { s.pendingPart with ports := s.pendingPart.ports.set p d } } : State).answered cp .ok []))) ∧
    (∀ (sh : ShelfId) (d : Option DomainId), sh.val = n → v = d.elim 0xFF (·.val) →
      (s.pendingPart.shelves[sh] = d → exec (.assignShelf cp n v) s = .next (s.answered cp .noChange [])) ∧
      (s.pendingPart.shelves[sh] ≠ d → exec (.assignShelf cp n v) s = .next (({ s with
        pendingPart := { s.pendingPart with shelves := s.pendingPart.shelves.set sh d } } : State).answered
          cp .ok [])))

/-- PENDING PARTITION and DISCARD PARTITION (R43, R44). That the 24 and 48 values go without a count byte is the model's
choice (notes/assumptions/23.md). -/
def Obligations.PendingPartitionIsReportedAndDiscarded : Prop :=
  ∀ (cp : ControlPort) (s : State),
    (s.ready cp = true → s.phase ≠ .init →
      exec (.pendingPartition cp) s = .next (s.answered cp .ok
        (s.pendingPart.ports.toList.map domainCode ++ s.pendingPart.shelves.toList.map domainCode ++
          [byte ((List.finRange 24).filter fun p => s.pendingPart.ports[p] != s.current.ports[p]).length,
           byte ((List.finRange 48).filter fun sh => s.pendingPart.shelves[sh] != s.current.shelves[sh]).length]))) ∧
    (s.readyActive cp = true → s.pendingPart = s.current →
      exec (.discardPartition cp) s = .next (s.answered cp .noChange [])) ∧
    (s.readyActive cp = true → s.pendingPart ≠ s.current →
      exec (.discardPartition cp) s = .next (({ s with pendingPart := s.current } : State).answered cp .ok []))

/-- APPLY PARTITION (R45, R46, R47, R48), and what the shelves it does not reach keep (R68): their record but for a grant
(R82, R96), the judgement of R109 and the validity. The shelves reached take their turns in some order, and after them
nothing is left of the change but the judgement of R109, validity and nominees, with their events (`JudgedAfterTurns`). In
its turn a shelf that stays, and its steering port with it, acts on its ranking as its steering and state call for (R48,
`ActsUnderAuto`, `ActsUnderSteer`, `ActsUnderPin`). Each turn leaves the other shelves undisturbed and the pool sound; and
in a state where pool, lists and shelves stand as they do in every run (EveryStepKeepsThePoolSound,
EveryStepKeepsListsSound, EveryStepKeepsShelvesWhereTheirRankingsCall), whichever shelves had their turn `before`, exactly
the events of its moves are raised in it (R78), and units and queue move as the pool rules say (R80 to R83). The cause of a move after lost steering
(notes/assumptions/18.md), that re-ranking comes before R109 (17.md), and that a shelf LOCKED with a pending target that
loses its steering and its reference together gives up its place in the queue where it stays in its domain, and keeps it
where it changes its domain (44.md), are the model's readings. -/
def Obligations.ApplyPartitionMakesThePendingPartitionCurrent : Prop :=
  ∀ (cp : ControlPort) (s : State), s.readyActive cp = true →
    (s.pendingPart = s.current → exec (.applyPartition cp) s = .next (s.answered cp .noChange [])) ∧
    (s.pendingPart ≠ s.current →
      ∃ t, exec (.applyPartition cp) s = .next t ∧
        Answers s t cp .ok
          [byte ((List.finRange 24).filter fun p => s.pendingPart.ports[p] != s.current.ports[p]).length,
           byte ((List.finRange 48).filter fun sh => s.pendingPart.shelves[sh] != s.current.shelves[sh]).length] ∧
        RequestConsequences { s with current := s.pendingPart, lists := t.lists,
                                     partEvents := s.partEvents.raise .applied } t ∧
        (∀ d : DomainId, t.lists[d] = s.lists[d].filter fun p => s.pendingPart.ports[p] == some d) ∧
        (∀ sh : ShelfId, s.shelfDomain sh ≠ s.pendingPart.shelves[sh] →
          t.shelves[sh].steering = .auto ∧
          (s.shelves[sh].steering ≠ .auto → ∀ d, s.pendingPart.shelves[sh] = some d → s.masked d .steerLost = false →
            t.latched d .steerLost = true)) ∧
        (∀ sh : ShelfId, s.shelfDomain sh ≠ none → s.pendingPart.shelves[sh] = none →
          s.shelves[sh].state.isHeld = false →
          t.shelves[sh].state = .parked ∧ t.shelves[sh].lastCause = some .partition ∧ t.shelves[sh].changed = true ∧
          t.shelves[sh].learned = 0 ∧ sh ∉ t.queue) ∧
        (∀ sh : ShelfId, s.shelves[sh].state.isHeld = true → t.shelves[sh].state.isHeld = true ∧ MarksKept s t sh) ∧
        (∀ sh : ShelfId, s.shelves[sh].state.isHeld = true ∨ s.shelfDomain sh = none ∨
          s.pendingPart.shelves[sh] ≠ none → t.shelves[sh].learned = s.shelves[sh].learned) ∧
        (∀ v : State, v = { s with current := s.pendingPart, lists := t.lists } →
          ∀ sh : ShelfId, s.shelves[sh].state.isHeld = false → v.shelfDomain sh ≠ none →
          (s.shelfDomain sh = none → Reselects v t sh (v.best sh) .assigned) ∧
          (s.shelfDomain sh ≠ none → s.shelfDomain sh ≠ v.shelfDomain sh →
            ((s.shelves[sh].state.target?.isSome = true ∨ s.shelves[sh].state.reference?.isSome = true) →
              Reselects v t sh (v.best sh) .partition) ∧
            (s.shelves[sh].state.isHoldover = true ∨ s.shelves[sh].state.isFreerun = true →
              (∀ b, v.best sh = some b → GoesToward v t sh b .better) ∧
              (v.best sh = none → Judged v t sh))) ∧
          (∀ q : PortId, s.shelfDomain sh = v.shelfDomain sh → s.sameDomain sh q = true →
            v.sameDomain sh q = false →
            (s.shelves[sh].steering = .steer q ∨ s.shelves[sh].steering = .pin q →
              t.shelves[sh].steering = .auto ∧
              ∀ d, v.shelfDomain sh = some d → s.masked d .steerLost = false → t.latched d .steerLost = true) ∧
            (s.shelves[sh].steering = .auto ∨ s.shelves[sh].steering = .steer q ∨
                s.shelves[sh].steering = .pin q →
              s.shelves[sh].state.pending? = none →
              s.shelves[sh].state.target? = some q ∨ s.shelves[sh].state.reference? = some q →
              Reselects v t sh (v.best sh) .partition) ∧
            (s.shelves[sh].steering = .steer q ∨ s.shelves[sh].steering = .pin q →
              (s.shelves[sh].state.isHoldover = true ∨ s.shelves[sh].state.isFreerun = true →
                (∀ b, v.best sh = some b → GoesToward v t sh b .partition) ∧ (v.best sh = none → Judged v t sh)) ∧
              (∀ c cause, s.shelves[sh].state = .locked c (some (q, cause)) →
                Reselects v t sh (v.best sh) .partition ∨
                  (v.eligible sh c = true ∧ AppliesSwitchRule v t sh c) ∨
                  (v.eligible sh c = false ∧ v.admissible sh c = true ∧ v.shelfHoldOff sh ≠ 0 ∧
                    Bridges v t sh c .partition))) ∧
            (∀ b cause, s.shelves[sh].state = .locked q (some (b, cause)) →
              (s.shelves[sh].steering = .auto → v.eligible sh b = true ∨ v.sameDomain sh b = false →
                Reselects v t sh (v.best sh) .partition ∨ v.eligible sh b = true ∧ Granted v t sh b (some cause)) ∧
              (s.shelves[sh].steering = .steer b ∨ s.shelves[sh].steering = .pin b → v.sameDomain sh b = false →
                Reselects v t sh (v.best sh) .partition) ∧
              (s.shelves[sh].steering = .steer b ∧ v.eligible sh b = true ∨
                  s.shelves[sh].steering = .pin b ∧ v.sameDomain sh b = true ∧ v.ports[b].activity = true ∧
                    v.ports[b].state ≠ .off →
                t.shelves[sh].steering = s.shelves[sh].steering ∧
                  (GoesToward v t sh b .partition ∨ Granted v t sh b (some cause)))))) ∧
        (∃ (order : List ShelfId) (v w : State), RequestConsequences v t ∧ v.shelves = s.shelves ∧ v.units = s.units ∧
          v.queue = s.queue ∧ v.domainEvents = s.domainEvents ∧
          order.Perm ((List.finRange 48).filter fun sh =>
            s.shelfDomain sh != v.shelfDomain sh || s.handed sh != v.handed sh) ∧
          w = order.foldl (State.applyToShelf s) v ∧ t.units = w.units ∧ t.queue = w.queue ∧ EventsOfMoves w t ∧
          ∀ sh : ShelfId, JudgedAfterTurns w t sh) ∧
        (s.poolSound → s.listsSound → s.shelvesSettled →
          ∀ (sh : ShelfId) (before : List ShelfId) (u v w : State), sh ∉ before →
          u.current = s.pendingPart → u.lists = t.lists → u.shelves = s.shelves → u.units = s.units →
          u.queue = s.queue → v = before.foldl (State.applyToShelf s) u → w = State.applyToShelf s v sh →
          EventsOfMoves v w ∧
            PoolFollows (if s.shelfDomain sh = v.shelfDomain sh ∧ v.shelves[sh].steering ≠ .auto ∧
              w.shelves[sh].steering = .auto then v.unsteered sh else v) w sh) ∧
        (∀ v : State, v = { s with current := s.pendingPart, lists := t.lists } →
          ∀ sh : ShelfId, v.shelfDomain sh = s.shelfDomain sh → v.handed sh = s.handed sh →
          s.shelves[sh].state.isHeld = false →
          Spared v t sh)) ∧
    (∀ (sh : ShelfId) (v w : State), w = State.applyToShelf s v sh →
      (∀ other : ShelfId, other ≠ sh → Undisturbed v w other) ∧ (v.poolSound → w.poolSound) ∧
      (s.shelfDomain sh = v.shelfDomain sh →
        (v.shelves[sh].steering = .auto → ActsUnderAuto v w sh true) ∧
        (∀ p, v.shelves[sh].steering = .steer p → v.sameDomain sh p = true → ActsUnderSteer v w sh p) ∧
        (∀ p, v.shelves[sh].steering = .pin p → v.sameDomain sh p = true →
          ActsUnderPin v w sh p (State.ceased s v sh))))

/-- DOMAIN SETUP and DOMAIN REPORT (R49, R50, R53, R109). That shelves act on their rankings before R109 is judged is
the model's reading (notes/assumptions/17.md). -/
def Obligations.DomainSetupReplacesTheRecord : Prop :=
  ∀ (cp : ControlPort) (n : Nat) (b : DomainSetupBody) (s : State),
    (domainRecordOf b = none ↔
      b.minGrade = 0 ∨ 12 < b.minGrade ∨ 2 ≤ b.ungraded ∨ (b.ungraded = 1 ∧ (b.assumed = 0 ∨ 12 < b.assumed)) ∨
        2 ≤ b.revertive ∨ 10000 < b.holdOff ∨ b.holdOff % 100 ≠ 0 ∨ 720 < b.restoreTime ∨ b.maxHops = 0 ∨
        8 < b.maxHops ∨ 2 ≤ b.truncatedTrace ∨ b.settleTime = 0 ∨ 60 < b.settleTime ∨ b.learnTime < 60 ∨
        3600 < b.learnTime ∨ 1440 < b.limit ∨ b.holdoverGrade = 0 ∨ 12 < b.holdoverGrade ∨ b.freeRunGrade = 0 ∨
        12 < b.freeRunGrade) ∧
    (∀ new, domainRecordOf b = some new →
      new = { minGrade := b.minGrade, assume := if b.ungraded = 1 then some b.assumed else none,
              revertive := b.revertive == 1, holdOff := b.holdOff, restoreTime := b.restoreTime,
              maxHops := b.maxHops, truncatedPolicy := if b.truncatedTrace = 1 then .exclude else .accept,
              settleTime := b.settleTime, learnTime := b.learnTime,
              limit := if b.limit = 0 then none else some b.limit, holdoverGrade := b.holdoverGrade,
              freeRunGrade := b.freeRunGrade }) ∧
    (s.readyActive cp = true → 4 ≤ n ∨ domainRecordOf b = none →
      exec (.domainSetup cp n b) s = .next (s.answered cp .badField [])) ∧
    (∀ (d : DomainId) (new : Domain), s.readyActive cp = true → d.val = n → domainRecordOf b = some new →
      new = s.domains[d] → exec (.domainSetup cp n b) s = .next (s.answered cp .noChange [])) ∧
    (∀ (d : DomainId) (new : Domain), s.readyActive cp = true → d.val = n → domainRecordOf b = some new →
      new ≠ s.domains[d] →
      ∃ t, exec (.domainSetup cp n b) s = .next t ∧ Answers s t cp .ok [] ∧
        RequestConsequences { s with domains := s.domains.set d new } t ∧
        (∀ sh : ShelfId, t.shelves[sh].learned = s.shelves[sh].learned ∧
          (t.shelves[sh].state.isHoldover = true → t.shelves[sh].valid = true) ∧
          (t.shelves[sh].state.isFreerun = true → t.shelves[sh].valid = false)) ∧
        (∃ v w : State, RequestConsequences v t ∧ v.shelves = s.shelves ∧ v.units = s.units ∧ v.queue = s.queue ∧
          v.domainEvents = s.domainEvents ∧ EventsOfMoves w t ∧
          ActInTurn s v w Ctx.failing (fun sh => s.handed sh != v.handed sh ||
            (s.domains[d].revertive != new.revertive && s.shelfDomain sh == some d &&
              s.shelves[sh].steering == .auto && s.shelves[sh].state.isLocked)) ∧
          t.units = w.units ∧ t.queue = w.queue ∧
          ∀ sh : ShelfId, (w.shelves[sh].state.isHeld = true → ShelfKept w t sh) ∧
            (w.shelves[sh].state.isHeld = false →
            t.shelves[sh].lastCause = w.shelves[sh].lastCause ∧ t.shelves[sh].steering = w.shelves[sh].steering ∧
            t.shelves[sh].changed = (w.shelves[sh].changed || t.shelves[sh].state != w.shelves[sh].state) ∧
            t.shelves[sh].state =
              if w.shelves[sh].state.isHoldover = true ∧ v.holdoverValid sh = false then .freerun
              else if w.shelves[sh].state.isFreerun = true ∧ v.holdoverValid sh = true then .holdover (v.limitMs sh)
              else w.shelves[sh].state))) ∧
    (s.ready cp = true → s.phase ≠ .init → 4 ≤ n →
      exec (.domainReport cp n) s = .next (s.answered cp .badField [])) ∧
    (∀ d : DomainId, s.ready cp = true → s.phase ≠ .init → d.val = n →
      exec (.domainReport cp n) s = .next (s.answered cp .ok
        (domainBytes s.domains[d] ++ (byte s.lists[d].length :: s.lists[d].map fun p => byte p.val) ++
          (byte ((List.finRange 24).filter fun p => s.portDomain p == some d).length ::
            (List.finRange 8).map fun i => byte ((List.finRange 48).filter fun sh =>
              s.shelfDomain sh == some d && shelfStateIndex s.shelves[sh].state == i).length))))

/-- PRIORITY LIST (R52). -/
def Obligations.PriorityListIsCheckedAndReplaced : Prop :=
  ∀ (cp : ControlPort) (n : Nat) (ports : List Nat) (s : State), s.readyActive cp = true →
    (4 ≤ n ∨ 24 < ports.length ∨ (∃ q ∈ ports, 24 ≤ q) →
      exec (.priorityList cp n ports) s = .next (s.answered cp .badField [])) ∧
    (∀ (d : DomainId) (list : List PortId), d.val = n → ports = list.map (·.val) → list.length ≤ 24 →
      (¬ list.Nodup → exec (.priorityList cp n ports) s = .next (s.answered cp .conflict [])) ∧
      (list.Nodup → (∃ p ∈ list, s.portDomain p ≠ some d) →
        exec (.priorityList cp n ports) s = .next (s.answered cp .notInDomain [])) ∧
      (list.Nodup → (∀ p ∈ list, s.portDomain p = some d) → list = s.lists[d] →
        exec (.priorityList cp n ports) s = .next (s.answered cp .noChange [])) ∧
      (list.Nodup → (∀ p ∈ list, s.portDomain p = some d) → list ≠ s.lists[d] →
        ∃ t, exec (.priorityList cp n ports) s = .next t ∧ Answers s t cp .ok [] ∧
          RequestConsequences { s with lists := s.lists.set d list } t))

/-- EVENT REPORT and EVENT MASK (R59, R56). -/
def Obligations.EventSetsAreReportedClearedAndMasked : Prop :=
  ∀ (cp : ControlPort) (n : Nat) (s : State), s.ready cp = true → s.phase ≠ .init →
    (5 ≤ n → exec (.eventReport cp n) s = .next (s.answered cp .badField [])) ∧
    (∀ d : DomainId, d.val = n →
      exec (.eventReport cp n) s = .next
        ((if s.active = cp then
            { s with domainEvents := s.domainEvents.set d { s.domainEvents[d] with latched := 0 } } else s).answered
          cp .ok (be16 s.domainEvents[d].latched.toNat ++ be16 s.domainEvents[d].mask.toNat))) ∧
    (n = 4 →
      exec (.eventReport cp n) s = .next
        ((if s.active = cp then { s with partEvents := { s.partEvents with latched := 0 } } else s).answered
          cp .ok (be16 s.partEvents.latched.toNat ++ be16 s.partEvents.mask.toNat))) ∧
    (∀ m : Nat, s.active = cp →
      (5 ≤ n ∨ (n < 4 ∧ 1024 ≤ m) ∨ (n = 4 ∧ 32 ≤ m) →
        exec (.eventMask cp n m) s = .next (s.answered cp .badField [])) ∧
      (∀ (d : DomainId) (mask : BitVec 10), d.val = n → mask.toNat = m →
        (mask = s.domainEvents[d].mask → exec (.eventMask cp n m) s = .next (s.answered cp .noChange [])) ∧
        (mask ≠ s.domainEvents[d].mask → exec (.eventMask cp n m) s = .next (({ s with
          domainEvents := s.domainEvents.set d
            { latched := s.domainEvents[d].latched &&& ~~~mask, mask := mask } } : State).answered cp .ok []))) ∧
      (∀ mask : BitVec 5, n = 4 → mask.toNat = m →
        (mask = s.partEvents.mask → exec (.eventMask cp n m) s = .next (s.answered cp .noChange [])) ∧
        (mask ≠ s.partEvents.mask → exec (.eventMask cp n m) s = .next (({ s with
          partEvents := { latched := s.partEvents.latched &&& ~~~mask, mask := mask } } : State).answered
            cp .ok []))))

/-- LINE SETUP and the level of the notify lines (R57, R58). -/
def Obligations.NotifyLinesFollowTheirSetAndDrive : Prop :=
  ∀ (cp : ControlPort) (n : Nat) (s : State),
    (∀ v : Nat, s.readyActive cp = true → 5 ≤ n ∨ 2 ≤ v →
      exec (.lineSetup cp n v) s = .next (s.answered cp .badField [])) ∧
    (∀ (l : Fin 5) (drive : LineDrive) (v : Nat), s.readyActive cp = true → l.val = n →
      v = (match drive with | .activeLowOpenDrain => 0 | .activeHighPushPull => 1) →
      (s.lineDrives[l] = drive → exec (.lineSetup cp n v) s = .next (s.answered cp .noChange [])) ∧
      (s.lineDrives[l] ≠ drive → exec (.lineSetup cp n v) s = .next
        (({ s with lineDrives := s.lineDrives.set l drive } : State).answered cp .ok []))) ∧
    (s.inReset = false →
      (∀ d : DomainId, s.notifyLine (some d) =
        match s.lineDrives[d.castSucc], decide (s.domainEvents[d].latched = 0) with
        | .activeLowOpenDrain, true => .released
        | .activeLowOpenDrain, false => .drivenLow
        | .activeHighPushPull, true => .drivenLow
        | .activeHighPushPull, false => .drivenHigh) ∧
      (s.notifyLine none =
        match s.lineDrives[(4 : Fin 5)], decide (s.partEvents.latched = 0) with
        | .activeLowOpenDrain, true => .released
        | .activeLowOpenDrain, false => .drivenLow
        | .activeHighPushPull, true => .drivenLow
        | .activeHighPushPull, false => .drivenHigh))

/-! ## Reports of shelves and outputs -/

/-- RANKING REPORT, SHELF REPORT, QUEUE REPORT and OUTPUT REPORT (R72, R102, R104, R162): accepted on either port,
nothing changed; the bodies are laid out as notes/assumptions/23.md says, with free values where R190 gives no code
for an absent field (24.md). -/
def Obligations.ShelfReportsChangeNothing : Prop :=
  ∀ (cp : ControlPort) (n : Nat) (s : State), s.ready cp = true → s.phase ≠ .init →
    (48 ≤ n → exec (.rankingReport cp n) s = .next (s.answered cp .badField []) ∧
      exec (.shelfReport cp n) s = .next (s.answered cp .badField []) ∧
      exec (.outputReport cp n) s = .next (s.answered cp .badField [])) ∧
    (∀ sh : ShelfId, sh.val = n →
      exec (.rankingReport cp n) s = .next (s.answered cp .ok
        ([byte n, domainCode (s.shelfDomain sh)] ++ steeringCodes s.shelves[sh].steering ++
          (byte (s.eligibleList sh).length :: (s.eligibleList sh).flatMap fun e =>
            [byte e.port.val, byte e.grade, flagByte e.assumed, flagByte e.holdover, byte e.position]) ++
          (byte ((s.verdicts sh).filter fun v => v.first.isSome).length ::
            ((s.verdicts sh).filter fun v => v.first.isSome).flatMap fun v =>
              [byte v.port.val, reasonCode v.first, reasonCode v.second]))) ∧
      exec (.shelfReport cp n) s = .next (s.answered cp .ok
        ([byte n, domainCode (s.shelfDomain sh), shelfStateCode s.shelves[sh].state] ++
          steeringCodes s.shelves[sh].steering ++
          [portCode s.shelves[sh].state.reference?, portCode s.shelves[sh].state.target?,
           portCode (s.shelves[sh].state.pending?.map (·.1)), causeCode (s.shelves[sh].state.pending?.map (·.2)),
           (match s.queue.idxOf? sh with | some k => byte (k + 1) | none => 0xFF#8),
           (match (List.finRange 6).find? fun u => s.units[u] == some sh with
            | some u => byte u.val | none => 0xFF#8)] ++
          timeCode (match s.shelves[sh].state with | .bridge _ left => some left | _ => none) ++
          timeCode (match s.shelves[sh].state with | .acquire _ left => some left | _ => none) ++
          be32 (s.shelves[sh].learned / 1000) ++ [flagByte s.shelves[sh].valid] ++
          limitLeftCode (match s.shelves[sh].state with | .holdover left => some left | _ => none) ++
          [portCode s.shelves[sh].state.nominee?, causeCode s.shelves[sh].lastCause,
           flagByte s.shelves[sh].changed])) ∧
      exec (.outputReport cp n) s = .next (s.answered cp .ok
        ([byte n, domainCode (s.shelfDomain sh), shelfStateCode s.shelves[sh].state] ++
          outputSetupBytes s.outputs[sh].active ++
          (match s.outputs[sh].pendingSetup with
            | some p => outputSetupBytes p
            | none => (List.range 5).map Config.unstatedByte) ++
          [driveCode s.outputs[sh].drive, driveReasonCode s.outputs[sh].reason] ++
          trackerCodes s.outputs[sh].tracker ++
          (match s.outputs[sh].outgoing with
            | some m => [byte m.grade, flagByte m.holdover, flagByte m.truncated, byte m.trace.length] ++
                m.trace.flatMap nodeIdBytes
            | none => [Config.unstatedByte 5, Config.unstatedByte 6, Config.unstatedByte 7, 0x00#8]) ++
          [flagByte s.outputs[sh].frozen.isSome] ++
          timeCode (s.outputs[sh].lastStart.map fun start => s.now - start) ++
          [flagByte s.outputs[sh].changedMark] ++
          timeCode (if s.outputs[sh].sendDue then some 0
            else s.outputs[sh].lastStart.map fun start =>
              (if s.outputs[sh].changedMark then start + 100 else start + 1000) - s.now)))) ∧
    exec (.queueReport cp) s = .next (s.answered cp .ok
      (((List.finRange 6).flatMap fun u =>
          match s.units[u] with
          | some sh =>
            [1, byte sh.val, portCode s.shelves[sh].state.target?] ++
              timeCode (match s.shelves[sh].state with | .acquire _ left => some left | _ => none)
          | none => [0, 0xFF, 0xFF] ++ timeCode none) ++
        (byte s.queue.length :: s.queue.flatMap fun sh =>
          [byte sh.val, shelfStateCode s.shelves[sh].state,
           portCode (s.shelves[sh].state.target?.or (s.shelves[sh].state.pending?.map (·.1)))])))

/-- CHANGE REPORT (R103); the bytes of an entry are in the order of its fields (notes/assumptions/23.md). -/
def Obligations.ChangeReportListsAndClearsChangedShelves : Prop :=
  ∀ (cp : ControlPort) (n : Nat) (s : State), s.ready cp = true → s.phase ≠ .init →
    (5 ≤ n → exec (.changeReport cp n) s = .next (s.answered cp .badField [])) ∧
    (n < 5 → ∀ listed : List ShelfId,
      listed = (List.finRange 48).filter (fun sh => s.shelves[sh].changed &&
        (n == 4 || (s.shelfDomain sh).map (·.val) == some n)) →
      exec (.changeReport cp n) s = .next
        ((if s.active = cp then
            { s with shelves := Vector.ofFn fun sh =>
                if sh ∈ listed then { s.shelves[sh] with changed := false } else s.shelves[sh] } else s).answered
          cp .ok (byte listed.length :: listed.flatMap fun sh =>
            [byte sh.val, domainCode (s.shelfDomain sh), shelfStateCode s.shelves[sh].state,
             portCode (s.shelves[sh].state.reference?.or s.shelves[sh].state.target?),
             causeCode s.shelves[sh].lastCause])))

/-! ## Steering -/

/-- STEER (R124, R125), with the events of R78, the changed flag of R77, the pool rules (R80 to R83) and the other shelves
as they were but for one that is lent a unit. The row LOCKED(c) holds whether or not c, pinned
until then, is eligible (notes/assumptions/38.md); a QUEUED shelf with a new target has cause STEER (R125 against R77:
40.md). -/
def Obligations.SteerMovesTheShelfTowardItsPort : Prop :=
  ∀ (cp : ControlPort) (n m : Nat) (s : State), s.readyActive cp = true →
    (48 ≤ n ∨ 24 ≤ m → exec (.steer cp n m) s = .next (s.answered cp .badField [])) ∧
    (∀ (sh : ShelfId) (p : PortId), sh.val = n → p.val = m →
      (s.shelves[sh].steering = .steer p → exec (.steer cp n m) s = .next (s.answered cp .noChange [])) ∧
      (s.shelves[sh].steering ≠ .steer p → s.eligible sh p = false →
        exec (.steer cp n m) s = .next (s.answered cp .notEligible [])) ∧
      (s.shelves[sh].steering ≠ .steer p → s.eligible sh p = true →
        ∃ t, exec (.steer cp n m) s = .next t ∧ Answers s t cp .ok [] ∧ RequestConsequences s t ∧ EventsOfMoves s t ∧
          (∀ other : ShelfId, other ≠ sh → Undisturbed s t other) ∧ (s.poolSound → PoolFollows s t sh) ∧
          t.shelves[sh].steering = .steer p ∧ t.shelves[sh].learned = s.shelves[sh].learned ∧
          (∀ nom, s.shelves[sh].state = .held nom → t.shelves[sh].state = .held (some p) ∧ MarksKept s t sh) ∧
          (∀ pend, s.shelves[sh].state = .locked p pend →
            t.shelves[sh].state = .locked p none ∧ sh ∉ t.queue ∧ MarksKept s t sh) ∧
          (∀ c pend, s.shelves[sh].state = .locked c pend → c ≠ p →
            t.shelves[sh].state = .locked c (some (p, .steer)) ∧ sh ∈ t.queue ∧ MarksKept s t sh ∨
            t.shelves[sh].state = .acquire p (s.settleMs sh) ∧ t.shelves[sh].lastCause = some .steer ∧
              t.shelves[sh].changed = true) ∧
          (∀ left, s.shelves[sh].state = .acquire p left → t.shelves[sh].state = .acquire p left ∧ MarksKept s t sh) ∧
          (s.shelves[sh].state = .queued p → t.shelves[sh].state = .queued p ∧ MarksKept s t sh) ∧
          ((∃ q left, s.shelves[sh].state = .acquire q left ∧ q ≠ p) ∨
              (∃ q, s.shelves[sh].state = .queued q ∧ q ≠ p) ∨
              (∃ c left, s.shelves[sh].state = .bridge c left) ∨
              (∃ left, s.shelves[sh].state = .holdover left) ∨ s.shelves[sh].state = .freerun →
            (t.shelves[sh].state = .queued p ∨ t.shelves[sh].state = .acquire p (s.settleMs sh)) ∧
            t.shelves[sh].lastCause = some .steer ∧ t.shelves[sh].changed = true)))

/-- PIN (R128, R129), with the events of R78, the changed flag of R77, the pool rules (R80 to R83) and the other shelves
as they were but for one that is lent a unit. The row LOCKED(c) holds whether or not c is
eligible (R76 leaves PIN out: notes/assumptions/38.md); a QUEUED shelf with a new target has cause PIN (R129 against R77: 40.md). -/
def Obligations.PinMovesTheShelfTowardItsPortOrRests : Prop :=
  ∀ (cp : ControlPort) (n m : Nat) (s : State), s.readyActive cp = true →
    (48 ≤ n ∨ 24 ≤ m → exec (.pin cp n m) s = .next (s.answered cp .badField [])) ∧
    (∀ (sh : ShelfId) (p : PortId), sh.val = n → p.val = m →
      (s.shelves[sh].steering = .pin p → exec (.pin cp n m) s = .next (s.answered cp .noChange [])) ∧
      (s.shelves[sh].steering ≠ .pin p → s.sameDomain sh p = false →
        exec (.pin cp n m) s = .next (s.answered cp .notInDomain [])) ∧
      (s.shelves[sh].steering ≠ .pin p → s.sameDomain sh p = true → s.ports[p].state = .off →
        exec (.pin cp n m) s = .next (s.answered cp .notEligible [])) ∧
      (s.shelves[sh].steering ≠ .pin p → s.sameDomain sh p = true → s.ports[p].state ≠ .off →
        ∃ t, exec (.pin cp n m) s = .next t ∧ Answers s t cp .ok [] ∧ RequestConsequences s t ∧ EventsOfMoves s t ∧
          (∀ other : ShelfId, other ≠ sh → Undisturbed s t other) ∧ (s.poolSound → PoolFollows s t sh) ∧
          t.shelves[sh].steering = .pin p ∧ t.shelves[sh].learned = s.shelves[sh].learned ∧
          (∀ nom, s.shelves[sh].state = .held nom →
            t.shelves[sh].state = .held (if s.ports[p].activity then some p else none) ∧ MarksKept s t sh) ∧
          (s.ports[p].activity = true →
            (∀ pend, s.shelves[sh].state = .locked p pend → t.shelves[sh].state = .locked p none ∧ sh ∉ t.queue ∧
              MarksKept s t sh) ∧
            (∀ left, s.shelves[sh].state = .bridge p left →
              t.shelves[sh].state = .locked p none ∧ t.shelves[sh].lastCause = s.shelves[sh].lastCause ∧
              t.shelves[sh].changed = true) ∧
            (∀ c pend, s.shelves[sh].state = .locked c pend → c ≠ p →
              t.shelves[sh].state = .locked c (some (p, .pin)) ∧ sh ∈ t.queue ∧ MarksKept s t sh ∨
              t.shelves[sh].state = .acquire p (s.settleMs sh) ∧ t.shelves[sh].lastCause = some .pin ∧
                t.shelves[sh].changed = true) ∧
            (∀ left, s.shelves[sh].state = .acquire p left → t.shelves[sh].state = .acquire p left ∧
              MarksKept s t sh) ∧
            (s.shelves[sh].state = .queued p → t.shelves[sh].state = .queued p ∧ MarksKept s t sh) ∧
            ((∃ q left, s.shelves[sh].state = .acquire q left ∧ q ≠ p) ∨
                (∃ q, s.shelves[sh].state = .queued q ∧ q ≠ p) ∨
                (∃ c left, s.shelves[sh].state = .bridge c left ∧ c ≠ p) ∨
                (∃ left, s.shelves[sh].state = .holdover left) ∨ s.shelves[sh].state = .freerun →
              (t.shelves[sh].state = .queued p ∨ t.shelves[sh].state = .acquire p (s.settleMs sh)) ∧
              t.shelves[sh].lastCause = some .pin ∧ t.shelves[sh].changed = true)) ∧
          (s.ports[p].activity = false →
            ((∃ left, s.shelves[sh].state = .holdover left) ∨ s.shelves[sh].state = .freerun ∨
                s.shelves[sh].state = .queued p ∨ (∃ left, s.shelves[sh].state = .acquire p left) ∨
                (∃ left, s.shelves[sh].state = .bridge p left) ∨ (∃ pend, s.shelves[sh].state = .locked p pend) →
              t.shelves[sh].state = s.shelves[sh].state ∧ MarksKept s t sh) ∧
            ((∃ c pend, s.shelves[sh].state = .locked c pend ∧ c ≠ p) ∨
                (∃ q left, s.shelves[sh].state = .acquire q left ∧ q ≠ p) ∨
                (∃ q, s.shelves[sh].state = .queued q ∧ q ≠ p) ∨
                (∃ c left, s.shelves[sh].state = .bridge c left ∧ c ≠ p) →
              t.shelves[sh].state = (if s.holdoverValid sh then .holdover (s.limitMs sh) else .freerun) ∧
              t.shelves[sh].lastCause = some .pin ∧ t.shelves[sh].changed = true ∧ sh ∉ t.queue))))

/-- CLEAR STEERING (R132), every row, with the events of R78 and no STEER_LOST, the pool rules (R80 to R83) and the other
shelves as they were but for one that is lent a unit. The cause of a shelf that is lent a unit
at once, and that a QUEUED shelf which follows its choice keeps its cause, are the model's readings
(notes/assumptions/37.md, 15.md). -/
def Obligations.ClearSteeringReturnsTheShelfToAuto : Prop :=
  ∀ (cp : ControlPort) (n : Nat) (s : State), s.readyActive cp = true →
    (48 ≤ n → exec (.clearSteering cp n) s = .next (s.answered cp .badField [])) ∧
    (∀ sh : ShelfId, sh.val = n →
      (s.shelves[sh].steering = .auto → exec (.clearSteering cp n) s = .next (s.answered cp .noChange [])) ∧
      (s.shelves[sh].steering ≠ .auto →
        ∃ t, exec (.clearSteering cp n) s = .next t ∧ Answers s t cp .ok [] ∧ RequestConsequences s t ∧
          EventsOfMoves (s.setSteering sh .auto) t ∧ (∀ other : ShelfId, other ≠ sh → Undisturbed s t other) ∧
          (s.poolSound → PoolFollows (s.unsteered sh) t sh) ∧
          t.shelves[sh].steering = .auto ∧ t.shelves[sh].learned = s.shelves[sh].learned ∧
          (∀ nom, s.shelves[sh].state = .held nom → MarksKept s t sh ∧
            (s.shelfDomain sh ≠ none → t.shelves[sh].state = .held (s.best sh))) ∧
          (∀ c pend, s.shelves[sh].state = .locked c pend → s.eligible sh c = true → s.switchWanted sh c = none →
            t.shelves[sh].state = .locked c none ∧ sh ∉ t.queue ∧ MarksKept s t sh) ∧
          (∀ c pend b cause, s.shelves[sh].state = .locked c pend → s.eligible sh c = true →
            s.switchWanted sh c = some (b, cause) →
            (t.shelves[sh].state = .locked c (some (b, cause)) ∧ sh ∈ t.queue ∧ MarksKept s t sh) ∨
            (t.shelves[sh].lastCause = some .cleared ∧ t.shelves[sh].state = .acquire b (s.settleMs sh) ∧
              t.shelves[sh].changed = true)) ∧
          (∀ c pend, s.shelves[sh].state = .locked c pend → s.eligible sh c = false →
            if s.admissible sh c = true ∧ s.shelfHoldOff sh ≠ 0 then Bridges s t sh c .cleared
            else Reselects s t sh (s.best sh) .cleared) ∧
          (∀ q left, s.shelves[sh].state = .acquire q left →
            if s.eligible sh q = true ∧ s.best sh = some q then
              t.shelves[sh].state = .acquire q left ∧ MarksKept s t sh
            else Reselects s t sh (s.best sh) .cleared) ∧
          (∀ q, s.shelves[sh].state = .queued q →
            (∀ b, s.best sh = some b → t.shelves[sh].state = .queued b ∧ t.queue = s.queue ∧
              t.shelves[sh].lastCause = s.shelves[sh].lastCause ∧
              t.shelves[sh].changed = (s.shelves[sh].changed || b != q)) ∧
            (s.best sh = none → Rests s t sh .cleared)) ∧
          (∀ c left, s.shelves[sh].state = .bridge c left →
            if s.admissible sh c = true then t.shelves[sh].state = .bridge c left ∧ MarksKept s t sh
            else Reselects s t sh (s.best sh) .cleared) ∧
          ((∃ left, s.shelves[sh].state = .holdover left) ∨ s.shelves[sh].state = .freerun →
            (s.best sh = none → t.shelves[sh].state = s.shelves[sh].state ∧ MarksKept s t sh) ∧
            (∀ b, s.best sh = some b → GoesToward s t sh b .cleared))))

/-! ## The Exclusion Matrix -/

/-- BAR and ALLOW (R135). -/
def Obligations.BarAndAllowWriteOneCell : Prop :=
  ∀ (cp : ControlPort) (n m : Nat) (s : State), s.readyActive cp = true →
    (48 ≤ n ∨ 24 ≤ m → exec (.bar cp n m) s = .next (s.answered cp .badField []) ∧
      exec (.allow cp n m) s = .next (s.answered cp .badField [])) ∧
    (∀ (sh : ShelfId) (p : PortId), sh.val = n → p.val = m →
      (s.barred sh p = true → exec (.bar cp n m) s = .next (s.answered cp .noChange [])) ∧
      (s.barred sh p = false → exec (.allow cp n m) s = .next (s.answered cp .noChange [])) ∧
      (s.barred sh p = false →
        ∃ t, exec (.bar cp n m) s = .next t ∧ Answers s t cp .ok [] ∧
          RequestConsequences { s with cells := t.cells } t ∧
          ∀ (sh' : ShelfId) (p' : PortId),
            t.barred sh' p' = if sh' = sh ∧ p' = p then true else s.barred sh' p') ∧
      (s.barred sh p = true →
        ∃ t, exec (.allow cp n m) s = .next t ∧ Answers s t cp .ok [] ∧
          RequestConsequences { s with cells := t.cells } t ∧
          ∀ (sh' : ShelfId) (p' : PortId),
            t.barred sh' p' = if sh' = sh ∧ p' = p then false else s.barred sh' p'))

/-- OPEN WINDOW and EXCLUSION ROW (R139, R144); the row's body is laid out as notes/assumptions/23.md says. -/
def Obligations.OpenWindowPlacesTheCursorFirst : Prop :=
  ∀ (cp : ControlPort) (s : State),
    (∀ a b c d o : Nat, s.readyActive cp = true →
      48 ≤ a ∨ 48 ≤ b ∨ 24 ≤ c ∨ 24 ≤ d ∨ b < a ∨ d < c ∨ 2 ≤ o →
      exec (.openWindow cp a b c d o) s = .next (s.answered cp .badField [])) ∧
    (∀ w : Window, s.readyActive cp = true → w.firstShelf ≤ w.lastShelf → w.firstPort ≤ w.lastPort → w.cursor = 0 →
      exec (.openWindow cp w.firstShelf.val w.lastShelf.val w.firstPort.val w.lastPort.val
          (match w.order with | .byShelf => 0 | .byPort => 1)) s =
        .next (({ s with window := some w } : State).answered cp .ok
          (be16 ((w.lastShelf.val - w.firstShelf.val + 1) * (w.lastPort.val - w.firstPort.val + 1))))) ∧
    (∀ n : Nat, s.ready cp = true → s.phase ≠ .init →
      (48 ≤ n → exec (.exclusionRow cp n) s = .next (s.answered cp .badField [])) ∧
      (∀ sh : ShelfId, sh.val = n → exec (.exclusionRow cp n) s = .next (s.answered cp .ok
        ([byte n, domainCode (s.shelfDomain sh)] ++ ((List.finRange 24).map fun p => flagByte (s.barred sh p)) ++
          (match s.window with
            | some w =>
              [1, byte w.firstShelf.val, byte w.lastShelf.val, byte w.firstPort.val, byte w.lastPort.val,
               orderCode w.order] ++ w.cursorBytes
            | none => [0, 0xFF, 0xFF, 0xFF, 0xFF, 0xFF, 0xFF, 0xFF])))))

/-- WRITE WINDOW and CONTINUE WINDOW (R138, R140, R141, R142). -/
def Obligations.WindowWritesFillCellsInScanOrder : Prop :=
  ∀ (cp : ControlPort) (cells : List CellValue) (s : State), s.readyActive cp = true →
    (cells.length = 0 ∨ 1152 < cells.length →
      exec (.writeWindow cp cells) s = .next (s.answered cp .badField []) ∧
      exec (.continueWindow cp cells) s = .next (s.answered cp .badField [])) ∧
    (1 ≤ cells.length → cells.length ≤ 1152 → s.window = none →
      exec (.writeWindow cp cells) s = .next (s.answered cp .noWindow []) ∧
      exec (.continueWindow cp cells) s = .next (s.answered cp .noWindow [])) ∧
    (∀ (w : Window) (place taken : Nat) (i : Instr), 1 ≤ cells.length → cells.length ≤ 1152 → s.window = some w →
      (i = .writeWindow cp cells ∧ place = 0 ∨ i = .continueWindow cp cells ∧ place = w.cursor) →
      taken = min cells.length (w.count - place) →
      ∃ t, exec i s = .next t ∧
        Answers s t cp .ok (be16 taken ++ be16 (cells.length - taken) ++
          ({ w with cursor := place + taken } : Window).cursorBytes) ∧
        RequestConsequences { s with cells := t.cells, window := some { w with cursor := place + taken } } t ∧
        (∀ (k : Nat) (sh : ShelfId) (p : PortId), k < taken → w.cellAt (place + k) = some (sh, p) →
          t.barred sh p = (cells[k]? == some .bar)) ∧
        (∀ (sh : ShelfId) (p : PortId), (∀ k, k < taken → w.cellAt (place + k) ≠ some (sh, p)) →
          t.barred sh p = s.barred sh p))

/-! ## Outputs -/

/-- OUTPUT SETUP and OUTPUT_SEAM (R145, R146, R147): a setup is applied at once when the drive under the active setup
is a fixed level, and waits for the seam when it is a clock. Disabling an output ends its sending and enabling one starts it,
as `TransmitterFollows` says (R158, R160, R161). Out of reset the clock line carries what the drive, divide and invert call
for (R149, R150, R153). The reply's byte, 1 for applied and 0 for pending, is the
model's choice (notes/assumptions/23.md). -/
def Obligations.OutputSetupWaitsForTheSeam : Prop :=
  ∀ (cp : ControlPort) (n : Nat) (b : OutputSetupBody) (s : State),
    (outputSetupOf b = none ↔
      2 ≤ b.enabled ∨ 4 ≤ b.mode ∨ 2 ≤ b.divide ∨ 2 ≤ b.invert ∨ 12 < b.squelch) ∧
    (∀ new, outputSetupOf b = some new →
      new = { enabled := b.enabled == 1, mode := [.follow, .localOsc, .quiet, .mark].getD b.mode .follow,
              divide := b.divide == 1, invert := b.invert == 1,
              squelch := if b.squelch = 0 then none else some b.squelch }) ∧
    (s.readyActive cp = true → 48 ≤ n ∨ outputSetupOf b = none →
      exec (.outputSetup cp n b) s = .next (s.answered cp .badField [])) ∧
    (∀ (sh : ShelfId) (new : OutputSetup), s.readyActive cp = true → sh.val = n → outputSetupOf b = some new →
      (new = s.outputs[sh].pendingSetup.getD s.outputs[sh].active →
        exec (.outputSetup cp n b) s = .next (s.answered cp .noChange [])) ∧
      (new ≠ s.outputs[sh].pendingSetup.getD s.outputs[sh].active →
        ∃ t, exec (.outputSetup cp n b) s = .next t ∧ RequestConsequences s t ∧ ShelvesKept s t ∧
          TransmitterFollows s.outputs[sh] t.outputs[sh] s.now ∧
          ((t.outputs[sh].active = new ∧ t.outputs[sh].pendingSetup = none ∧ Answers s t cp .ok [1]) ∨
            (t.outputs[sh].active = s.outputs[sh].active ∧ t.outputs[sh].pendingSetup = some new ∧
              t.outputs[sh].drive.fixed = false ∧ Answers s t cp .ok [0]))) ∧
      (new ≠ s.outputs[sh].pendingSetup.getD s.outputs[sh].active → s.validSound →
        (s.driveUnder sh s.outputs[sh].active s.outputs[sh].frozen).1.fixed = true →
        ∃ t, exec (.outputSetup cp n b) s = .next t ∧ RequestConsequences s t ∧ Answers s t cp .ok [1] ∧
          t.outputs[sh].active = new ∧ t.outputs[sh].pendingSetup = none) ∧
      (new ≠ s.outputs[sh].pendingSetup.getD s.outputs[sh].active → s.validSound →
        (s.driveUnder sh s.outputs[sh].active s.outputs[sh].frozen).1.fixed = false →
        ∃ t, exec (.outputSetup cp n b) s = .next t ∧ RequestConsequences s t ∧ Answers s t cp .ok [0] ∧
          t.outputs[sh].active = s.outputs[sh].active ∧ t.outputs[sh].pendingSetup = some new ∧
          t.outputs[sh].drive.fixed = false)) ∧
    (∀ sh : ShelfId, s.inReset = false →
      (s.outputs[sh].pendingSetup = none → exec (.outputSeam sh) s = .next s) ∧
      (∀ p, s.outputs[sh].pendingSetup = some p →
        ∃ t, exec (.outputSeam sh) s = .next t ∧ Consequences s t ∧ ShelvesKept s t ∧ t.outputs[sh].active = p ∧
          t.outputs[sh].pendingSetup = none ∧ TransmitterFollows s.outputs[sh] t.outputs[sh] s.now)) ∧
    (∀ sh : ShelfId, s.inReset = false →
      (s.outputs[sh].drive = .low → s.clockLine sh = .low) ∧
      (s.outputs[sh].drive = .high → s.clockLine sh = .high) ∧
      (s.outputs[sh].drive = .tracker → s.clockLine sh =
        .tracker s.outputs[sh].tracker (if s.outputs[sh].active.divide = true then 1024 else 2048)
          s.outputs[sh].active.invert) ∧
      (s.outputs[sh].drive = .localOsc → s.clockLine sh =
        .localOsc (if s.outputs[sh].active.divide = true then 10000 else 20000) s.outputs[sh].active.invert))

/-- GRADE_MESSAGE_SEND and GRADE_MESSAGE_SEND_END (R159, R160, R161); a message that falls due starts by command
(notes/assumptions/21.md). From an output that a seam disables nothing is sent but the end of the message on the line; one
that a seam enables starts its message at once, or when the one on the line ends (R161). -/
def Obligations.GradeMessagesAreSentWhenDue : Prop :=
  ∀ (sh : ShelfId) (s : State), s.inReset = false →
    (s.outputs[sh].lastStart = none → exec (.gradeMessageSend sh) s = .next s) ∧
    (∀ (start due : Nat) (m : GradeMsg) (u : State), s.outputs[sh].lastStart = some start →
      s.outputs[sh].active.enabled = true → s.outputs[sh].outgoing = some m →
      due = (if s.outputs[sh].changedMark then start + 100 else start + 1000) → u = s.elapse (due - s.now) →
      (s.outputs[sh].sending = none →
        exec (.gradeMessageSend sh) s = .next (u.setOutput sh { s.outputs[sh] with
          sending := some m.bytes, sendDue := false, lastSent := some m, lastStart := some u.now,
          changedMark := false })) ∧
      (s.outputs[sh].sending ≠ none →
        exec (.gradeMessageSend sh) s = .next (u.setOutput sh { s.outputs[sh] with sendDue := true }))) ∧
    (s.outputs[sh].sendDue = false →
      exec (.gradeMessageSendEnd sh) s = .next (s.setOutput sh { s.outputs[sh] with sending := none })) ∧
    (∀ m, s.outputs[sh].sendDue = true → s.outputs[sh].outgoing = some m →
      exec (.gradeMessageSendEnd sh) s = .next (s.setOutput sh { s.outputs[sh] with
        sending := some m.bytes, sendDue := false, lastSent := some m, lastStart := some s.now,
        changedMark := false })) ∧
    (∀ setup, s.outputs[sh].pendingSetup = some setup →
      ∃ t, exec (.outputSeam sh) s = .next t ∧
        (s.outputs[sh].active.enabled = true → setup.enabled = false →
          t.outputs[sh].sending = s.outputs[sh].sending ∧ t.gradeLine sh = s.gradeLine sh ∧
          exec (.gradeMessageSend sh) t = .next t ∧
          exec (.gradeMessageSendEnd sh) t = .next (t.setOutput sh { t.outputs[sh] with sending := none })) ∧
        (s.outputs[sh].active.enabled = false → setup.enabled = true →
          ∃ m, t.outputs[sh].outgoing = some m ∧
            (s.outputs[sh].sending = none →
              t.outputs[sh].sending = some m.bytes ∧ t.outputs[sh].lastStart = some s.now) ∧
            (s.outputs[sh].sending ≠ none →
              t.outputs[sh].sending = s.outputs[sh].sending ∧
              exec (.gradeMessageSendEnd sh) t = .next (t.setOutput sh { t.outputs[sh] with
                sending := some m.bytes, sendDue := false, lastSent := some m, lastStart := some t.now,
                changedMark := false }))))

/-! ## Control ports -/

/-- A request's frame passes the CPI's checks as that request, whatever its fields (R166, R189, R192). -/
def Obligations.RequestFramesAreReadBack : Prop :=
  ∀ r : Request, r.wf = true →
    checkFrame (requestFrame r) = .request r ∧ (requestFrame r).length ≤ 255 ∧
      (requestFrame r).head? = some (byte (requestFrame r).length)

/-- Writing a request frame, or the last part of one whose first bytes the receiver holds, does what the request's row does
(R165, R166), and records the bytes shifted out (the model's record: notes/assumptions/1.md, 29.md). Bytes after the frame
are ignored, but where the frame is a RESTART that may be carried out (R179; notes/assumptions/43.md). -/
def Obligations.FrameWriteDeliversItsRequest : Prop :=
  ∀ (i : Instr) (cp : ControlPort) (r : Request) (got bytes rest : List Byte) (s : State), i.request? = some (cp, r) →
    r.wf = true → s.inReset = false → (s.cpi cp).receiver = got → got ++ bytes = requestFrame r ++ rest →
    got.length < (requestFrame r).length → rest = [] ∨ r ≠ .restart ∨ s.phase = .init ∨ s.active = otherPort cp →
    exec (.frameWrite cp bytes) s =
      exec i (s.setCpi cp { s.cpi cp with
        receiver := [], shifted := s.statusByte cp :: List.replicate bytes.length 0xFF, shiftedBits := [] })

/-- Bad frames are answered by the port itself, and any frame completed while it is WORKING is dropped (R165 to R167). A
frame whose length is not the one R189's table gives its kind is a bad frame; any other is a request of its kind. Bytes
after a frame are ignored, but where it is a RESTART that may be carried out (R179; notes/assumptions/43.md). A partial frame
in the receiver is gone on with: the bytes written do what it and they together do to an empty receiver. -/
def Obligations.BadFramesAreAnsweredOrDropped : Prop :=
  (∀ (cp : ControlPort) (frame rest : List Byte) (len : Byte) (s : State) (c : Cpi), s.inReset = false →
    (s.cpi cp).receiver = [] → frame.head? = some len →
    c = { s.cpi cp with
      shifted := s.statusByte cp :: List.replicate (frame.length + rest.length) 0xFF, shiftedBits := [] } →
    (4 ≤ len.toNat → frame.length < len.toNat → rest = [] →
      exec (.frameWrite cp frame) s = .next (s.setCpi cp { c with receiver := frame })) ∧
    ((∀ w, (s.cpi cp).stage ≠ .working w) → (len.toNat < 4 ∨ len.toNat = frame.length ∧ crc16 frame ≠ 0) →
      exec (.frameWrite cp (frame ++ rest)) s = .next (s.setCpi cp
        { c with stage := .reply ({ code := .badFrame, body := [] } : Reply).frame })) ∧
    ((∀ w, (s.cpi cp).stage ≠ .working w) → 4 ≤ len.toNat → len.toNat = frame.length → crc16 frame = 0 →
      (∀ k, frame[1]? = some k → bodyReader k.toNat = none) →
      exec (.frameWrite cp (frame ++ rest)) s = .next (s.setCpi cp
        { c with stage := .reply ({ code := .unknownKind, body := [] } : Reply).frame })) ∧
    (∀ n : Nat, 4 ≤ len.toNat → len.toNat = frame.length → crc16 frame = 0 → lengthCalledFor frame = some n →
      ((∀ w, (s.cpi cp).stage ≠ .working w) → n ≠ frame.length →
        exec (.frameWrite cp (frame ++ rest)) s = .next (s.setCpi cp
          { c with stage := .reply ({ code := .badFrame, body := [] } : Reply).frame })) ∧
      (n = frame.length →
        ∃ (i : Instr) (r : Request), i.request? = some (cp, r) ∧ frame[1]? = some (requestBytes r).1 ∧
          (rest = [] ∨ r ≠ .restart ∨ s.phase = .init ∨ s.active = otherPort cp →
            exec (.frameWrite cp (frame ++ rest)) s = exec i (s.setCpi cp c)))) ∧
    (∀ k, frame[1]? = some k → (lengthCalledFor frame = none ↔ bodyReader k.toNat = none)) ∧
    (∀ w, (s.cpi cp).stage = .working w → (len.toNat < 4 ∨ len.toNat = frame.length) →
      exec (.frameWrite cp (frame ++ rest)) s = .next (s.setCpi cp { c with frameDropped := true }))) ∧
  (∀ (cp : ControlPort) (got bytes : List Byte) (len : Byte) (s : State), s.inReset = false →
    (s.cpi cp).receiver = got → got.head? = some len → 4 ≤ len.toNat → got.length < len.toNat →
    ∃ t, exec (.frameWrite cp (got ++ bytes)) (s.setCpi cp { s.cpi cp with receiver := [] }) = .next t ∧
      exec (.frameWrite cp bytes) s = .next (t.setCpi cp { t.cpi cp with
        shifted := s.statusByte cp :: List.replicate bytes.length 0xFF, shiftedBits := [] }))

/-- REPLY_READ, RESYNC, STATUS_ONLY_TRANSACTION and VOID_TRANSACTION (R163, R164, R169, R170, R188), and which opener
makes which transaction; `shifted` and `shiftedBits` are the model's record of what is shifted out
(notes/assumptions/29.md). -/
def Obligations.TransactionsShiftOutStatusAndReply : Prop :=
  ∀ (cp : ControlPort) (n : Nat) (bytes : List Byte) (s : State) (c : Cpi), s.inReset = false →
    c = { s.cpi cp with shifted := s.statusByte cp :: List.replicate n 0xFF, shiftedBits := [] } →
    (∀ f, (s.cpi cp).stage = .reply f →
      exec (.replyRead cp n) s = .next (s.setCpi cp { s.cpi cp with
        receiver := [], frameDropped := false, shiftedBits := [],
        shifted := s.statusByte cp :: (f.take n ++ List.replicate (n - f.length) 0xFF) })) ∧
    ((∀ f, (s.cpi cp).stage ≠ .reply f) →
      exec (.replyRead cp n) s = .next (s.setCpi cp { c with receiver := [] })) ∧
    exec (.resync cp n) s = .next (s.setCpi cp { c with receiver := [] }) ∧
    (∀ o : Byte, o ≠ 0x5A#8 → o ≠ 0xA5#8 → o ≠ 0x3C#8 → bytes.length = n →
      exec (.statusOnlyTransaction cp o bytes) s = .next (s.setCpi cp c)) ∧
    exec (.statusOnlyTransaction cp 0x5A#8 bytes) s = exec (.frameWrite cp bytes) s ∧
    exec (.statusOnlyTransaction cp 0xA5#8 bytes) s = exec (.replyRead cp bytes.length) s ∧
    exec (.statusOnlyTransaction cp 0x3C#8 bytes) s = exec (.resync cp bytes.length) s ∧
    exec (.voidTransaction cp n) s = .next (s.setCpi cp { s.cpi cp with
      shifted := [],
      shiftedBits := ([7, 6, 5, 4, 3, 2, 1, 0].map fun bit => (s.statusByte cp).getLsbD bit).take n }) ∧
    s.statusByte cp =
      0x80#8 ||| ((match s.phase with | .init => 0x00#8 | .held => 0x10#8 | .running => 0x20#8) |||
        ((if (s.cpi cp).frameDropped then 0x08#8 else 0x00#8) ||| ((if s.active = cp then 0x04#8 else 0x00#8) |||
          (match (s.cpi cp).stage with | .idle => 0x00#8 | .working _ => 0x01#8 | .reply _ => 0x02#8))))

/-- REQUEST_REPLY_PLACED (R171): the reply goes to its port, and a request waiting on the other is then taken, as its
own row says; a request that completes while another is being carried out waits. -/
def Obligations.PlacedRepliesFreeTheExecutor : Prop :=
  ∀ (s : State), s.inReset = false →
    (s.carrying = none → exec .requestReplyPlaced s = .next s) ∧
    (∀ cp f, s.carrying = some (cp, f) → s.waiting (otherPort cp) = none →
      exec .requestReplyPlaced s =
        .next (({ s with carrying := none } : State).setCpi cp { s.cpi cp with stage := .reply f })) ∧
    (∀ cp f r, s.carrying = some (cp, f) → s.waiting (otherPort cp) = some r → r ≠ .restart →
      ∃ t g, exec .requestReplyPlaced s = .next t ∧ (t.cpi cp).stage = .reply f ∧
        t.carrying = some (otherPort cp, g) ∧ t.prevSupplier = some (otherPort cp) ∧
        (t.cpi (otherPort cp)).stage = .working none) ∧
    (∀ cp f i r u, s.carrying = some (cp, f) → s.waiting (otherPort cp) = some r →
      i.request? = some (otherPort cp, r) →
      u = (({ s with carrying := none } : State).setCpi cp { s.cpi cp with stage := .reply f }).setCpi (otherPort cp)
        { s.cpi (otherPort cp) with stage := .idle } →
      ∃ v, exec i u = .next v ∧ exec .requestReplyPlaced s = .next
        (if r = .restart ∧ s.phase ≠ .init ∧ s.active = otherPort cp then v
          else v.setCpi (otherPort cp) { v.cpi (otherPort cp) with receiver := (s.cpi (otherPort cp)).receiver })) ∧
    (∀ cp i r, s.carrying ≠ none → i.request? = some (cp, r) → (∀ w, (s.cpi cp).stage ≠ .working w) →
      exec i s = .next (s.setCpi cp { s.cpi cp with receiver := [], stage := .working (some r) })) ∧
    (∀ t, s.executorSound → step s = .next t → t.executorSound)

/-! ## Invariants -/

/-- Every condition that the following statements say each step keeps holds right after reset. -/
def Obligations.ResetMeetsEveryInvariant : Prop :=
  State.reset.portsSound ∧ State.reset.noneQualifies ∧ State.reset.gradesSound ∧ State.reset.listsSound ∧
    State.reset.phaseSound ∧ State.reset.latchSound ∧ State.reset.validSound ∧ State.reset.poolSound ∧
    State.reset.outputsSound ∧ State.reset.outputsCurrent ∧ State.reset.executorSound ∧ State.reset.shelvesSettled

/-- The port-state table of 1.4 holds after every step, and no port is QUALIFYING in INIT or HELD (R2, R4, R15). -/
def Obligations.EveryStepKeepsPortsSound : Prop :=
  ∀ s t : State, s.portsSound → s.noneQualifies → step s = .next t → t.portsSound ∧ t.noneQualifies

/-- Grade records stay within R25 and R29, and loop flags agree with the traces (R33). -/
def Obligations.EveryStepKeepsGradesSound : Prop :=
  ∀ s t : State, s.gradesSound → step s = .next t → t.gradesSound

/-- Every entry of a priority list stays a port of its domain, and no port appears twice in one list (R51). -/
def Obligations.EveryStepKeepsListsSound : Prop :=
  ∀ s t : State, s.listsSound → step s = .next t → t.listsSound

/-- While the phase is INIT or HELD every shelf is HELD, and in RUNNING none is (R86). -/
def Obligations.EveryStepKeepsHeldAndPhaseTogether : Prop :=
  ∀ s t : State, s.phaseSound → step s = .next t → t.phaseSound

/-- While the fault latch is set no learned time is above 0, no shelf is in HOLDOVER and no port is SUSPECT (R114). -/
def Obligations.EveryStepKeepsTheLatchMeaning : Prop :=
  ∀ s t : State, s.latchSound → step s = .next t → t.latchSound

/-- Every holdover record's validity is the condition of R105 after every step. -/
def Obligations.EveryStepKeepsValidityJudged : Prop :=
  ∀ s t : State, s.validSound → step s = .next t → t.validSound

/-- Units, queue and shelf states stay together as R79 says after every step. Where lists and shelves stand as they do in
every run (EveryStepKeepsListsSound, EveryStepKeepsShelvesWhereTheirRankingsCall), the shelves that keep their place stand
in their order, ahead of all that join (R80, R81), and no shelf is lent a unit before one that stood ahead of it and waits
on (R82). -/
def Obligations.EveryStepKeepsThePoolSound : Prop :=
  ∀ s t : State, s.poolSound → step s = .next t →
    t.poolSound ∧ (s.listsSound → s.shelvesSettled →
      ∃ kept joined : List ShelfId, t.queue = kept ++ joined ∧ kept.Sublist s.queue ∧
      (∀ x ∈ joined, x ∈ s.queue → t.shelves[x].state ≠ s.shelves[x].state ∨
        t.shelves[x].steering ≠ s.shelves[x].steering) ∧
      (∀ x ∈ s.queue, t.shelves[x].state.isAcquire = true → ∀ y ∈ kept, [x, y].Sublist s.queue))

/-- An enabled output whose line carries no clock sends SHUN after every step (R152). Every output's drive, reason,
tracker source and message are the ones called for, by the tables of R148, R150, R151 and R154 to R157; a shelf that
enters BRIDGE freezes the message of its lock (R156), whatever its output's setup (the model's choice:
notes/assumptions/20.md, 42.md). By every command but the two that send its messages, a reset and a RESTART, which alone
lead to INIT, an output's sending is what `TransmitterFollows` says (R158 to R161): kept where it stays enabled or
disabled, and the changed mark is then only set. And its setups are kept, or the pending one has taken over at a seam or
because the drive has become a fixed level, but by OUTPUT SETUP of its shelf (R145, R147); a frame does what its request's
row does (FrameWriteDeliversItsRequest, PlacedRepliesFreeTheExecutor). -/
def Obligations.EveryStepKeepsUnclockedOutputsShun : Prop :=
  (∀ s t : State, s.outputsSound → step s = .next t → t.outputsSound) ∧
  (∀ s t : State, s.validSound → s.outputsCurrent → step s = .next t → t.outputsCurrent ∧
    ∀ sh : ShelfId, t.shelves[sh].state.isBridge = true →
      (s.shelves[sh].state.isBridge = true → t.outputs[sh].frozen = s.outputs[sh].frozen) ∧
      (s.shelves[sh].state.isBridge = false →
        ∃ c left, t.shelves[sh].state = .bridge c left ∧ t.outputs[sh].frozen = some (s.lockedMessage sh c))) ∧
  (∀ (c : Instr) (s t : State), s.inReset = false → t.inReset = false → (∀ pins, c ≠ .powerOn pins) →
    (t.phase = .init → s.phase = .init) → exec c s = .next t →
    ∀ sh : ShelfId,
      (c ≠ .gradeMessageSend sh → c ≠ .gradeMessageSendEnd sh →
        TransmitterFollows s.outputs[sh] t.outputs[sh] t.now) ∧
      ((∀ cp b, c ≠ .outputSetup cp sh.val b) → bringsFrame c = false →
        t.outputs[sh].active = s.outputs[sh].active ∧ t.outputs[sh].pendingSetup = s.outputs[sh].pendingSetup ∨
          s.outputs[sh].pendingSetup = some t.outputs[sh].active ∧ t.outputs[sh].pendingSetup = none ∧
            (c = .outputSeam sh ∨
              (t.driveUnder sh s.outputs[sh].active t.outputs[sh].frozen).1.fixed = true))) ∧
  (∀ (sh : ShelfId) (s : State),
    s.trackerOf sh =
      (match s.shelves[sh].state with
        | .locked c _ => .following c
        | .bridge _ _ => .holding
        | st =>
          if (st.isQueued = true ∨ st.isAcquire = true ∨ st.isHoldover = true) ∧ s.shelves[sh].valid = true then .holding
          else .free)) ∧
  (∀ (sh : ShelfId) (setup : OutputSetup) (frozen : Option GradeMsg) (s : State),
    s.driveUnder sh setup frozen =
      if setup.enabled = false then (.low, .disabled)
      else if s.shelves[sh].state.isHeld = true then (.low, .held)
      else if s.shelves[sh].state.isParked = true then (.low, .parked)
      else if setup.mode = .quiet then (.low, .quiet)
      else if setup.mode = .mark then (.high, .mark)
      else if setup.mode = .localOsc then (.localOsc, .localOsc)
      else if ∃ g, setup.squelch = some g ∧ gradeRank g < gradeRank (s.trackerMessage sh frozen).grade then
        (.low, .squelch)
      else (.tracker, .follow)) ∧
  (∀ g : Nat, 1 ≤ g → g ≤ 12 → gradeRank g = g ∧ gradeRank g < gradeRank 0 ∧ gradeRank 0 < gradeRank 15) ∧
  (∀ (sh : ShelfId) (d : DomainId) (frozen : Option GradeMsg) (s : State), s.shelfDomain sh = some d →
    s.trackerMessage sh frozen =
      if s.osc.latch = true ∧ s.shelves[sh].state.isLocked = false then shunMsg s.nodeId
      else
        match s.shelves[sh].state with
        | .locked c _ =>
          { grade := s.effectiveGrade d c, holdover := s.grades[c].holdover,
            truncated := s.grades[c].truncated || decide (8 ≤ s.grades[c].trace.length),
            trace := if s.grades[c].trace.length < 8 then s.grades[c].trace ++ [s.nodeId]
              else s.grades[c].trace.take 1 ++ s.grades[c].trace.drop 2 ++ [s.nodeId] }
        | .bridge c _ => frozen.getD (s.lockedMessage sh c)
        | .freerun =>
          { grade := s.domains[d].freeRunGrade, holdover := true, truncated := false, trace := [s.nodeId] }
        | .held _ => shunMsg s.nodeId
        | .parked => shunMsg s.nodeId
        | _ =>
          { grade := if s.shelves[sh].valid = true then s.domains[d].holdoverGrade else s.domains[d].freeRunGrade,
            holdover := true, truncated := false, trace := [s.nodeId] }) ∧
  (∀ (sh : ShelfId) (d : DomainId) (enabled : Bool) (drive : Drive) (frozen : Option GradeMsg) (s : State),
    s.shelfDomain sh = some d →
    s.messageFor sh enabled drive frozen =
      if enabled = false then none
      else if drive.fixed = true then some (shunMsg s.nodeId)
      else if drive = .tracker then some (s.trackerMessage sh frozen)
      else if s.osc.latch = true then some (shunMsg s.nodeId)
      else some { grade := s.domains[d].freeRunGrade, holdover := true, truncated := false, trace := [s.nodeId] })

/-- After every step each HELD shelf's nominee is the one R71 names, each shelf names and is steered to ports of its
own domain only (R76, R122), and each stands where its ranking and steering call for it: a shelf of AUTO with a choice
is not left in FREERUN or HOLDOVER (R88, R89), a QUEUED one is toward its choice (R90), an ACQUIRE or LOCKED one names
an eligible port (R93, R97), a pending target is the switch its ranking wants (R95, R96), and so on for BRIDGE, STEER
and PIN (R98, R99, R126, R127, R130, R131). A steered shelf left LOCKED to a port that is not eligible was so before, under
PIN or STEER, with the same ranking (R125). That a returning bridge applies the switch rule in the same change
(notes/assumptions/14.md), that AUTO and STEER act on the level (16.md), that a STEER or PIN of a shelf whose reference is
not eligible lets it wait and that the clock of a pinned shelf's reference going moves it (38.md), that a later ranking
rewrites a pending target's cause (39.md), and that a cell write moves no pinned shelf (41.md) are the model's readings. -/
def Obligations.EveryStepKeepsShelvesWhereTheirRankingsCall : Prop :=
  ∀ s t : State, s.portsSound → s.shelvesSettled → step s = .next t →
    t.shelvesSettled ∧
    ∀ (sh : ShelfId) (p c : PortId) (pend : Option (PortId × Cause)), t.shelves[sh].steering = .steer p →
      t.shelves[sh].state = .locked c pend → t.eligible sh c = false →
      s.shelves[sh].state.isLocked = true ∧ s.shelves[sh].state.reference? = some c ∧
        s.shelves[sh].steering ≠ .auto ∧ s.eligible sh c = false ∧ t.verdicts sh = s.verdicts sh ∧
        t.eligibleList sh = s.eligibleList sh
end

