-- ==== Sys2Proof/Laws/State.lean ====
section
/-!
SUPPORT. One lemma per field per named update of the state: what an update leaves as it was, and what it writes.
-/

namespace Sys2Proof.Machine

/-! ## Fields an update leaves as they were -/

@[simp] theorem setPort_resetPin (s : State) (p : PortId) (r : Port) : (s.setPort p r).resetPin = s.resetPin := rfl
@[simp] theorem setPort_internalReset (s : State) (p : PortId) (r : Port) : (s.setPort p r).internalReset = s.internalReset := rfl
@[simp] theorem setPort_now (s : State) (p : PortId) (r : Port) : (s.setPort p r).now = s.now := rfl
@[simp] theorem setPort_phase (s : State) (p : PortId) (r : Port) : (s.setPort p r).phase = s.phase := rfl
@[simp] theorem setPort_straps (s : State) (p : PortId) (r : Port) : (s.setPort p r).straps = s.straps := rfl
@[simp] theorem setPort_nodeId (s : State) (p : PortId) (r : Port) : (s.setPort p r).nodeId = s.nodeId := rfl
@[simp] theorem setPort_grades (s : State) (p : PortId) (r : Port) : (s.setPort p r).grades = s.grades := rfl
@[simp] theorem setPort_current (s : State) (p : PortId) (r : Port) : (s.setPort p r).current = s.current := rfl
@[simp] theorem setPort_pendingPart (s : State) (p : PortId) (r : Port) : (s.setPort p r).pendingPart = s.pendingPart := rfl
@[simp] theorem setPort_domains (s : State) (p : PortId) (r : Port) : (s.setPort p r).domains = s.domains := rfl
@[simp] theorem setPort_lists (s : State) (p : PortId) (r : Port) : (s.setPort p r).lists = s.lists := rfl
@[simp] theorem setPort_domainEvents (s : State) (p : PortId) (r : Port) : (s.setPort p r).domainEvents = s.domainEvents := rfl
@[simp] theorem setPort_partEvents (s : State) (p : PortId) (r : Port) : (s.setPort p r).partEvents = s.partEvents := rfl
@[simp] theorem setPort_lineDrives (s : State) (p : PortId) (r : Port) : (s.setPort p r).lineDrives = s.lineDrives := rfl
@[simp] theorem setPort_shelves (s : State) (p : PortId) (r : Port) : (s.setPort p r).shelves = s.shelves := rfl
@[simp] theorem setPort_units (s : State) (p : PortId) (r : Port) : (s.setPort p r).units = s.units := rfl
@[simp] theorem setPort_queue (s : State) (p : PortId) (r : Port) : (s.setPort p r).queue = s.queue := rfl
@[simp] theorem setPort_cells (s : State) (p : PortId) (r : Port) : (s.setPort p r).cells = s.cells := rfl
@[simp] theorem setPort_window (s : State) (p : PortId) (r : Port) : (s.setPort p r).window = s.window := rfl
@[simp] theorem setPort_outputs (s : State) (p : PortId) (r : Port) : (s.setPort p r).outputs = s.outputs := rfl
@[simp] theorem setPort_osc (s : State) (p : PortId) (r : Port) : (s.setPort p r).osc = s.osc := rfl
@[simp] theorem setPort_active (s : State) (p : PortId) (r : Port) : (s.setPort p r).active = s.active := rfl
@[simp] theorem setPort_yieldPermission (s : State) (p : PortId) (r : Port) : (s.setPort p r).yieldPermission = s.yieldPermission := rfl
@[simp] theorem setPort_prevSupplier (s : State) (p : PortId) (r : Port) : (s.setPort p r).prevSupplier = s.prevSupplier := rfl
@[simp] theorem setPort_carrying (s : State) (p : PortId) (r : Port) : (s.setPort p r).carrying = s.carrying := rfl
@[simp] theorem setPort_cpa (s : State) (p : PortId) (r : Port) : (s.setPort p r).cpa = s.cpa := rfl
@[simp] theorem setPort_cpb (s : State) (p : PortId) (r : Port) : (s.setPort p r).cpb = s.cpb := rfl
@[simp] theorem setPort_freeCount (s : State) (p : PortId) (r : Port) : (s.setPort p r).freeCount = s.freeCount := rfl
@[simp] theorem setPort_pending (s : State) (p : PortId) (r : Port) : (s.setPort p r).pending = s.pending := rfl

@[simp] theorem setGrade_resetPin (s : State) (p : PortId) (g : Grade) : (s.setGrade p g).resetPin = s.resetPin := rfl
@[simp] theorem setGrade_internalReset (s : State) (p : PortId) (g : Grade) : (s.setGrade p g).internalReset = s.internalReset := rfl
@[simp] theorem setGrade_now (s : State) (p : PortId) (g : Grade) : (s.setGrade p g).now = s.now := rfl
@[simp] theorem setGrade_phase (s : State) (p : PortId) (g : Grade) : (s.setGrade p g).phase = s.phase := rfl
@[simp] theorem setGrade_straps (s : State) (p : PortId) (g : Grade) : (s.setGrade p g).straps = s.straps := rfl
@[simp] theorem setGrade_nodeId (s : State) (p : PortId) (g : Grade) : (s.setGrade p g).nodeId = s.nodeId := rfl
@[simp] theorem setGrade_ports (s : State) (p : PortId) (g : Grade) : (s.setGrade p g).ports = s.ports := rfl
@[simp] theorem setGrade_current (s : State) (p : PortId) (g : Grade) : (s.setGrade p g).current = s.current := rfl
@[simp] theorem setGrade_pendingPart (s : State) (p : PortId) (g : Grade) : (s.setGrade p g).pendingPart = s.pendingPart := rfl
@[simp] theorem setGrade_domains (s : State) (p : PortId) (g : Grade) : (s.setGrade p g).domains = s.domains := rfl
@[simp] theorem setGrade_lists (s : State) (p : PortId) (g : Grade) : (s.setGrade p g).lists = s.lists := rfl
@[simp] theorem setGrade_domainEvents (s : State) (p : PortId) (g : Grade) : (s.setGrade p g).domainEvents = s.domainEvents := rfl
@[simp] theorem setGrade_partEvents (s : State) (p : PortId) (g : Grade) : (s.setGrade p g).partEvents = s.partEvents := rfl
@[simp] theorem setGrade_lineDrives (s : State) (p : PortId) (g : Grade) : (s.setGrade p g).lineDrives = s.lineDrives := rfl
@[simp] theorem setGrade_shelves (s : State) (p : PortId) (g : Grade) : (s.setGrade p g).shelves = s.shelves := rfl
@[simp] theorem setGrade_units (s : State) (p : PortId) (g : Grade) : (s.setGrade p g).units = s.units := rfl
@[simp] theorem setGrade_queue (s : State) (p : PortId) (g : Grade) : (s.setGrade p g).queue = s.queue := rfl
@[simp] theorem setGrade_cells (s : State) (p : PortId) (g : Grade) : (s.setGrade p g).cells = s.cells := rfl
@[simp] theorem setGrade_window (s : State) (p : PortId) (g : Grade) : (s.setGrade p g).window = s.window := rfl
@[simp] theorem setGrade_outputs (s : State) (p : PortId) (g : Grade) : (s.setGrade p g).outputs = s.outputs := rfl
@[simp] theorem setGrade_osc (s : State) (p : PortId) (g : Grade) : (s.setGrade p g).osc = s.osc := rfl
@[simp] theorem setGrade_active (s : State) (p : PortId) (g : Grade) : (s.setGrade p g).active = s.active := rfl
@[simp] theorem setGrade_yieldPermission (s : State) (p : PortId) (g : Grade) : (s.setGrade p g).yieldPermission = s.yieldPermission := rfl
@[simp] theorem setGrade_prevSupplier (s : State) (p : PortId) (g : Grade) : (s.setGrade p g).prevSupplier = s.prevSupplier := rfl
@[simp] theorem setGrade_carrying (s : State) (p : PortId) (g : Grade) : (s.setGrade p g).carrying = s.carrying := rfl
@[simp] theorem setGrade_cpa (s : State) (p : PortId) (g : Grade) : (s.setGrade p g).cpa = s.cpa := rfl
@[simp] theorem setGrade_cpb (s : State) (p : PortId) (g : Grade) : (s.setGrade p g).cpb = s.cpb := rfl
@[simp] theorem setGrade_freeCount (s : State) (p : PortId) (g : Grade) : (s.setGrade p g).freeCount = s.freeCount := rfl
@[simp] theorem setGrade_pending (s : State) (p : PortId) (g : Grade) : (s.setGrade p g).pending = s.pending := rfl

@[simp] theorem setShelf_resetPin (s : State) (sh : ShelfId) (r : Shelf) : (s.setShelf sh r).resetPin = s.resetPin := rfl
@[simp] theorem setShelf_internalReset (s : State) (sh : ShelfId) (r : Shelf) : (s.setShelf sh r).internalReset = s.internalReset := rfl
@[simp] theorem setShelf_now (s : State) (sh : ShelfId) (r : Shelf) : (s.setShelf sh r).now = s.now := rfl
@[simp] theorem setShelf_phase (s : State) (sh : ShelfId) (r : Shelf) : (s.setShelf sh r).phase = s.phase := rfl
@[simp] theorem setShelf_straps (s : State) (sh : ShelfId) (r : Shelf) : (s.setShelf sh r).straps = s.straps := rfl
@[simp] theorem setShelf_nodeId (s : State) (sh : ShelfId) (r : Shelf) : (s.setShelf sh r).nodeId = s.nodeId := rfl
@[simp] theorem setShelf_ports (s : State) (sh : ShelfId) (r : Shelf) : (s.setShelf sh r).ports = s.ports := rfl
@[simp] theorem setShelf_grades (s : State) (sh : ShelfId) (r : Shelf) : (s.setShelf sh r).grades = s.grades := rfl
@[simp] theorem setShelf_current (s : State) (sh : ShelfId) (r : Shelf) : (s.setShelf sh r).current = s.current := rfl
@[simp] theorem setShelf_pendingPart (s : State) (sh : ShelfId) (r : Shelf) : (s.setShelf sh r).pendingPart = s.pendingPart := rfl
@[simp] theorem setShelf_domains (s : State) (sh : ShelfId) (r : Shelf) : (s.setShelf sh r).domains = s.domains := rfl
@[simp] theorem setShelf_lists (s : State) (sh : ShelfId) (r : Shelf) : (s.setShelf sh r).lists = s.lists := rfl
@[simp] theorem setShelf_domainEvents (s : State) (sh : ShelfId) (r : Shelf) : (s.setShelf sh r).domainEvents = s.domainEvents := rfl
@[simp] theorem setShelf_partEvents (s : State) (sh : ShelfId) (r : Shelf) : (s.setShelf sh r).partEvents = s.partEvents := rfl
@[simp] theorem setShelf_lineDrives (s : State) (sh : ShelfId) (r : Shelf) : (s.setShelf sh r).lineDrives = s.lineDrives := rfl
@[simp] theorem setShelf_units (s : State) (sh : ShelfId) (r : Shelf) : (s.setShelf sh r).units = s.units := rfl
@[simp] theorem setShelf_queue (s : State) (sh : ShelfId) (r : Shelf) : (s.setShelf sh r).queue = s.queue := rfl
@[simp] theorem setShelf_cells (s : State) (sh : ShelfId) (r : Shelf) : (s.setShelf sh r).cells = s.cells := rfl
@[simp] theorem setShelf_window (s : State) (sh : ShelfId) (r : Shelf) : (s.setShelf sh r).window = s.window := rfl
@[simp] theorem setShelf_outputs (s : State) (sh : ShelfId) (r : Shelf) : (s.setShelf sh r).outputs = s.outputs := rfl
@[simp] theorem setShelf_osc (s : State) (sh : ShelfId) (r : Shelf) : (s.setShelf sh r).osc = s.osc := rfl
@[simp] theorem setShelf_active (s : State) (sh : ShelfId) (r : Shelf) : (s.setShelf sh r).active = s.active := rfl
@[simp] theorem setShelf_yieldPermission (s : State) (sh : ShelfId) (r : Shelf) : (s.setShelf sh r).yieldPermission = s.yieldPermission := rfl
@[simp] theorem setShelf_prevSupplier (s : State) (sh : ShelfId) (r : Shelf) : (s.setShelf sh r).prevSupplier = s.prevSupplier := rfl
@[simp] theorem setShelf_carrying (s : State) (sh : ShelfId) (r : Shelf) : (s.setShelf sh r).carrying = s.carrying := rfl
@[simp] theorem setShelf_cpa (s : State) (sh : ShelfId) (r : Shelf) : (s.setShelf sh r).cpa = s.cpa := rfl
@[simp] theorem setShelf_cpb (s : State) (sh : ShelfId) (r : Shelf) : (s.setShelf sh r).cpb = s.cpb := rfl
@[simp] theorem setShelf_freeCount (s : State) (sh : ShelfId) (r : Shelf) : (s.setShelf sh r).freeCount = s.freeCount := rfl
@[simp] theorem setShelf_pending (s : State) (sh : ShelfId) (r : Shelf) : (s.setShelf sh r).pending = s.pending := rfl

@[simp] theorem setOutput_resetPin (s : State) (sh : ShelfId) (o : Output) : (s.setOutput sh o).resetPin = s.resetPin := rfl
@[simp] theorem setOutput_internalReset (s : State) (sh : ShelfId) (o : Output) : (s.setOutput sh o).internalReset = s.internalReset := rfl
@[simp] theorem setOutput_now (s : State) (sh : ShelfId) (o : Output) : (s.setOutput sh o).now = s.now := rfl
@[simp] theorem setOutput_phase (s : State) (sh : ShelfId) (o : Output) : (s.setOutput sh o).phase = s.phase := rfl
@[simp] theorem setOutput_straps (s : State) (sh : ShelfId) (o : Output) : (s.setOutput sh o).straps = s.straps := rfl
@[simp] theorem setOutput_nodeId (s : State) (sh : ShelfId) (o : Output) : (s.setOutput sh o).nodeId = s.nodeId := rfl
@[simp] theorem setOutput_ports (s : State) (sh : ShelfId) (o : Output) : (s.setOutput sh o).ports = s.ports := rfl
@[simp] theorem setOutput_grades (s : State) (sh : ShelfId) (o : Output) : (s.setOutput sh o).grades = s.grades := rfl
@[simp] theorem setOutput_current (s : State) (sh : ShelfId) (o : Output) : (s.setOutput sh o).current = s.current := rfl
@[simp] theorem setOutput_pendingPart (s : State) (sh : ShelfId) (o : Output) : (s.setOutput sh o).pendingPart = s.pendingPart := rfl
@[simp] theorem setOutput_domains (s : State) (sh : ShelfId) (o : Output) : (s.setOutput sh o).domains = s.domains := rfl
@[simp] theorem setOutput_lists (s : State) (sh : ShelfId) (o : Output) : (s.setOutput sh o).lists = s.lists := rfl
@[simp] theorem setOutput_domainEvents (s : State) (sh : ShelfId) (o : Output) : (s.setOutput sh o).domainEvents = s.domainEvents := rfl
@[simp] theorem setOutput_partEvents (s : State) (sh : ShelfId) (o : Output) : (s.setOutput sh o).partEvents = s.partEvents := rfl
@[simp] theorem setOutput_lineDrives (s : State) (sh : ShelfId) (o : Output) : (s.setOutput sh o).lineDrives = s.lineDrives := rfl
@[simp] theorem setOutput_shelves (s : State) (sh : ShelfId) (o : Output) : (s.setOutput sh o).shelves = s.shelves := rfl
@[simp] theorem setOutput_units (s : State) (sh : ShelfId) (o : Output) : (s.setOutput sh o).units = s.units := rfl
@[simp] theorem setOutput_queue (s : State) (sh : ShelfId) (o : Output) : (s.setOutput sh o).queue = s.queue := rfl
@[simp] theorem setOutput_cells (s : State) (sh : ShelfId) (o : Output) : (s.setOutput sh o).cells = s.cells := rfl
@[simp] theorem setOutput_window (s : State) (sh : ShelfId) (o : Output) : (s.setOutput sh o).window = s.window := rfl
@[simp] theorem setOutput_osc (s : State) (sh : ShelfId) (o : Output) : (s.setOutput sh o).osc = s.osc := rfl
@[simp] theorem setOutput_active (s : State) (sh : ShelfId) (o : Output) : (s.setOutput sh o).active = s.active := rfl
@[simp] theorem setOutput_yieldPermission (s : State) (sh : ShelfId) (o : Output) : (s.setOutput sh o).yieldPermission = s.yieldPermission := rfl
@[simp] theorem setOutput_prevSupplier (s : State) (sh : ShelfId) (o : Output) : (s.setOutput sh o).prevSupplier = s.prevSupplier := rfl
@[simp] theorem setOutput_carrying (s : State) (sh : ShelfId) (o : Output) : (s.setOutput sh o).carrying = s.carrying := rfl
@[simp] theorem setOutput_cpa (s : State) (sh : ShelfId) (o : Output) : (s.setOutput sh o).cpa = s.cpa := rfl
@[simp] theorem setOutput_cpb (s : State) (sh : ShelfId) (o : Output) : (s.setOutput sh o).cpb = s.cpb := rfl
@[simp] theorem setOutput_freeCount (s : State) (sh : ShelfId) (o : Output) : (s.setOutput sh o).freeCount = s.freeCount := rfl
@[simp] theorem setOutput_pending (s : State) (sh : ShelfId) (o : Output) : (s.setOutput sh o).pending = s.pending := rfl

@[simp] theorem setUnit_resetPin (s : State) (u : UnitId) (h : Option ShelfId) : (s.setUnit u h).resetPin = s.resetPin := rfl
@[simp] theorem setUnit_internalReset (s : State) (u : UnitId) (h : Option ShelfId) : (s.setUnit u h).internalReset = s.internalReset := rfl
@[simp] theorem setUnit_now (s : State) (u : UnitId) (h : Option ShelfId) : (s.setUnit u h).now = s.now := rfl
@[simp] theorem setUnit_phase (s : State) (u : UnitId) (h : Option ShelfId) : (s.setUnit u h).phase = s.phase := rfl
@[simp] theorem setUnit_straps (s : State) (u : UnitId) (h : Option ShelfId) : (s.setUnit u h).straps = s.straps := rfl
@[simp] theorem setUnit_nodeId (s : State) (u : UnitId) (h : Option ShelfId) : (s.setUnit u h).nodeId = s.nodeId := rfl
@[simp] theorem setUnit_ports (s : State) (u : UnitId) (h : Option ShelfId) : (s.setUnit u h).ports = s.ports := rfl
@[simp] theorem setUnit_grades (s : State) (u : UnitId) (h : Option ShelfId) : (s.setUnit u h).grades = s.grades := rfl
@[simp] theorem setUnit_current (s : State) (u : UnitId) (h : Option ShelfId) : (s.setUnit u h).current = s.current := rfl
@[simp] theorem setUnit_pendingPart (s : State) (u : UnitId) (h : Option ShelfId) : (s.setUnit u h).pendingPart = s.pendingPart := rfl
@[simp] theorem setUnit_domains (s : State) (u : UnitId) (h : Option ShelfId) : (s.setUnit u h).domains = s.domains := rfl
@[simp] theorem setUnit_lists (s : State) (u : UnitId) (h : Option ShelfId) : (s.setUnit u h).lists = s.lists := rfl
@[simp] theorem setUnit_domainEvents (s : State) (u : UnitId) (h : Option ShelfId) : (s.setUnit u h).domainEvents = s.domainEvents := rfl
@[simp] theorem setUnit_partEvents (s : State) (u : UnitId) (h : Option ShelfId) : (s.setUnit u h).partEvents = s.partEvents := rfl
@[simp] theorem setUnit_lineDrives (s : State) (u : UnitId) (h : Option ShelfId) : (s.setUnit u h).lineDrives = s.lineDrives := rfl
@[simp] theorem setUnit_shelves (s : State) (u : UnitId) (h : Option ShelfId) : (s.setUnit u h).shelves = s.shelves := rfl
@[simp] theorem setUnit_queue (s : State) (u : UnitId) (h : Option ShelfId) : (s.setUnit u h).queue = s.queue := rfl
@[simp] theorem setUnit_cells (s : State) (u : UnitId) (h : Option ShelfId) : (s.setUnit u h).cells = s.cells := rfl
@[simp] theorem setUnit_window (s : State) (u : UnitId) (h : Option ShelfId) : (s.setUnit u h).window = s.window := rfl
@[simp] theorem setUnit_outputs (s : State) (u : UnitId) (h : Option ShelfId) : (s.setUnit u h).outputs = s.outputs := rfl
@[simp] theorem setUnit_osc (s : State) (u : UnitId) (h : Option ShelfId) : (s.setUnit u h).osc = s.osc := rfl
@[simp] theorem setUnit_active (s : State) (u : UnitId) (h : Option ShelfId) : (s.setUnit u h).active = s.active := rfl
@[simp] theorem setUnit_yieldPermission (s : State) (u : UnitId) (h : Option ShelfId) : (s.setUnit u h).yieldPermission = s.yieldPermission := rfl
@[simp] theorem setUnit_prevSupplier (s : State) (u : UnitId) (h : Option ShelfId) : (s.setUnit u h).prevSupplier = s.prevSupplier := rfl
@[simp] theorem setUnit_carrying (s : State) (u : UnitId) (h : Option ShelfId) : (s.setUnit u h).carrying = s.carrying := rfl
@[simp] theorem setUnit_cpa (s : State) (u : UnitId) (h : Option ShelfId) : (s.setUnit u h).cpa = s.cpa := rfl
@[simp] theorem setUnit_cpb (s : State) (u : UnitId) (h : Option ShelfId) : (s.setUnit u h).cpb = s.cpb := rfl
@[simp] theorem setUnit_freeCount (s : State) (u : UnitId) (h : Option ShelfId) : (s.setUnit u h).freeCount = s.freeCount := rfl
@[simp] theorem setUnit_pending (s : State) (u : UnitId) (h : Option ShelfId) : (s.setUnit u h).pending = s.pending := rfl

@[simp] theorem setQueue_resetPin (s : State) (q : List ShelfId) : (s.setQueue q).resetPin = s.resetPin := rfl
@[simp] theorem setQueue_internalReset (s : State) (q : List ShelfId) : (s.setQueue q).internalReset = s.internalReset := rfl
@[simp] theorem setQueue_now (s : State) (q : List ShelfId) : (s.setQueue q).now = s.now := rfl
@[simp] theorem setQueue_phase (s : State) (q : List ShelfId) : (s.setQueue q).phase = s.phase := rfl
@[simp] theorem setQueue_straps (s : State) (q : List ShelfId) : (s.setQueue q).straps = s.straps := rfl
@[simp] theorem setQueue_nodeId (s : State) (q : List ShelfId) : (s.setQueue q).nodeId = s.nodeId := rfl
@[simp] theorem setQueue_ports (s : State) (q : List ShelfId) : (s.setQueue q).ports = s.ports := rfl
@[simp] theorem setQueue_grades (s : State) (q : List ShelfId) : (s.setQueue q).grades = s.grades := rfl
@[simp] theorem setQueue_current (s : State) (q : List ShelfId) : (s.setQueue q).current = s.current := rfl
@[simp] theorem setQueue_pendingPart (s : State) (q : List ShelfId) : (s.setQueue q).pendingPart = s.pendingPart := rfl
@[simp] theorem setQueue_domains (s : State) (q : List ShelfId) : (s.setQueue q).domains = s.domains := rfl
@[simp] theorem setQueue_lists (s : State) (q : List ShelfId) : (s.setQueue q).lists = s.lists := rfl
@[simp] theorem setQueue_domainEvents (s : State) (q : List ShelfId) : (s.setQueue q).domainEvents = s.domainEvents := rfl
@[simp] theorem setQueue_partEvents (s : State) (q : List ShelfId) : (s.setQueue q).partEvents = s.partEvents := rfl
@[simp] theorem setQueue_lineDrives (s : State) (q : List ShelfId) : (s.setQueue q).lineDrives = s.lineDrives := rfl
@[simp] theorem setQueue_shelves (s : State) (q : List ShelfId) : (s.setQueue q).shelves = s.shelves := rfl
@[simp] theorem setQueue_units (s : State) (q : List ShelfId) : (s.setQueue q).units = s.units := rfl
@[simp] theorem setQueue_cells (s : State) (q : List ShelfId) : (s.setQueue q).cells = s.cells := rfl
@[simp] theorem setQueue_window (s : State) (q : List ShelfId) : (s.setQueue q).window = s.window := rfl
@[simp] theorem setQueue_outputs (s : State) (q : List ShelfId) : (s.setQueue q).outputs = s.outputs := rfl
@[simp] theorem setQueue_osc (s : State) (q : List ShelfId) : (s.setQueue q).osc = s.osc := rfl
@[simp] theorem setQueue_active (s : State) (q : List ShelfId) : (s.setQueue q).active = s.active := rfl
@[simp] theorem setQueue_yieldPermission (s : State) (q : List ShelfId) : (s.setQueue q).yieldPermission = s.yieldPermission := rfl
@[simp] theorem setQueue_prevSupplier (s : State) (q : List ShelfId) : (s.setQueue q).prevSupplier = s.prevSupplier := rfl
@[simp] theorem setQueue_carrying (s : State) (q : List ShelfId) : (s.setQueue q).carrying = s.carrying := rfl
@[simp] theorem setQueue_cpa (s : State) (q : List ShelfId) : (s.setQueue q).cpa = s.cpa := rfl
@[simp] theorem setQueue_cpb (s : State) (q : List ShelfId) : (s.setQueue q).cpb = s.cpb := rfl
@[simp] theorem setQueue_freeCount (s : State) (q : List ShelfId) : (s.setQueue q).freeCount = s.freeCount := rfl
@[simp] theorem setQueue_pending (s : State) (q : List ShelfId) : (s.setQueue q).pending = s.pending := rfl

@[simp] theorem setOsc_resetPin (s : State) (o : Oscillator) : (s.setOsc o).resetPin = s.resetPin := rfl
@[simp] theorem setOsc_internalReset (s : State) (o : Oscillator) : (s.setOsc o).internalReset = s.internalReset := rfl
@[simp] theorem setOsc_now (s : State) (o : Oscillator) : (s.setOsc o).now = s.now := rfl
@[simp] theorem setOsc_phase (s : State) (o : Oscillator) : (s.setOsc o).phase = s.phase := rfl
@[simp] theorem setOsc_straps (s : State) (o : Oscillator) : (s.setOsc o).straps = s.straps := rfl
@[simp] theorem setOsc_nodeId (s : State) (o : Oscillator) : (s.setOsc o).nodeId = s.nodeId := rfl
@[simp] theorem setOsc_ports (s : State) (o : Oscillator) : (s.setOsc o).ports = s.ports := rfl
@[simp] theorem setOsc_grades (s : State) (o : Oscillator) : (s.setOsc o).grades = s.grades := rfl
@[simp] theorem setOsc_current (s : State) (o : Oscillator) : (s.setOsc o).current = s.current := rfl
@[simp] theorem setOsc_pendingPart (s : State) (o : Oscillator) : (s.setOsc o).pendingPart = s.pendingPart := rfl
@[simp] theorem setOsc_domains (s : State) (o : Oscillator) : (s.setOsc o).domains = s.domains := rfl
@[simp] theorem setOsc_lists (s : State) (o : Oscillator) : (s.setOsc o).lists = s.lists := rfl
@[simp] theorem setOsc_domainEvents (s : State) (o : Oscillator) : (s.setOsc o).domainEvents = s.domainEvents := rfl
@[simp] theorem setOsc_partEvents (s : State) (o : Oscillator) : (s.setOsc o).partEvents = s.partEvents := rfl
@[simp] theorem setOsc_lineDrives (s : State) (o : Oscillator) : (s.setOsc o).lineDrives = s.lineDrives := rfl
@[simp] theorem setOsc_shelves (s : State) (o : Oscillator) : (s.setOsc o).shelves = s.shelves := rfl
@[simp] theorem setOsc_units (s : State) (o : Oscillator) : (s.setOsc o).units = s.units := rfl
@[simp] theorem setOsc_queue (s : State) (o : Oscillator) : (s.setOsc o).queue = s.queue := rfl
@[simp] theorem setOsc_cells (s : State) (o : Oscillator) : (s.setOsc o).cells = s.cells := rfl
@[simp] theorem setOsc_window (s : State) (o : Oscillator) : (s.setOsc o).window = s.window := rfl
@[simp] theorem setOsc_outputs (s : State) (o : Oscillator) : (s.setOsc o).outputs = s.outputs := rfl
@[simp] theorem setOsc_active (s : State) (o : Oscillator) : (s.setOsc o).active = s.active := rfl
@[simp] theorem setOsc_yieldPermission (s : State) (o : Oscillator) : (s.setOsc o).yieldPermission = s.yieldPermission := rfl
@[simp] theorem setOsc_prevSupplier (s : State) (o : Oscillator) : (s.setOsc o).prevSupplier = s.prevSupplier := rfl
@[simp] theorem setOsc_carrying (s : State) (o : Oscillator) : (s.setOsc o).carrying = s.carrying := rfl
@[simp] theorem setOsc_cpa (s : State) (o : Oscillator) : (s.setOsc o).cpa = s.cpa := rfl
@[simp] theorem setOsc_cpb (s : State) (o : Oscillator) : (s.setOsc o).cpb = s.cpb := rfl
@[simp] theorem setOsc_freeCount (s : State) (o : Oscillator) : (s.setOsc o).freeCount = s.freeCount := rfl
@[simp] theorem setOsc_pending (s : State) (o : Oscillator) : (s.setOsc o).pending = s.pending := rfl

@[simp] theorem setSteering_resetPin (s : State) (sh : ShelfId) (st : Steering) : (s.setSteering sh st).resetPin = s.resetPin := rfl
@[simp] theorem setSteering_internalReset (s : State) (sh : ShelfId) (st : Steering) : (s.setSteering sh st).internalReset = s.internalReset := rfl
@[simp] theorem setSteering_now (s : State) (sh : ShelfId) (st : Steering) : (s.setSteering sh st).now = s.now := rfl
@[simp] theorem setSteering_phase (s : State) (sh : ShelfId) (st : Steering) : (s.setSteering sh st).phase = s.phase := rfl
@[simp] theorem setSteering_straps (s : State) (sh : ShelfId) (st : Steering) : (s.setSteering sh st).straps = s.straps := rfl
@[simp] theorem setSteering_nodeId (s : State) (sh : ShelfId) (st : Steering) : (s.setSteering sh st).nodeId = s.nodeId := rfl
@[simp] theorem setSteering_ports (s : State) (sh : ShelfId) (st : Steering) : (s.setSteering sh st).ports = s.ports := rfl
@[simp] theorem setSteering_grades (s : State) (sh : ShelfId) (st : Steering) : (s.setSteering sh st).grades = s.grades := rfl
@[simp] theorem setSteering_current (s : State) (sh : ShelfId) (st : Steering) : (s.setSteering sh st).current = s.current := rfl
@[simp] theorem setSteering_pendingPart (s : State) (sh : ShelfId) (st : Steering) : (s.setSteering sh st).pendingPart = s.pendingPart := rfl
@[simp] theorem setSteering_domains (s : State) (sh : ShelfId) (st : Steering) : (s.setSteering sh st).domains = s.domains := rfl
@[simp] theorem setSteering_lists (s : State) (sh : ShelfId) (st : Steering) : (s.setSteering sh st).lists = s.lists := rfl
@[simp] theorem setSteering_domainEvents (s : State) (sh : ShelfId) (st : Steering) : (s.setSteering sh st).domainEvents = s.domainEvents := rfl
@[simp] theorem setSteering_partEvents (s : State) (sh : ShelfId) (st : Steering) : (s.setSteering sh st).partEvents = s.partEvents := rfl
@[simp] theorem setSteering_lineDrives (s : State) (sh : ShelfId) (st : Steering) : (s.setSteering sh st).lineDrives = s.lineDrives := rfl
@[simp] theorem setSteering_units (s : State) (sh : ShelfId) (st : Steering) : (s.setSteering sh st).units = s.units := rfl
@[simp] theorem setSteering_queue (s : State) (sh : ShelfId) (st : Steering) : (s.setSteering sh st).queue = s.queue := rfl
@[simp] theorem setSteering_cells (s : State) (sh : ShelfId) (st : Steering) : (s.setSteering sh st).cells = s.cells := rfl
@[simp] theorem setSteering_window (s : State) (sh : ShelfId) (st : Steering) : (s.setSteering sh st).window = s.window := rfl
@[simp] theorem setSteering_outputs (s : State) (sh : ShelfId) (st : Steering) : (s.setSteering sh st).outputs = s.outputs := rfl
@[simp] theorem setSteering_osc (s : State) (sh : ShelfId) (st : Steering) : (s.setSteering sh st).osc = s.osc := rfl
@[simp] theorem setSteering_active (s : State) (sh : ShelfId) (st : Steering) : (s.setSteering sh st).active = s.active := rfl
@[simp] theorem setSteering_yieldPermission (s : State) (sh : ShelfId) (st : Steering) : (s.setSteering sh st).yieldPermission = s.yieldPermission := rfl
@[simp] theorem setSteering_prevSupplier (s : State) (sh : ShelfId) (st : Steering) : (s.setSteering sh st).prevSupplier = s.prevSupplier := rfl
@[simp] theorem setSteering_carrying (s : State) (sh : ShelfId) (st : Steering) : (s.setSteering sh st).carrying = s.carrying := rfl
@[simp] theorem setSteering_cpa (s : State) (sh : ShelfId) (st : Steering) : (s.setSteering sh st).cpa = s.cpa := rfl
@[simp] theorem setSteering_cpb (s : State) (sh : ShelfId) (st : Steering) : (s.setSteering sh st).cpb = s.cpb := rfl
@[simp] theorem setSteering_freeCount (s : State) (sh : ShelfId) (st : Steering) : (s.setSteering sh st).freeCount = s.freeCount := rfl
@[simp] theorem setSteering_pending (s : State) (sh : ShelfId) (st : Steering) : (s.setSteering sh st).pending = s.pending := rfl

@[simp] theorem setCell_resetPin (s : State) (sh : ShelfId) (p : PortId) (v : CellValue) : (s.setCell sh p v).resetPin = s.resetPin := rfl
@[simp] theorem setCell_internalReset (s : State) (sh : ShelfId) (p : PortId) (v : CellValue) : (s.setCell sh p v).internalReset = s.internalReset := rfl
@[simp] theorem setCell_now (s : State) (sh : ShelfId) (p : PortId) (v : CellValue) : (s.setCell sh p v).now = s.now := rfl
@[simp] theorem setCell_phase (s : State) (sh : ShelfId) (p : PortId) (v : CellValue) : (s.setCell sh p v).phase = s.phase := rfl
@[simp] theorem setCell_straps (s : State) (sh : ShelfId) (p : PortId) (v : CellValue) : (s.setCell sh p v).straps = s.straps := rfl
@[simp] theorem setCell_nodeId (s : State) (sh : ShelfId) (p : PortId) (v : CellValue) : (s.setCell sh p v).nodeId = s.nodeId := rfl
@[simp] theorem setCell_ports (s : State) (sh : ShelfId) (p : PortId) (v : CellValue) : (s.setCell sh p v).ports = s.ports := rfl
@[simp] theorem setCell_grades (s : State) (sh : ShelfId) (p : PortId) (v : CellValue) : (s.setCell sh p v).grades = s.grades := rfl
@[simp] theorem setCell_current (s : State) (sh : ShelfId) (p : PortId) (v : CellValue) : (s.setCell sh p v).current = s.current := rfl
@[simp] theorem setCell_pendingPart (s : State) (sh : ShelfId) (p : PortId) (v : CellValue) : (s.setCell sh p v).pendingPart = s.pendingPart := rfl
@[simp] theorem setCell_domains (s : State) (sh : ShelfId) (p : PortId) (v : CellValue) : (s.setCell sh p v).domains = s.domains := rfl
@[simp] theorem setCell_lists (s : State) (sh : ShelfId) (p : PortId) (v : CellValue) : (s.setCell sh p v).lists = s.lists := rfl
@[simp] theorem setCell_domainEvents (s : State) (sh : ShelfId) (p : PortId) (v : CellValue) : (s.setCell sh p v).domainEvents = s.domainEvents := rfl
@[simp] theorem setCell_partEvents (s : State) (sh : ShelfId) (p : PortId) (v : CellValue) : (s.setCell sh p v).partEvents = s.partEvents := rfl
@[simp] theorem setCell_lineDrives (s : State) (sh : ShelfId) (p : PortId) (v : CellValue) : (s.setCell sh p v).lineDrives = s.lineDrives := rfl
@[simp] theorem setCell_shelves (s : State) (sh : ShelfId) (p : PortId) (v : CellValue) : (s.setCell sh p v).shelves = s.shelves := rfl
@[simp] theorem setCell_units (s : State) (sh : ShelfId) (p : PortId) (v : CellValue) : (s.setCell sh p v).units = s.units := rfl
@[simp] theorem setCell_queue (s : State) (sh : ShelfId) (p : PortId) (v : CellValue) : (s.setCell sh p v).queue = s.queue := rfl
@[simp] theorem setCell_window (s : State) (sh : ShelfId) (p : PortId) (v : CellValue) : (s.setCell sh p v).window = s.window := rfl
@[simp] theorem setCell_outputs (s : State) (sh : ShelfId) (p : PortId) (v : CellValue) : (s.setCell sh p v).outputs = s.outputs := rfl
@[simp] theorem setCell_osc (s : State) (sh : ShelfId) (p : PortId) (v : CellValue) : (s.setCell sh p v).osc = s.osc := rfl
@[simp] theorem setCell_active (s : State) (sh : ShelfId) (p : PortId) (v : CellValue) : (s.setCell sh p v).active = s.active := rfl
@[simp] theorem setCell_yieldPermission (s : State) (sh : ShelfId) (p : PortId) (v : CellValue) : (s.setCell sh p v).yieldPermission = s.yieldPermission := rfl
@[simp] theorem setCell_prevSupplier (s : State) (sh : ShelfId) (p : PortId) (v : CellValue) : (s.setCell sh p v).prevSupplier = s.prevSupplier := rfl
@[simp] theorem setCell_carrying (s : State) (sh : ShelfId) (p : PortId) (v : CellValue) : (s.setCell sh p v).carrying = s.carrying := rfl
@[simp] theorem setCell_cpa (s : State) (sh : ShelfId) (p : PortId) (v : CellValue) : (s.setCell sh p v).cpa = s.cpa := rfl
@[simp] theorem setCell_cpb (s : State) (sh : ShelfId) (p : PortId) (v : CellValue) : (s.setCell sh p v).cpb = s.cpb := rfl
@[simp] theorem setCell_freeCount (s : State) (sh : ShelfId) (p : PortId) (v : CellValue) : (s.setCell sh p v).freeCount = s.freeCount := rfl
@[simp] theorem setCell_pending (s : State) (sh : ShelfId) (p : PortId) (v : CellValue) : (s.setCell sh p v).pending = s.pending := rfl

@[simp] theorem raisePart_resetPin (s : State) (k : PartEvent) : (s.raisePart k).resetPin = s.resetPin := rfl
@[simp] theorem raisePart_internalReset (s : State) (k : PartEvent) : (s.raisePart k).internalReset = s.internalReset := rfl
@[simp] theorem raisePart_now (s : State) (k : PartEvent) : (s.raisePart k).now = s.now := rfl
@[simp] theorem raisePart_phase (s : State) (k : PartEvent) : (s.raisePart k).phase = s.phase := rfl
@[simp] theorem raisePart_straps (s : State) (k : PartEvent) : (s.raisePart k).straps = s.straps := rfl
@[simp] theorem raisePart_nodeId (s : State) (k : PartEvent) : (s.raisePart k).nodeId = s.nodeId := rfl
@[simp] theorem raisePart_ports (s : State) (k : PartEvent) : (s.raisePart k).ports = s.ports := rfl
@[simp] theorem raisePart_grades (s : State) (k : PartEvent) : (s.raisePart k).grades = s.grades := rfl
@[simp] theorem raisePart_current (s : State) (k : PartEvent) : (s.raisePart k).current = s.current := rfl
@[simp] theorem raisePart_pendingPart (s : State) (k : PartEvent) : (s.raisePart k).pendingPart = s.pendingPart := rfl
@[simp] theorem raisePart_domains (s : State) (k : PartEvent) : (s.raisePart k).domains = s.domains := rfl
@[simp] theorem raisePart_lists (s : State) (k : PartEvent) : (s.raisePart k).lists = s.lists := rfl
@[simp] theorem raisePart_domainEvents (s : State) (k : PartEvent) : (s.raisePart k).domainEvents = s.domainEvents := rfl
@[simp] theorem raisePart_lineDrives (s : State) (k : PartEvent) : (s.raisePart k).lineDrives = s.lineDrives := rfl
@[simp] theorem raisePart_shelves (s : State) (k : PartEvent) : (s.raisePart k).shelves = s.shelves := rfl
@[simp] theorem raisePart_units (s : State) (k : PartEvent) : (s.raisePart k).units = s.units := rfl
@[simp] theorem raisePart_queue (s : State) (k : PartEvent) : (s.raisePart k).queue = s.queue := rfl
@[simp] theorem raisePart_cells (s : State) (k : PartEvent) : (s.raisePart k).cells = s.cells := rfl
@[simp] theorem raisePart_window (s : State) (k : PartEvent) : (s.raisePart k).window = s.window := rfl
@[simp] theorem raisePart_outputs (s : State) (k : PartEvent) : (s.raisePart k).outputs = s.outputs := rfl
@[simp] theorem raisePart_osc (s : State) (k : PartEvent) : (s.raisePart k).osc = s.osc := rfl
@[simp] theorem raisePart_active (s : State) (k : PartEvent) : (s.raisePart k).active = s.active := rfl
@[simp] theorem raisePart_yieldPermission (s : State) (k : PartEvent) : (s.raisePart k).yieldPermission = s.yieldPermission := rfl
@[simp] theorem raisePart_prevSupplier (s : State) (k : PartEvent) : (s.raisePart k).prevSupplier = s.prevSupplier := rfl
@[simp] theorem raisePart_carrying (s : State) (k : PartEvent) : (s.raisePart k).carrying = s.carrying := rfl
@[simp] theorem raisePart_cpa (s : State) (k : PartEvent) : (s.raisePart k).cpa = s.cpa := rfl
@[simp] theorem raisePart_cpb (s : State) (k : PartEvent) : (s.raisePart k).cpb = s.cpb := rfl
@[simp] theorem raisePart_freeCount (s : State) (k : PartEvent) : (s.raisePart k).freeCount = s.freeCount := rfl
@[simp] theorem raisePart_pending (s : State) (k : PartEvent) : (s.raisePart k).pending = s.pending := rfl

@[simp] theorem setCpi_resetPin (s : State) (cp : ControlPort) (c : Cpi) : (s.setCpi cp c).resetPin = s.resetPin := by cases cp <;> rfl
@[simp] theorem setCpi_internalReset (s : State) (cp : ControlPort) (c : Cpi) : (s.setCpi cp c).internalReset = s.internalReset := by cases cp <;> rfl
@[simp] theorem setCpi_now (s : State) (cp : ControlPort) (c : Cpi) : (s.setCpi cp c).now = s.now := by cases cp <;> rfl
@[simp] theorem setCpi_phase (s : State) (cp : ControlPort) (c : Cpi) : (s.setCpi cp c).phase = s.phase := by cases cp <;> rfl
@[simp] theorem setCpi_straps (s : State) (cp : ControlPort) (c : Cpi) : (s.setCpi cp c).straps = s.straps := by cases cp <;> rfl
@[simp] theorem setCpi_nodeId (s : State) (cp : ControlPort) (c : Cpi) : (s.setCpi cp c).nodeId = s.nodeId := by cases cp <;> rfl
@[simp] theorem setCpi_ports (s : State) (cp : ControlPort) (c : Cpi) : (s.setCpi cp c).ports = s.ports := by cases cp <;> rfl
@[simp] theorem setCpi_grades (s : State) (cp : ControlPort) (c : Cpi) : (s.setCpi cp c).grades = s.grades := by cases cp <;> rfl
@[simp] theorem setCpi_current (s : State) (cp : ControlPort) (c : Cpi) : (s.setCpi cp c).current = s.current := by cases cp <;> rfl
@[simp] theorem setCpi_pendingPart (s : State) (cp : ControlPort) (c : Cpi) : (s.setCpi cp c).pendingPart = s.pendingPart := by cases cp <;> rfl
@[simp] theorem setCpi_domains (s : State) (cp : ControlPort) (c : Cpi) : (s.setCpi cp c).domains = s.domains := by cases cp <;> rfl
@[simp] theorem setCpi_lists (s : State) (cp : ControlPort) (c : Cpi) : (s.setCpi cp c).lists = s.lists := by cases cp <;> rfl
@[simp] theorem setCpi_domainEvents (s : State) (cp : ControlPort) (c : Cpi) : (s.setCpi cp c).domainEvents = s.domainEvents := by cases cp <;> rfl
@[simp] theorem setCpi_partEvents (s : State) (cp : ControlPort) (c : Cpi) : (s.setCpi cp c).partEvents = s.partEvents := by cases cp <;> rfl
@[simp] theorem setCpi_lineDrives (s : State) (cp : ControlPort) (c : Cpi) : (s.setCpi cp c).lineDrives = s.lineDrives := by cases cp <;> rfl
@[simp] theorem setCpi_shelves (s : State) (cp : ControlPort) (c : Cpi) : (s.setCpi cp c).shelves = s.shelves := by cases cp <;> rfl
@[simp] theorem setCpi_units (s : State) (cp : ControlPort) (c : Cpi) : (s.setCpi cp c).units = s.units := by cases cp <;> rfl
@[simp] theorem setCpi_queue (s : State) (cp : ControlPort) (c : Cpi) : (s.setCpi cp c).queue = s.queue := by cases cp <;> rfl
@[simp] theorem setCpi_cells (s : State) (cp : ControlPort) (c : Cpi) : (s.setCpi cp c).cells = s.cells := by cases cp <;> rfl
@[simp] theorem setCpi_window (s : State) (cp : ControlPort) (c : Cpi) : (s.setCpi cp c).window = s.window := by cases cp <;> rfl
@[simp] theorem setCpi_outputs (s : State) (cp : ControlPort) (c : Cpi) : (s.setCpi cp c).outputs = s.outputs := by cases cp <;> rfl
@[simp] theorem setCpi_osc (s : State) (cp : ControlPort) (c : Cpi) : (s.setCpi cp c).osc = s.osc := by cases cp <;> rfl
@[simp] theorem setCpi_active (s : State) (cp : ControlPort) (c : Cpi) : (s.setCpi cp c).active = s.active := by cases cp <;> rfl
@[simp] theorem setCpi_yieldPermission (s : State) (cp : ControlPort) (c : Cpi) : (s.setCpi cp c).yieldPermission = s.yieldPermission := by cases cp <;> rfl
@[simp] theorem setCpi_prevSupplier (s : State) (cp : ControlPort) (c : Cpi) : (s.setCpi cp c).prevSupplier = s.prevSupplier := by cases cp <;> rfl
@[simp] theorem setCpi_carrying (s : State) (cp : ControlPort) (c : Cpi) : (s.setCpi cp c).carrying = s.carrying := by cases cp <;> rfl
@[simp] theorem setCpi_freeCount (s : State) (cp : ControlPort) (c : Cpi) : (s.setCpi cp c).freeCount = s.freeCount := by cases cp <;> rfl
@[simp] theorem setCpi_pending (s : State) (cp : ControlPort) (c : Cpi) : (s.setCpi cp c).pending = s.pending := by cases cp <;> rfl

@[simp] theorem raiseIn_resetPin (s : State) (d : Option DomainId) (k : DomainEvent) : (s.raiseIn d k).resetPin = s.resetPin := by cases d <;> rfl
@[simp] theorem raiseIn_internalReset (s : State) (d : Option DomainId) (k : DomainEvent) : (s.raiseIn d k).internalReset = s.internalReset := by cases d <;> rfl
@[simp] theorem raiseIn_now (s : State) (d : Option DomainId) (k : DomainEvent) : (s.raiseIn d k).now = s.now := by cases d <;> rfl
@[simp] theorem raiseIn_phase (s : State) (d : Option DomainId) (k : DomainEvent) : (s.raiseIn d k).phase = s.phase := by cases d <;> rfl
@[simp] theorem raiseIn_straps (s : State) (d : Option DomainId) (k : DomainEvent) : (s.raiseIn d k).straps = s.straps := by cases d <;> rfl
@[simp] theorem raiseIn_nodeId (s : State) (d : Option DomainId) (k : DomainEvent) : (s.raiseIn d k).nodeId = s.nodeId := by cases d <;> rfl
@[simp] theorem raiseIn_ports (s : State) (d : Option DomainId) (k : DomainEvent) : (s.raiseIn d k).ports = s.ports := by cases d <;> rfl
@[simp] theorem raiseIn_grades (s : State) (d : Option DomainId) (k : DomainEvent) : (s.raiseIn d k).grades = s.grades := by cases d <;> rfl
@[simp] theorem raiseIn_current (s : State) (d : Option DomainId) (k : DomainEvent) : (s.raiseIn d k).current = s.current := by cases d <;> rfl
@[simp] theorem raiseIn_pendingPart (s : State) (d : Option DomainId) (k : DomainEvent) : (s.raiseIn d k).pendingPart = s.pendingPart := by cases d <;> rfl
@[simp] theorem raiseIn_domains (s : State) (d : Option DomainId) (k : DomainEvent) : (s.raiseIn d k).domains = s.domains := by cases d <;> rfl
@[simp] theorem raiseIn_lists (s : State) (d : Option DomainId) (k : DomainEvent) : (s.raiseIn d k).lists = s.lists := by cases d <;> rfl
@[simp] theorem raiseIn_partEvents (s : State) (d : Option DomainId) (k : DomainEvent) : (s.raiseIn d k).partEvents = s.partEvents := by cases d <;> rfl
@[simp] theorem raiseIn_lineDrives (s : State) (d : Option DomainId) (k : DomainEvent) : (s.raiseIn d k).lineDrives = s.lineDrives := by cases d <;> rfl
@[simp] theorem raiseIn_shelves (s : State) (d : Option DomainId) (k : DomainEvent) : (s.raiseIn d k).shelves = s.shelves := by cases d <;> rfl
@[simp] theorem raiseIn_units (s : State) (d : Option DomainId) (k : DomainEvent) : (s.raiseIn d k).units = s.units := by cases d <;> rfl
@[simp] theorem raiseIn_queue (s : State) (d : Option DomainId) (k : DomainEvent) : (s.raiseIn d k).queue = s.queue := by cases d <;> rfl
@[simp] theorem raiseIn_cells (s : State) (d : Option DomainId) (k : DomainEvent) : (s.raiseIn d k).cells = s.cells := by cases d <;> rfl
@[simp] theorem raiseIn_window (s : State) (d : Option DomainId) (k : DomainEvent) : (s.raiseIn d k).window = s.window := by cases d <;> rfl
@[simp] theorem raiseIn_outputs (s : State) (d : Option DomainId) (k : DomainEvent) : (s.raiseIn d k).outputs = s.outputs := by cases d <;> rfl
@[simp] theorem raiseIn_osc (s : State) (d : Option DomainId) (k : DomainEvent) : (s.raiseIn d k).osc = s.osc := by cases d <;> rfl
@[simp] theorem raiseIn_active (s : State) (d : Option DomainId) (k : DomainEvent) : (s.raiseIn d k).active = s.active := by cases d <;> rfl
@[simp] theorem raiseIn_yieldPermission (s : State) (d : Option DomainId) (k : DomainEvent) : (s.raiseIn d k).yieldPermission = s.yieldPermission := by cases d <;> rfl
@[simp] theorem raiseIn_prevSupplier (s : State) (d : Option DomainId) (k : DomainEvent) : (s.raiseIn d k).prevSupplier = s.prevSupplier := by cases d <;> rfl
@[simp] theorem raiseIn_carrying (s : State) (d : Option DomainId) (k : DomainEvent) : (s.raiseIn d k).carrying = s.carrying := by cases d <;> rfl
@[simp] theorem raiseIn_cpa (s : State) (d : Option DomainId) (k : DomainEvent) : (s.raiseIn d k).cpa = s.cpa := by cases d <;> rfl
@[simp] theorem raiseIn_cpb (s : State) (d : Option DomainId) (k : DomainEvent) : (s.raiseIn d k).cpb = s.cpb := by cases d <;> rfl
@[simp] theorem raiseIn_freeCount (s : State) (d : Option DomainId) (k : DomainEvent) : (s.raiseIn d k).freeCount = s.freeCount := by cases d <;> rfl
@[simp] theorem raiseIn_pending (s : State) (d : Option DomainId) (k : DomainEvent) : (s.raiseIn d k).pending = s.pending := by cases d <;> rfl

@[simp] theorem raisePort_resetPin (s : State) (p : PortId) (k : DomainEvent) : (s.raisePort p k).resetPin = s.resetPin := by simp [State.raisePort]
@[simp] theorem raisePort_internalReset (s : State) (p : PortId) (k : DomainEvent) : (s.raisePort p k).internalReset = s.internalReset := by simp [State.raisePort]
@[simp] theorem raisePort_now (s : State) (p : PortId) (k : DomainEvent) : (s.raisePort p k).now = s.now := by simp [State.raisePort]
@[simp] theorem raisePort_phase (s : State) (p : PortId) (k : DomainEvent) : (s.raisePort p k).phase = s.phase := by simp [State.raisePort]
@[simp] theorem raisePort_straps (s : State) (p : PortId) (k : DomainEvent) : (s.raisePort p k).straps = s.straps := by simp [State.raisePort]
@[simp] theorem raisePort_nodeId (s : State) (p : PortId) (k : DomainEvent) : (s.raisePort p k).nodeId = s.nodeId := by simp [State.raisePort]
@[simp] theorem raisePort_ports (s : State) (p : PortId) (k : DomainEvent) : (s.raisePort p k).ports = s.ports := by simp [State.raisePort]
@[simp] theorem raisePort_grades (s : State) (p : PortId) (k : DomainEvent) : (s.raisePort p k).grades = s.grades := by simp [State.raisePort]
@[simp] theorem raisePort_current (s : State) (p : PortId) (k : DomainEvent) : (s.raisePort p k).current = s.current := by simp [State.raisePort]
@[simp] theorem raisePort_pendingPart (s : State) (p : PortId) (k : DomainEvent) : (s.raisePort p k).pendingPart = s.pendingPart := by simp [State.raisePort]
@[simp] theorem raisePort_domains (s : State) (p : PortId) (k : DomainEvent) : (s.raisePort p k).domains = s.domains := by simp [State.raisePort]
@[simp] theorem raisePort_lists (s : State) (p : PortId) (k : DomainEvent) : (s.raisePort p k).lists = s.lists := by simp [State.raisePort]
@[simp] theorem raisePort_partEvents (s : State) (p : PortId) (k : DomainEvent) : (s.raisePort p k).partEvents = s.partEvents := by simp [State.raisePort]
@[simp] theorem raisePort_lineDrives (s : State) (p : PortId) (k : DomainEvent) : (s.raisePort p k).lineDrives = s.lineDrives := by simp [State.raisePort]
@[simp] theorem raisePort_shelves (s : State) (p : PortId) (k : DomainEvent) : (s.raisePort p k).shelves = s.shelves := by simp [State.raisePort]
@[simp] theorem raisePort_units (s : State) (p : PortId) (k : DomainEvent) : (s.raisePort p k).units = s.units := by simp [State.raisePort]
@[simp] theorem raisePort_queue (s : State) (p : PortId) (k : DomainEvent) : (s.raisePort p k).queue = s.queue := by simp [State.raisePort]
@[simp] theorem raisePort_cells (s : State) (p : PortId) (k : DomainEvent) : (s.raisePort p k).cells = s.cells := by simp [State.raisePort]
@[simp] theorem raisePort_window (s : State) (p : PortId) (k : DomainEvent) : (s.raisePort p k).window = s.window := by simp [State.raisePort]
@[simp] theorem raisePort_outputs (s : State) (p : PortId) (k : DomainEvent) : (s.raisePort p k).outputs = s.outputs := by simp [State.raisePort]
@[simp] theorem raisePort_osc (s : State) (p : PortId) (k : DomainEvent) : (s.raisePort p k).osc = s.osc := by simp [State.raisePort]
@[simp] theorem raisePort_active (s : State) (p : PortId) (k : DomainEvent) : (s.raisePort p k).active = s.active := by simp [State.raisePort]
@[simp] theorem raisePort_yieldPermission (s : State) (p : PortId) (k : DomainEvent) : (s.raisePort p k).yieldPermission = s.yieldPermission := by simp [State.raisePort]
@[simp] theorem raisePort_prevSupplier (s : State) (p : PortId) (k : DomainEvent) : (s.raisePort p k).prevSupplier = s.prevSupplier := by simp [State.raisePort]
@[simp] theorem raisePort_carrying (s : State) (p : PortId) (k : DomainEvent) : (s.raisePort p k).carrying = s.carrying := by simp [State.raisePort]
@[simp] theorem raisePort_cpa (s : State) (p : PortId) (k : DomainEvent) : (s.raisePort p k).cpa = s.cpa := by simp [State.raisePort]
@[simp] theorem raisePort_cpb (s : State) (p : PortId) (k : DomainEvent) : (s.raisePort p k).cpb = s.cpb := by simp [State.raisePort]
@[simp] theorem raisePort_freeCount (s : State) (p : PortId) (k : DomainEvent) : (s.raisePort p k).freeCount = s.freeCount := by simp [State.raisePort]
@[simp] theorem raisePort_pending (s : State) (p : PortId) (k : DomainEvent) : (s.raisePort p k).pending = s.pending := by simp [State.raisePort]

@[simp] theorem raiseShelf_resetPin (s : State) (sh : ShelfId) (k : DomainEvent) : (s.raiseShelf sh k).resetPin = s.resetPin := by simp [State.raiseShelf]
@[simp] theorem raiseShelf_internalReset (s : State) (sh : ShelfId) (k : DomainEvent) : (s.raiseShelf sh k).internalReset = s.internalReset := by simp [State.raiseShelf]
@[simp] theorem raiseShelf_now (s : State) (sh : ShelfId) (k : DomainEvent) : (s.raiseShelf sh k).now = s.now := by simp [State.raiseShelf]
@[simp] theorem raiseShelf_phase (s : State) (sh : ShelfId) (k : DomainEvent) : (s.raiseShelf sh k).phase = s.phase := by simp [State.raiseShelf]
@[simp] theorem raiseShelf_straps (s : State) (sh : ShelfId) (k : DomainEvent) : (s.raiseShelf sh k).straps = s.straps := by simp [State.raiseShelf]
@[simp] theorem raiseShelf_nodeId (s : State) (sh : ShelfId) (k : DomainEvent) : (s.raiseShelf sh k).nodeId = s.nodeId := by simp [State.raiseShelf]
@[simp] theorem raiseShelf_ports (s : State) (sh : ShelfId) (k : DomainEvent) : (s.raiseShelf sh k).ports = s.ports := by simp [State.raiseShelf]
@[simp] theorem raiseShelf_grades (s : State) (sh : ShelfId) (k : DomainEvent) : (s.raiseShelf sh k).grades = s.grades := by simp [State.raiseShelf]
@[simp] theorem raiseShelf_current (s : State) (sh : ShelfId) (k : DomainEvent) : (s.raiseShelf sh k).current = s.current := by simp [State.raiseShelf]
@[simp] theorem raiseShelf_pendingPart (s : State) (sh : ShelfId) (k : DomainEvent) : (s.raiseShelf sh k).pendingPart = s.pendingPart := by simp [State.raiseShelf]
@[simp] theorem raiseShelf_domains (s : State) (sh : ShelfId) (k : DomainEvent) : (s.raiseShelf sh k).domains = s.domains := by simp [State.raiseShelf]
@[simp] theorem raiseShelf_lists (s : State) (sh : ShelfId) (k : DomainEvent) : (s.raiseShelf sh k).lists = s.lists := by simp [State.raiseShelf]
@[simp] theorem raiseShelf_partEvents (s : State) (sh : ShelfId) (k : DomainEvent) : (s.raiseShelf sh k).partEvents = s.partEvents := by simp [State.raiseShelf]
@[simp] theorem raiseShelf_lineDrives (s : State) (sh : ShelfId) (k : DomainEvent) : (s.raiseShelf sh k).lineDrives = s.lineDrives := by simp [State.raiseShelf]
@[simp] theorem raiseShelf_shelves (s : State) (sh : ShelfId) (k : DomainEvent) : (s.raiseShelf sh k).shelves = s.shelves := by simp [State.raiseShelf]
@[simp] theorem raiseShelf_units (s : State) (sh : ShelfId) (k : DomainEvent) : (s.raiseShelf sh k).units = s.units := by simp [State.raiseShelf]
@[simp] theorem raiseShelf_queue (s : State) (sh : ShelfId) (k : DomainEvent) : (s.raiseShelf sh k).queue = s.queue := by simp [State.raiseShelf]
@[simp] theorem raiseShelf_cells (s : State) (sh : ShelfId) (k : DomainEvent) : (s.raiseShelf sh k).cells = s.cells := by simp [State.raiseShelf]
@[simp] theorem raiseShelf_window (s : State) (sh : ShelfId) (k : DomainEvent) : (s.raiseShelf sh k).window = s.window := by simp [State.raiseShelf]
@[simp] theorem raiseShelf_outputs (s : State) (sh : ShelfId) (k : DomainEvent) : (s.raiseShelf sh k).outputs = s.outputs := by simp [State.raiseShelf]
@[simp] theorem raiseShelf_osc (s : State) (sh : ShelfId) (k : DomainEvent) : (s.raiseShelf sh k).osc = s.osc := by simp [State.raiseShelf]
@[simp] theorem raiseShelf_active (s : State) (sh : ShelfId) (k : DomainEvent) : (s.raiseShelf sh k).active = s.active := by simp [State.raiseShelf]
@[simp] theorem raiseShelf_yieldPermission (s : State) (sh : ShelfId) (k : DomainEvent) : (s.raiseShelf sh k).yieldPermission = s.yieldPermission := by simp [State.raiseShelf]
@[simp] theorem raiseShelf_prevSupplier (s : State) (sh : ShelfId) (k : DomainEvent) : (s.raiseShelf sh k).prevSupplier = s.prevSupplier := by simp [State.raiseShelf]
@[simp] theorem raiseShelf_carrying (s : State) (sh : ShelfId) (k : DomainEvent) : (s.raiseShelf sh k).carrying = s.carrying := by simp [State.raiseShelf]
@[simp] theorem raiseShelf_cpa (s : State) (sh : ShelfId) (k : DomainEvent) : (s.raiseShelf sh k).cpa = s.cpa := by simp [State.raiseShelf]
@[simp] theorem raiseShelf_cpb (s : State) (sh : ShelfId) (k : DomainEvent) : (s.raiseShelf sh k).cpb = s.cpb := by simp [State.raiseShelf]
@[simp] theorem raiseShelf_freeCount (s : State) (sh : ShelfId) (k : DomainEvent) : (s.raiseShelf sh k).freeCount = s.freeCount := by simp [State.raiseShelf]
@[simp] theorem raiseShelf_pending (s : State) (sh : ShelfId) (k : DomainEvent) : (s.raiseShelf sh k).pending = s.pending := by simp [State.raiseShelf]

@[simp] theorem raiseShelfOpt_resetPin (s : State) (sh : ShelfId) (k : Option DomainEvent) : (s.raiseShelf? sh k).resetPin = s.resetPin := by cases k <;> simp [State.raiseShelf?]
@[simp] theorem raiseShelfOpt_internalReset (s : State) (sh : ShelfId) (k : Option DomainEvent) : (s.raiseShelf? sh k).internalReset = s.internalReset := by cases k <;> simp [State.raiseShelf?]
@[simp] theorem raiseShelfOpt_now (s : State) (sh : ShelfId) (k : Option DomainEvent) : (s.raiseShelf? sh k).now = s.now := by cases k <;> simp [State.raiseShelf?]
@[simp] theorem raiseShelfOpt_phase (s : State) (sh : ShelfId) (k : Option DomainEvent) : (s.raiseShelf? sh k).phase = s.phase := by cases k <;> simp [State.raiseShelf?]
@[simp] theorem raiseShelfOpt_straps (s : State) (sh : ShelfId) (k : Option DomainEvent) : (s.raiseShelf? sh k).straps = s.straps := by cases k <;> simp [State.raiseShelf?]
@[simp] theorem raiseShelfOpt_nodeId (s : State) (sh : ShelfId) (k : Option DomainEvent) : (s.raiseShelf? sh k).nodeId = s.nodeId := by cases k <;> simp [State.raiseShelf?]
@[simp] theorem raiseShelfOpt_ports (s : State) (sh : ShelfId) (k : Option DomainEvent) : (s.raiseShelf? sh k).ports = s.ports := by cases k <;> simp [State.raiseShelf?]
@[simp] theorem raiseShelfOpt_grades (s : State) (sh : ShelfId) (k : Option DomainEvent) : (s.raiseShelf? sh k).grades = s.grades := by cases k <;> simp [State.raiseShelf?]
@[simp] theorem raiseShelfOpt_current (s : State) (sh : ShelfId) (k : Option DomainEvent) : (s.raiseShelf? sh k).current = s.current := by cases k <;> simp [State.raiseShelf?]
@[simp] theorem raiseShelfOpt_pendingPart (s : State) (sh : ShelfId) (k : Option DomainEvent) : (s.raiseShelf? sh k).pendingPart = s.pendingPart := by cases k <;> simp [State.raiseShelf?]
@[simp] theorem raiseShelfOpt_domains (s : State) (sh : ShelfId) (k : Option DomainEvent) : (s.raiseShelf? sh k).domains = s.domains := by cases k <;> simp [State.raiseShelf?]
@[simp] theorem raiseShelfOpt_lists (s : State) (sh : ShelfId) (k : Option DomainEvent) : (s.raiseShelf? sh k).lists = s.lists := by cases k <;> simp [State.raiseShelf?]
@[simp] theorem raiseShelfOpt_partEvents (s : State) (sh : ShelfId) (k : Option DomainEvent) : (s.raiseShelf? sh k).partEvents = s.partEvents := by cases k <;> simp [State.raiseShelf?]
@[simp] theorem raiseShelfOpt_lineDrives (s : State) (sh : ShelfId) (k : Option DomainEvent) : (s.raiseShelf? sh k).lineDrives = s.lineDrives := by cases k <;> simp [State.raiseShelf?]
@[simp] theorem raiseShelfOpt_shelves (s : State) (sh : ShelfId) (k : Option DomainEvent) : (s.raiseShelf? sh k).shelves = s.shelves := by cases k <;> simp [State.raiseShelf?]
@[simp] theorem raiseShelfOpt_units (s : State) (sh : ShelfId) (k : Option DomainEvent) : (s.raiseShelf? sh k).units = s.units := by cases k <;> simp [State.raiseShelf?]
@[simp] theorem raiseShelfOpt_queue (s : State) (sh : ShelfId) (k : Option DomainEvent) : (s.raiseShelf? sh k).queue = s.queue := by cases k <;> simp [State.raiseShelf?]
@[simp] theorem raiseShelfOpt_cells (s : State) (sh : ShelfId) (k : Option DomainEvent) : (s.raiseShelf? sh k).cells = s.cells := by cases k <;> simp [State.raiseShelf?]
@[simp] theorem raiseShelfOpt_window (s : State) (sh : ShelfId) (k : Option DomainEvent) : (s.raiseShelf? sh k).window = s.window := by cases k <;> simp [State.raiseShelf?]
@[simp] theorem raiseShelfOpt_outputs (s : State) (sh : ShelfId) (k : Option DomainEvent) : (s.raiseShelf? sh k).outputs = s.outputs := by cases k <;> simp [State.raiseShelf?]
@[simp] theorem raiseShelfOpt_osc (s : State) (sh : ShelfId) (k : Option DomainEvent) : (s.raiseShelf? sh k).osc = s.osc := by cases k <;> simp [State.raiseShelf?]
@[simp] theorem raiseShelfOpt_active (s : State) (sh : ShelfId) (k : Option DomainEvent) : (s.raiseShelf? sh k).active = s.active := by cases k <;> simp [State.raiseShelf?]
@[simp] theorem raiseShelfOpt_yieldPermission (s : State) (sh : ShelfId) (k : Option DomainEvent) : (s.raiseShelf? sh k).yieldPermission = s.yieldPermission := by cases k <;> simp [State.raiseShelf?]
@[simp] theorem raiseShelfOpt_prevSupplier (s : State) (sh : ShelfId) (k : Option DomainEvent) : (s.raiseShelf? sh k).prevSupplier = s.prevSupplier := by cases k <;> simp [State.raiseShelf?]
@[simp] theorem raiseShelfOpt_carrying (s : State) (sh : ShelfId) (k : Option DomainEvent) : (s.raiseShelf? sh k).carrying = s.carrying := by cases k <;> simp [State.raiseShelf?]
@[simp] theorem raiseShelfOpt_cpa (s : State) (sh : ShelfId) (k : Option DomainEvent) : (s.raiseShelf? sh k).cpa = s.cpa := by cases k <;> simp [State.raiseShelf?]
@[simp] theorem raiseShelfOpt_cpb (s : State) (sh : ShelfId) (k : Option DomainEvent) : (s.raiseShelf? sh k).cpb = s.cpb := by cases k <;> simp [State.raiseShelf?]
@[simp] theorem raiseShelfOpt_freeCount (s : State) (sh : ShelfId) (k : Option DomainEvent) : (s.raiseShelf? sh k).freeCount = s.freeCount := by cases k <;> simp [State.raiseShelf?]
@[simp] theorem raiseShelfOpt_pending (s : State) (sh : ShelfId) (k : Option DomainEvent) : (s.raiseShelf? sh k).pending = s.pending := by cases k <;> simp [State.raiseShelf?]

@[simp] theorem setStage_resetPin (s : State) (cp : ControlPort) (st : PortStage) : (s.setStage cp st).resetPin = s.resetPin := by simp [State.setStage]
@[simp] theorem setStage_internalReset (s : State) (cp : ControlPort) (st : PortStage) : (s.setStage cp st).internalReset = s.internalReset := by simp [State.setStage]
@[simp] theorem setStage_now (s : State) (cp : ControlPort) (st : PortStage) : (s.setStage cp st).now = s.now := by simp [State.setStage]
@[simp] theorem setStage_phase (s : State) (cp : ControlPort) (st : PortStage) : (s.setStage cp st).phase = s.phase := by simp [State.setStage]
@[simp] theorem setStage_straps (s : State) (cp : ControlPort) (st : PortStage) : (s.setStage cp st).straps = s.straps := by simp [State.setStage]
@[simp] theorem setStage_nodeId (s : State) (cp : ControlPort) (st : PortStage) : (s.setStage cp st).nodeId = s.nodeId := by simp [State.setStage]
@[simp] theorem setStage_ports (s : State) (cp : ControlPort) (st : PortStage) : (s.setStage cp st).ports = s.ports := by simp [State.setStage]
@[simp] theorem setStage_grades (s : State) (cp : ControlPort) (st : PortStage) : (s.setStage cp st).grades = s.grades := by simp [State.setStage]
@[simp] theorem setStage_current (s : State) (cp : ControlPort) (st : PortStage) : (s.setStage cp st).current = s.current := by simp [State.setStage]
@[simp] theorem setStage_pendingPart (s : State) (cp : ControlPort) (st : PortStage) : (s.setStage cp st).pendingPart = s.pendingPart := by simp [State.setStage]
@[simp] theorem setStage_domains (s : State) (cp : ControlPort) (st : PortStage) : (s.setStage cp st).domains = s.domains := by simp [State.setStage]
@[simp] theorem setStage_lists (s : State) (cp : ControlPort) (st : PortStage) : (s.setStage cp st).lists = s.lists := by simp [State.setStage]
@[simp] theorem setStage_domainEvents (s : State) (cp : ControlPort) (st : PortStage) : (s.setStage cp st).domainEvents = s.domainEvents := by simp [State.setStage]
@[simp] theorem setStage_partEvents (s : State) (cp : ControlPort) (st : PortStage) : (s.setStage cp st).partEvents = s.partEvents := by simp [State.setStage]
@[simp] theorem setStage_lineDrives (s : State) (cp : ControlPort) (st : PortStage) : (s.setStage cp st).lineDrives = s.lineDrives := by simp [State.setStage]
@[simp] theorem setStage_shelves (s : State) (cp : ControlPort) (st : PortStage) : (s.setStage cp st).shelves = s.shelves := by simp [State.setStage]
@[simp] theorem setStage_units (s : State) (cp : ControlPort) (st : PortStage) : (s.setStage cp st).units = s.units := by simp [State.setStage]
@[simp] theorem setStage_queue (s : State) (cp : ControlPort) (st : PortStage) : (s.setStage cp st).queue = s.queue := by simp [State.setStage]
@[simp] theorem setStage_cells (s : State) (cp : ControlPort) (st : PortStage) : (s.setStage cp st).cells = s.cells := by simp [State.setStage]
@[simp] theorem setStage_window (s : State) (cp : ControlPort) (st : PortStage) : (s.setStage cp st).window = s.window := by simp [State.setStage]
@[simp] theorem setStage_outputs (s : State) (cp : ControlPort) (st : PortStage) : (s.setStage cp st).outputs = s.outputs := by simp [State.setStage]
@[simp] theorem setStage_osc (s : State) (cp : ControlPort) (st : PortStage) : (s.setStage cp st).osc = s.osc := by simp [State.setStage]
@[simp] theorem setStage_active (s : State) (cp : ControlPort) (st : PortStage) : (s.setStage cp st).active = s.active := by simp [State.setStage]
@[simp] theorem setStage_yieldPermission (s : State) (cp : ControlPort) (st : PortStage) : (s.setStage cp st).yieldPermission = s.yieldPermission := by simp [State.setStage]
@[simp] theorem setStage_prevSupplier (s : State) (cp : ControlPort) (st : PortStage) : (s.setStage cp st).prevSupplier = s.prevSupplier := by simp [State.setStage]
@[simp] theorem setStage_carrying (s : State) (cp : ControlPort) (st : PortStage) : (s.setStage cp st).carrying = s.carrying := by simp [State.setStage]
@[simp] theorem setStage_freeCount (s : State) (cp : ControlPort) (st : PortStage) : (s.setStage cp st).freeCount = s.freeCount := by simp [State.setStage]
@[simp] theorem setStage_pending (s : State) (cp : ControlPort) (st : PortStage) : (s.setStage cp st).pending = s.pending := by simp [State.setStage]

/-! ## What an update writes -/

theorem setPort_get (s : State) (p q : PortId) (r : Port) :
    (s.setPort p r).ports[q] = if p = q then r else s.ports[q] := by
  simp only [State.setPort, Fin.getElem_fin, Vector.getElem_set, Fin.ext_iff]

@[simp] theorem setPort_get_self (s : State) (p : PortId) (r : Port) : (s.setPort p r).ports[p] = r := by
  rw [setPort_get, if_pos rfl]

theorem setPort_get_ne (s : State) (p q : PortId) (r : Port) (h : p ≠ q) : (s.setPort p r).ports[q] = s.ports[q] := by
  rw [setPort_get, if_neg h]

theorem setGrade_get (s : State) (p q : PortId) (r : Grade) :
    (s.setGrade p r).grades[q] = if p = q then r else s.grades[q] := by
  simp only [State.setGrade, Fin.getElem_fin, Vector.getElem_set, Fin.ext_iff]

@[simp] theorem setGrade_get_self (s : State) (p : PortId) (r : Grade) : (s.setGrade p r).grades[p] = r := by
  rw [setGrade_get, if_pos rfl]

theorem setGrade_get_ne (s : State) (p q : PortId) (r : Grade) (h : p ≠ q) : (s.setGrade p r).grades[q] = s.grades[q] := by
  rw [setGrade_get, if_neg h]

theorem setShelf_get (s : State) (p q : ShelfId) (r : Shelf) :
    (s.setShelf p r).shelves[q] = if p = q then r else s.shelves[q] := by
  simp only [State.setShelf, Fin.getElem_fin, Vector.getElem_set, Fin.ext_iff]

@[simp] theorem setShelf_get_self (s : State) (p : ShelfId) (r : Shelf) : (s.setShelf p r).shelves[p] = r := by
  rw [setShelf_get, if_pos rfl]

theorem setShelf_get_ne (s : State) (p q : ShelfId) (r : Shelf) (h : p ≠ q) : (s.setShelf p r).shelves[q] = s.shelves[q] := by
  rw [setShelf_get, if_neg h]

theorem setOutput_get (s : State) (p q : ShelfId) (r : Output) :
    (s.setOutput p r).outputs[q] = if p = q then r else s.outputs[q] := by
  simp only [State.setOutput, Fin.getElem_fin, Vector.getElem_set, Fin.ext_iff]

@[simp] theorem setOutput_get_self (s : State) (p : ShelfId) (r : Output) : (s.setOutput p r).outputs[p] = r := by
  rw [setOutput_get, if_pos rfl]

theorem setOutput_get_ne (s : State) (p q : ShelfId) (r : Output) (h : p ≠ q) : (s.setOutput p r).outputs[q] = s.outputs[q] := by
  rw [setOutput_get, if_neg h]

theorem setUnit_get (s : State) (p q : UnitId) (r : Option ShelfId) :
    (s.setUnit p r).units[q] = if p = q then r else s.units[q] := by
  simp only [State.setUnit, Fin.getElem_fin, Vector.getElem_set, Fin.ext_iff]

@[simp] theorem setUnit_get_self (s : State) (p : UnitId) (r : Option ShelfId) : (s.setUnit p r).units[p] = r := by
  rw [setUnit_get, if_pos rfl]

theorem setUnit_get_ne (s : State) (p q : UnitId) (r : Option ShelfId) (h : p ≠ q) : (s.setUnit p r).units[q] = s.units[q] := by
  rw [setUnit_get, if_neg h]

@[simp] theorem setQueue_queue (s : State) (q : List ShelfId) : (s.setQueue q).queue = q := rfl

@[simp] theorem setOsc_osc (s : State) (o : Oscillator) : (s.setOsc o).osc = o := rfl

@[simp] theorem raisePart_partEvents (s : State) (k : PartEvent) :
    (s.raisePart k).partEvents = s.partEvents.raise k := rfl

@[simp] theorem setCpi_cpi_self (s : State) (cp : ControlPort) (c : Cpi) : (s.setCpi cp c).cpi cp = c := by
  cases cp <;> rfl

@[simp] theorem setCpi_cpi_other (s : State) (cp : ControlPort) (c : Cpi) :
    (s.setCpi cp c).cpi (otherPort cp) = s.cpi (otherPort cp) := by
  cases cp <;> rfl

@[simp] theorem otherPort_otherPort (cp : ControlPort) : otherPort (otherPort cp) = cp := by cases cp <;> rfl

theorem otherPort_ne (cp : ControlPort) : otherPort cp ≠ cp := by cases cp <;> decide

/-- A live command takes effect exactly out of reset. -/
theorem live_of_not_inReset (s : State) (f : State → State) (h : s.inReset = false) : s.live f = .next (f s) := by
  simp [State.live, h]

/-- In reset nothing happens (R163, R181). -/
theorem live_of_inReset (s : State) (f : State → State) (h : s.inReset = true) : s.live f = .next s := by
  simp [State.live, h]

/-- A meaning built by `live` always answers a next state. -/
theorem live_next (s : State) (f : State → State) : ∃ t, s.live f = .next t := ⟨_, rfl⟩

/-- Raising an event for a port changes at most the set of its domain (R54). -/
theorem raiseIn_get (s : State) (d : Option DomainId) (k : DomainEvent) (e : DomainId) :
    (s.raiseIn d k).domainEvents[e] = if d = some e then s.domainEvents[e].raise k else s.domainEvents[e] := by
  cases d with
  | none => simp [State.raiseIn]
  | some d =>
    simp only [State.raiseIn, Fin.getElem_fin, Vector.getElem_set, Option.some.injEq, Fin.ext_iff]
    split
    · rename_i h; simp [h]
    · rfl

end Sys2Proof.Machine
end

