-- ==== Sys2Proof/Laws/Events.lean ====
section
/-!
SUPPORT. Which kinds a raise latches (R54), and the events of shelves and ports as relations on states.
-/

namespace Sys2Proof.Machine

/-- The place of a kind in its set (R190). -/
def DomainEvent.place : DomainEvent → Nat
  | .switch => 0
  | .lock => 1
  | .bridge => 2
  | .holdover => 3
  | .freerun => 4
  | .expired => 5
  | .port => 6
  | .grade => 7
  | .loop => 8
  | .steerLost => 9

theorem DomainEvent.bit_place (k : DomainEvent) : k.bit = BitVec.twoPow 10 k.place := by cases k <;> decide

theorem DomainEvent.place_lt (k : DomainEvent) : k.place < 10 := by cases k <;> decide

theorem DomainEvent.place_inj {j k : DomainEvent} (h : j.place = k.place) : j = k := by
  cases j <;> cases k <;> first | rfl | exact absurd h (by decide)

/-- A kind's bit is in a set exactly when the set has its place. -/
theorem DomainEvent.mem_set (k : DomainEvent) (x : BitVec 10) : (x &&& k.bit != 0) = x.getLsbD k.place := by
  have hn : BitVec.twoPow 10 k.place ≠ 0#10 := by cases k <;> decide
  rw [k.bit_place, BitVec.and_twoPow]
  cases x.getLsbD k.place
  · simp
  · simpa using hn

/-- Raising keeps every mask (R54). -/
@[simp] theorem masked_raiseIn (s : State) (e : Option DomainId) (j k : DomainEvent) (d : DomainId) :
    (s.raiseIn e j).masked d k = s.masked d k := by
  unfold State.masked
  rw [raiseIn_get]
  split <;> rfl

/-- What a raise latches: what was, and the kind raised unless it is masked (R54). -/
theorem latched_raiseIn (s : State) (e : Option DomainId) (j k : DomainEvent) (d : DomainId) :
    (s.raiseIn e j).latched d k = true ↔
      s.latched d k = true ∨ (e = some d ∧ j = k ∧ s.masked d k = false) := by
  unfold State.latched State.masked
  rw [raiseIn_get, k.mem_set, k.mem_set, k.mem_set]
  by_cases he : e = some d
  · rw [if_pos he]
    have hj : (BitVec.twoPow 10 j.place).getLsbD k.place = true ↔ j = k := by
      rw [BitVec.getLsbD_twoPow]
      simp only [Bool.and_eq_true, decide_eq_true_eq]
      exact ⟨fun h => DomainEvent.place_inj h.2, fun h => ⟨j.place_lt, by rw [h]⟩⟩
    simp only [DomainSet.raise, BitVec.getLsbD_or, BitVec.getLsbD_and, BitVec.getLsbD_not, j.bit_place, Bool.or_eq_true,
      Bool.and_eq_true, hj, k.place_lt, decide_true, true_and, Bool.not_eq_true', he]
  · rw [if_neg he]
    simp [he]

/-- A shelf whose state stands raises nothing (R78). -/
theorem shelfRaises_self (a : ShelfState) (k : DomainEvent) : shelfRaises a a false k = false := by
  cases k <;> cases a <;> simp [shelfRaises, ShelfState.isQueued, ShelfState.isAcquire, ShelfState.isLocked,
    ShelfState.isBridge, ShelfState.isHoldover, ShelfState.isFreerun]

/-- With no shelf moved nothing is raised. -/
theorem EventsOfMoves.refl (s : State) : EventsOfMoves s s := by
  intro d k
  refine ⟨rfl, Or.inl, ?_⟩
  rintro (h | ⟨_, sh, _, h⟩)
  · exact h
  · have hl : (s.shelves[sh].steering != .auto && s.shelves[sh].steering == .auto) = false := by
      simp only [bne]
      cases (s.shelves[sh].steering == .auto) <;> rfl
    rw [hl, shelfRaises_self] at h
    exact absurd h (by decide)

/-- With no port or grade record changed nothing is raised. -/
theorem EventsOfPorts.refl (s : State) : EventsOfPorts s s := by
  intro d k hk
  refine ⟨Or.inl, ?_⟩
  rintro (h | ⟨_, p, _, h⟩)
  · exact h
  · rcases hk with rfl | rfl | rfl <;> simp [portRaises] at h

end Sys2Proof.Machine
end

