-- ==== Sys2Proof/Laws/Moves.lean ====
section
/-!
SUPPORT. What a move of a shelf can change: only shelf records, units, the queue, domain event sets and the counter of
free turns. Every operation of Machine/Pool.lean and Machine/Moves.lean is covered, up to a whole re-ranking.
-/

namespace Sys2Proof.Machine

/-- A property of the part that every single write of a move keeps: a shelf record, a unit, the queue, a domain event
raised, the counter of free turns. -/
structure MoveClosed (P : State → Prop) : Prop where
  shelf   : ∀ s sh r, P s → P (s.setShelf sh r)
  unit    : ∀ s u h, P s → P (s.setUnit u h)
  queue   : ∀ s q, P s → P (s.setQueue q)
  reclaim : ∀ s sh, P s → P (s.reclaim sh)
  event   : ∀ s d k, P s → P (s.raiseIn d k)
  count   : ∀ s n, P s → P { s with freeCount := n }

/-- From `s` to `t` only writes of moves happened: `t` has every `MoveClosed` property of `s`. -/
def Moves (s t : State) : Prop := ∀ P : State → Prop, MoveClosed P → P s → P t

theorem Moves.refl (s : State) : Moves s s := fun _ _ h => h

theorem Moves.trans {s t u : State} (h : Moves s t) (k : Moves t u) : Moves s u := fun P C hs => k P C (h P C hs)

/-! ## What follows from `Moves` -/

/-- From `s` to `t` only shelf records, units, queue, domain events and the free counter may differ. -/
def ShelfOnly (s t : State) : Prop :=
  t = { s with shelves := t.shelves, units := t.units, queue := t.queue, domainEvents := t.domainEvents,
               freeCount := t.freeCount }

theorem ShelfOnly.refl (s : State) : ShelfOnly s s := rfl

theorem ShelfOnly.trans {s t u : State} (h : ShelfOnly s t) (k : ShelfOnly t u) : ShelfOnly s u := by
  unfold ShelfOnly at h k ⊢
  rw [k, h]

theorem shelfOnly_raiseIn (s : State) (d : Option DomainId) (k : DomainEvent) : ShelfOnly s (s.raiseIn d k) := by
  cases d <;> rfl

/-- Moves change only what `ShelfOnly` names. -/
theorem Moves.shelfOnly {s t : State} (h : Moves s t) : ShelfOnly s t :=
  h (ShelfOnly s)
    { shelf := fun _ _ _ k => k.trans rfl, unit := fun _ _ _ k => k.trans rfl, queue := fun _ _ k => k.trans rfl,
      reclaim := fun _ _ k => k.trans rfl, event := fun _ _ _ k => k.trans (shelfOnly_raiseIn _ _ _),
      count := fun _ _ k => k.trans rfl }
    (ShelfOnly.refl s)

/-- Domain event sets keep their masks and their latched kinds, and may gain kinds (R54). -/
def EventsGrow (s t : State) : Prop :=
  ∀ d : DomainId, t.domainEvents[d].mask = s.domainEvents[d].mask ∧
    s.domainEvents[d].latched &&& t.domainEvents[d].latched = s.domainEvents[d].latched

theorem EventsGrow.refl (s : State) : EventsGrow s s := fun _ => ⟨rfl, BitVec.and_self⟩

theorem EventsGrow.trans {s t u : State} (h : EventsGrow s t) (k : EventsGrow t u) : EventsGrow s u := by
  intro d
  refine ⟨(k d).1.trans (h d).1, ?_⟩
  rw [← (h d).2, BitVec.and_assoc, (k d).2]

/-- Raising a kind is such a growth (R54). -/
theorem eventsGrow_raiseIn (s : State) (d : Option DomainId) (k : DomainEvent) : EventsGrow s (s.raiseIn d k) := by
  cases d with
  | none => exact .refl s
  | some d =>
    intro e
    simp only [State.raiseIn, Fin.getElem_fin, Vector.getElem_set]
    split
    · rename_i h
      have : d = e := Fin.ext h
      subst this
      refine ⟨rfl, ?_⟩
      simp only [DomainSet.raise]
      ext i hi
      simp only [BitVec.getElem_and, BitVec.getElem_or]
      cases (s.domainEvents[d.val].latched)[i] <;> simp
    · exact ⟨rfl, BitVec.and_self⟩

/-- Moves only add domain events (R54). -/
theorem Moves.eventsGrow {s t : State} (h : Moves s t) : EventsGrow s t :=
  h (EventsGrow s)
    { shelf := fun _ _ _ k => k, unit := fun _ _ _ k => k, queue := fun _ _ k => k, reclaim := fun _ _ k => k,
      event := fun _ _ _ k => k.trans (eventsGrow_raiseIn _ _ _), count := fun _ _ k => k }
    (EventsGrow.refl s)

/-- A latched kind stays latched. -/
theorem EventsGrow.latched {s t : State} (h : EventsGrow s t) (d : DomainId) (k : DomainEvent)
    (hk : s.domainEvents[d].latched &&& k.bit ≠ 0) : t.domainEvents[d].latched &&& k.bit ≠ 0 := by
  intro h0
  apply hk
  rw [← (h d).2, BitVec.and_assoc, h0]
  simp

/-! ## Each operation -/

theorem moves_setShelf (s : State) (sh : ShelfId) (r : Shelf) : Moves s (s.setShelf sh r) :=
  fun _ C h => C.shelf _ _ _ h

theorem moves_setUnit (s : State) (u : UnitId) (h : Option ShelfId) : Moves s (s.setUnit u h) :=
  fun _ C k => C.unit _ _ _ k

theorem moves_setQueue (s : State) (q : List ShelfId) : Moves s (s.setQueue q) := fun _ C h => C.queue _ _ h

theorem moves_setSteering (s : State) (sh : ShelfId) (st : Steering) : Moves s (s.setSteering sh st) :=
  moves_setShelf _ _ _

theorem moves_reclaim (s : State) (sh : ShelfId) : Moves s (s.reclaim sh) := fun _ C h => C.reclaim _ _ h

theorem moves_leaveQueue (s : State) (sh : ShelfId) : Moves s (s.leaveQueue sh) := moves_setQueue _ _

theorem moves_count (s : State) (n : Nat) : Moves s { s with freeCount := n } := fun _ C h => C.count _ _ h

theorem moves_raiseIn (s : State) (d : Option DomainId) (k : DomainEvent) : Moves s (s.raiseIn d k) :=
  fun _ C h => C.event _ _ _ h

theorem moves_raiseShelf (s : State) (sh : ShelfId) (k : DomainEvent) : Moves s (s.raiseShelf sh k) :=
  moves_raiseIn _ _ _

theorem moves_raiseShelfOpt (s : State) (sh : ShelfId) (k : Option DomainEvent) :
    Moves s (s.raiseShelf? sh k) := by
  cases k with
  | none => exact .refl _
  | some k => exact moves_raiseShelf _ _ _

theorem moves_enterState (s : State) (sh : ShelfId) (st : ShelfState) (c : Option Cause)
    (k : Option DomainEvent) : Moves s (s.enterState sh st c k) :=
  (moves_setShelf _ _ _).trans (moves_raiseShelfOpt _ _ _)

theorem moves_grant (s : State) (sh : ShelfId) (u : UnitId) : Moves s (s.grant sh u) := by
  unfold State.grant
  split
  · exact (moves_setUnit _ _ _).trans (moves_enterState _ _ _ _ _)
  · exact (moves_setUnit _ _ _).trans (moves_enterState _ _ _ _ _)
  · exact .refl _

theorem moves_lendOne (s : State) : Moves s s.lendOne := by
  unfold State.lendOne
  split
  · exact (moves_setQueue _ _).trans (moves_grant _ _ _)
  · exact .refl _

theorem moves_lendTimes (n : Nat) (s : State) : Moves s (State.lendTimes n s) := by
  induction n generalizing s with
  | zero => exact .refl _
  | succ n ih => exact (moves_lendOne s).trans (ih _)

theorem moves_lend (s : State) : Moves s s.lend := moves_lendTimes 6 s

theorem moves_freeUnit (s : State) (sh : ShelfId) : Moves s (s.freeUnit sh) :=
  (moves_reclaim s sh).trans (moves_lend _)

theorem moves_join (s : State) (sh : ShelfId) : Moves s (s.join sh) := by
  unfold State.join
  split
  · exact moves_lend _
  · exact (moves_setQueue _ _).trans (moves_lend _)

theorem moves_leaveAcquire (s : State) (sh : ShelfId) : Moves s (s.leaveAcquire sh) := by
  unfold State.leaveAcquire
  split
  · exact moves_freeUnit _ _
  · exact .refl _

theorem moves_toward (s : State) (sh : ShelfId) (t : PortId) (c : Cause) : Moves s (s.toward sh t c) :=
  ((moves_leaveAcquire s sh).trans (moves_enterState _ _ _ _ _)).trans (moves_join _ _)

theorem moves_enterRest (s : State) (sh : ShelfId) (c : Option Cause) : Moves s (s.enterRest sh c) := by
  unfold State.enterRest
  split <;> exact moves_enterState _ _ _ _ _

theorem moves_rest (s : State) (sh : ShelfId) (c : Cause) : Moves s (s.rest sh c) :=
  ((moves_leaveAcquire s sh).trans (moves_leaveQueue _ _)).trans (moves_enterRest _ _ _)

theorem moves_reselect (s : State) (sh : ShelfId) (c : Cause) : Moves s (s.reselect sh c) := by
  unfold State.reselect
  split
  · exact moves_toward _ _ _ _
  · exact moves_rest _ _ _

theorem moves_park (s : State) (sh : ShelfId) (c : Cause) : Moves s (s.park sh c) :=
  (((moves_leaveAcquire s sh).trans (moves_leaveQueue _ _)).trans (moves_enterState _ _ _ _ _)).trans
    (moves_setShelf _ _ _)

theorem moves_gainPending (s : State) (sh : ShelfId) (c b : PortId) (k : Cause) :
    Moves s (s.gainPending sh c b k) := (moves_setShelf _ _ _).trans (moves_join _ _)

theorem moves_dropPending (s : State) (sh : ShelfId) (c : PortId) : Moves s (s.dropPending sh c) :=
  (moves_setShelf _ _ _).trans (moves_leaveQueue _ _)

theorem moves_bridge (s : State) (sh : ShelfId) (c : PortId) (k : Cause) : Moves s (s.bridge sh c k) :=
  (moves_leaveQueue _ _).trans (moves_enterState _ _ _ _ _)

theorem moves_unbridge (s : State) (sh : ShelfId) (c : PortId) : Moves s (s.unbridge sh c) :=
  moves_enterState _ _ _ _ _

theorem moves_loseSteering (s : State) (sh : ShelfId) : Moves s (s.loseSteering sh) :=
  (moves_setSteering _ _ _).trans (moves_raiseShelf _ _ _)

theorem moves_applySwitchRule (s : State) (sh : ShelfId) (c : PortId) :
    Moves s (s.applySwitchRule sh c) := by
  unfold State.applySwitchRule
  split
  · exact moves_gainPending _ _ _ _ _
  · split
    · exact moves_dropPending _ _ _
    · exact .refl _

theorem moves_loseReference (s : State) (sh : ShelfId) (c : PortId) (x : Ctx) :
    Moves s (s.loseReference sh c x) := by
  unfold State.loseReference
  split
  · split
    · exact moves_reselect _ _ _
    · exact moves_bridge _ _ _ _
  · exact moves_reselect _ _ _

theorem moves_actQueued (s : State) (sh : ShelfId) (t : PortId) (x : Ctx) :
    Moves s (s.actQueued sh t x) := by
  unfold State.actQueued
  split
  · exact moves_reselect _ _ _
  · split
    · split
      · exact .refl _
      · exact moves_enterState _ _ _ _ _
    · exact moves_rest _ _ _

theorem moves_actLocked (s : State) (sh : ShelfId) (c : PortId) (x : Ctx) :
    Moves s (s.actLocked sh c x) := by
  unfold State.actLocked
  split
  · exact moves_applySwitchRule _ _ _
  · exact moves_loseReference _ _ _ _

theorem moves_actBridge (s : State) (sh : ShelfId) (c : PortId) (x : Ctx) :
    Moves s (s.actBridge sh c x) := by
  unfold State.actBridge
  split
  · exact (moves_unbridge _ _ _).trans (moves_applySwitchRule _ _ _)
  · split
    · exact .refl _
    · exact moves_reselect _ _ _

theorem moves_actAuto (s : State) (sh : ShelfId) (x : Ctx) : Moves s (s.actAuto sh x) := by
  unfold State.actAuto
  split
  · exact .refl _
  · exact .refl _
  · split
    · exact moves_toward _ _ _ _
    · exact .refl _
  · split
    · exact moves_toward _ _ _ _
    · exact .refl _
  · exact moves_actQueued _ _ _ _
  · split
    · exact .refl _
    · exact moves_reselect _ _ _
  · exact moves_actLocked _ _ _ _
  · exact moves_actBridge _ _ _ _

theorem moves_actUnsteered (s : State) (sh : ShelfId) (x : Ctx) : Moves s (s.actUnsteered sh x) := by
  unfold State.actUnsteered
  dsimp only
  refine (moves_loseSteering s sh).trans ?_
  split
  · exact (moves_dropPending _ _ _).trans (moves_actAuto _ _ _)
  · exact moves_actAuto _ _ _

theorem moves_actSteer (s : State) (sh : ShelfId) (p : PortId) (x : Ctx) :
    Moves s (s.actSteer sh p x) := by
  unfold State.actSteer
  repeat' split
  all_goals
    first
    | exact .refl _
    | exact moves_bridge _ _ _ _
    | exact moves_unbridge _ _ _
    | exact moves_toward _ _ _ _
    | exact moves_actUnsteered _ _ _

theorem moves_actPin (s : State) (sh : ShelfId) (p : PortId) (x : Ctx) : Moves s (s.actPin sh p x) := by
  unfold State.actPin State.actPinActive State.actPinInactive
  repeat' split
  all_goals
    first
    | exact .refl _
    | exact moves_bridge _ _ _ _
    | exact moves_unbridge _ _ _
    | exact moves_toward _ _ _ _
    | exact moves_rest _ _ _
    | exact moves_actUnsteered _ _ _

theorem moves_act (s : State) (sh : ShelfId) (x : Ctx) : Moves s (s.act sh x) := by
  unfold State.act
  split
  · exact moves_actAuto _ _ _
  · exact moves_actSteer _ _ _ _
  · exact moves_actPin _ _ _ _

theorem moves_foldl (f : State → ShelfId → State) (h : ∀ s sh, Moves s (f s sh)) (l : List ShelfId)
    (s : State) : Moves s (l.foldl f s) := by
  induction l generalizing s with
  | nil => exact .refl _
  | cons a l ih => exact (h s a).trans (ih _)

/-- Shelves acting in turn change only what one shelf's move can change, whatever the order (R80, R82). -/
theorem moves_inTurn (s : State) (l : List ShelfId) (f : State → ShelfId → State)
    (h : ∀ s sh, Moves s (f s sh)) : Moves s (s.inTurn l f) := by
  unfold State.inTurn
  split
  · exact (moves_count s _).trans (moves_foldl f h _ _)
  · exact moves_foldl f h _ _

theorem moves_meet (old s : State) (sh : ShelfId) (x : Ctx) : Moves s (State.meet old s sh x) := moves_act _ _ _

theorem moves_rerank (old s : State) (x : Ctx) : Moves s (State.rerank old s x) :=
  moves_inTurn _ _ _ fun _ _ => moves_meet _ _ _ _

/-! ## One property of every shelf and of the pool, carried through every move -/

/-- A property that one shelf's acting keeps is kept by shelves acting in turn, whatever the order. -/
theorem inTurn_keeps (P : State → Prop) (s : State) (l : List ShelfId) (f : State → ShelfId → State)
    (hcount : ∀ s n, P s → P { s with freeCount := n }) (h : ∀ s sh, P s → P (f s sh)) (hs : P s) :
    P (s.inTurn l f) := by
  have fold : ∀ (l : List ShelfId) (s : State), P s → P (l.foldl f s) := by
    intro l
    induction l with
    | nil => intro s hs; exact hs
    | cons a l ih => intro s hs; exact ih _ (h s a hs)
  unfold State.inTurn
  split
  · exact fold _ _ (hcount s _ hs)
  · exact fold _ _ hs

end Sys2Proof.Machine
end

