-- ==== Sys2Proof/Laws/Refresh.lean ====
section
/-!
SUPPORT. What bringing the kept records up to date changes (R71, R105, R152, R158): shelf records and outputs, and what
they then hold.
-/

namespace Sys2Proof.Machine

/-- Refreshing changes only shelf records and outputs. -/
theorem refresh_only (old s : State) :
    State.refresh old s =
      { s with shelves := (State.refresh old s).shelves, outputs := (State.refresh old s).outputs } := by
  simp only [State.refresh, State.refreshOutputs, State.syncValid, State.refreshNominees]

/-- A committed change alters, beyond the change itself, only shelves, pool, domain events, the free counter and
outputs. -/
theorem commit_only (old s : State) (x : Ctx) :
    State.commit old s x =
      { s with shelves := (State.commit old s x).shelves, units := (State.commit old s x).units,
               queue := (State.commit old s x).queue, domainEvents := (State.commit old s x).domainEvents,
               freeCount := (State.commit old s x).freeCount, outputs := (State.commit old s x).outputs } := by
  have h := (moves_rerank old s x).shelfOnly
  unfold State.commit
  generalize State.rerank old s x = t at h ⊢
  unfold ShelfOnly at h
  rw [h]
  simp only [State.refresh, State.refreshOutputs, State.syncValid, State.refreshNominees]

/-- Elapsed time changes only the clock, ports, grade timers, shelves and the oscillator monitor. -/
theorem elapse_only (s : State) (d : Nat) :
    s.elapse d = { s with now := (s.elapse d).now, ports := (s.elapse d).ports, grades := (s.elapse d).grades,
                          shelves := (s.elapse d).shelves, osc := (s.elapse d).osc } := by
  unfold State.elapse
  split
  · rfl
  · simp only [State.syncValid]

/-- No time, no change. -/
@[simp] theorem elapse_zero (s : State) : s.elapse 0 = s := by simp [State.elapse]

/-- The clock counts the time that passes. -/
theorem elapse_now (s : State) (d : Nat) : (s.elapse d).now = s.now + d := by
  unfold State.elapse
  split
  · omega
  · rfl

/-- Validity after it is judged again (R105). -/
theorem syncValid_valid (s : State) (sh : ShelfId) : (s.syncValid).shelves[sh].valid = s.holdoverValid sh := by
  simp [State.syncValid]

/-- Judging validity changes nothing else of a shelf record. -/
theorem syncValid_shelf (s : State) (sh : ShelfId) :
    (s.syncValid).shelves[sh] = { s.shelves[sh] with valid := s.holdoverValid sh } := by
  simp [State.syncValid]

/-- Judging validity does not change the condition it judges. -/
theorem syncValid_holdoverValid (s : State) (sh : ShelfId) : s.syncValid.holdoverValid sh = s.holdoverValid sh := by
  simp [State.holdoverValid, State.syncValid, State.shelfRecord, State.shelfDomain]

/-- Nominees are the only part of a shelf record that refreshing them changes (R71). -/
theorem refreshNominees_shelf (s : State) (sh : ShelfId) :
    (s.refreshNominees).shelves[sh] =
      { s.shelves[sh] with state := if s.shelves[sh].state.isHeld then .held (s.nomineeOf sh)
                                    else s.shelves[sh].state } := by
  simp [State.refreshNominees]

/-- A refreshed shelf is HELD exactly if it was. -/
theorem refreshNominees_isHeld (s : State) (sh : ShelfId) :
    (s.refreshNominees).shelves[sh].state.isHeld = s.shelves[sh].state.isHeld := by
  rw [refreshNominees_shelf]
  by_cases h : s.shelves[sh].state.isHeld = true
  · rw [if_pos h, h]
    rfl
  · rw [if_neg h]

/-- Every output after a refresh is rebuilt, with its send timing (R152, R158, R160). -/
theorem refreshOutputs_get (old s : State) (sh : ShelfId) :
    (State.refreshOutputs old s).outputs[sh] =
      (State.rebuilt old s sh).retime old.outputs[sh].active.enabled s.now := by
  simp [State.refreshOutputs]

/-- Send timing touches neither the setup, the drive, the tracker nor the message (R160, R161). -/
theorem retime_fields (o : Output) (was : Bool) (now : Nat) :
    (o.retime was now).active = o.active ∧ (o.retime was now).pendingSetup = o.pendingSetup ∧
      (o.retime was now).drive = o.drive ∧ (o.retime was now).reason = o.reason ∧
      (o.retime was now).tracker = o.tracker ∧ (o.retime was now).outgoing = o.outgoing ∧
      (o.retime was now).frozen = o.frozen := by
  unfold Output.retime
  split
  · exact ⟨rfl, rfl, rfl, rfl, rfl, rfl, rfl⟩
  · unfold Output.sendNow
    split
    · exact ⟨rfl, rfl, rfl, rfl, rfl, rfl, rfl⟩
    · unfold Output.startMessage
      split <;> exact ⟨rfl, rfl, rfl, rfl, rfl, rfl, rfl⟩
  · exact ⟨rfl, rfl, rfl, rfl, rfl, rfl, rfl⟩
  · exact ⟨rfl, rfl, rfl, rfl, rfl, rfl, rfl⟩

/-- The message of a fixed level is SHUN with the own identifier alone; a disabled output has none (R157). -/
theorem messageFor_fixed (s : State) (sh : ShelfId) (drive : Drive) (frozen : Option GradeMsg)
    (h : drive.fixed = true) : s.messageFor sh true drive frozen = some (shunMsg s.nodeId) := by
  cases drive <;> first | rfl | exact absurd h (by decide)

/-- R157 for a refreshed output. -/
theorem refreshOutputs_shun (old s : State) (sh : ShelfId) :
    (((State.refreshOutputs old s).outputs[sh].active.enabled = true →
      (State.refreshOutputs old s).outputs[sh].drive.fixed = true →
      (State.refreshOutputs old s).outputs[sh].outgoing = some (shunMsg s.nodeId)) ∧
    ((State.refreshOutputs old s).outputs[sh].active.enabled = false →
      (State.refreshOutputs old s).outputs[sh].outgoing = none)) := by
  rw [refreshOutputs_get]
  obtain ⟨ha, _, hd, _, _, ho, _⟩ := retime_fields (State.rebuilt old s sh) old.outputs[sh].active.enabled s.now
  rw [ha, hd, ho]
  constructor
  · intro he hf
    simp only [State.rebuilt] at he hf ⊢
    rw [he]
    exact messageFor_fixed _ _ _ _ hf
  · intro he
    simp only [State.rebuilt] at he ⊢
    rw [he]
    rfl

end Sys2Proof.Machine
end

