-- ==== Sys2Proof/Laws/Executor.lean ====
section
/-!
SUPPORT. The path of a request: a ready port's request is taken at once and answered (R166, R171), and a port's state is
touched by nothing but the port's own traffic; what the openers of transactions mean (R188), and how a
partial frame is gone on with (R165).
-/

namespace Sys2Proof.Machine

/-- What `ready` says. -/
theorem ready_parts {s : State} {cp : ControlPort} (h : s.ready cp = true) :
    s.inReset = false ∧ s.carrying = none ∧ s.waiting (otherPort cp) = none ∧ ∀ w, (s.cpi cp).stage ≠ .working w := by
  simp only [State.ready, Bool.and_eq_true, Bool.not_eq_true', Option.isNone_iff_eq_none] at h
  obtain ⟨⟨⟨h1, h2⟩, h3⟩, h4⟩ := h
  refine ⟨h1, h2, h3, ?_⟩
  intro w hw
  rw [hw] at h4
  simp at h4

/-- A request that waits alone is taken by a free executor (R171). -/
theorem serve_takes (s : State) (cp : ControlPort) (r : Request) (hfree : s.carrying = none)
    (hw : s.waiting cp = some r) (ho : s.waiting (otherPort cp) = none) : s.serve = s.take cp r := by
  unfold State.serve
  rw [hfree]
  by_cases hp : s.preferred = cp
  · simp [hp, hw]
  · have hp' : otherPort s.preferred = cp := by
      revert hp
      generalize s.preferred = q
      cases q <;> cases cp <;> simp [otherPort]
    have hq : s.waiting s.preferred = none := by
      rw [← otherPort_otherPort s.preferred, hp']
      exact ho
    simp [hq, hp', hw]

/-- A request completing on a ready port is taken at once (R166, R171). -/
theorem complete_takes (s : State) (cp : ControlPort) (r : Request) (h : s.ready cp = true) :
    s.complete cp (.request r) = (s.arrived cp r).take cp r := by
  obtain ⟨_, h2, h3, h4⟩ := ready_parts h
  have hserve : (s.arrived cp r).serve = (s.arrived cp r).take cp r := by
    apply serve_takes
    · simp [State.arrived, h2]
    · simp [State.waiting, State.arrived]
    · simpa [State.waiting, State.arrived] using h3
  unfold State.complete
  split
  · rename_i w hw
    exact absurd hw (h4 w)
  · exact hserve
  · exact hserve

/-- A frame completed while the port is WORKING is dropped (R167). -/
theorem complete_drops (s : State) (cp : ControlPort) (c : Checked) (w : Option Request)
    (h : (s.cpi cp).stage = .working w) :
    s.complete cp c = s.setCpi cp { s.cpi cp with receiver := [], frameDropped := true } := by
  unfold State.complete
  rw [h]

/-- What taking a request other than RESTART leaves (R171). -/
theorem take_answers (s : State) (cp : ControlPort) (r : Request) (h : r ≠ .restart) :
    s.take cp r =
      ({ (s.answer cp r).1 with carrying := some (cp, (s.answer cp r).2.frame), prevSupplier := some cp } :
        State).setStage cp (.working none) := by
  unfold State.take
  simp [h]

/-- A refused request changes no state of any block (R172). -/
theorem answer_refused (s : State) (cp : ControlPort) (r : Request) (code : ResultCode)
    (h : s.precheck cp r = some code) : s.answer cp r = (s, Reply.plain code) := by
  unfold State.answer
  rw [h]

/-- A request that passes both checks goes on to its own rule (R172). -/
theorem answer_carried (s : State) (cp : ControlPort) (r : Request) (h : s.precheck cp r = none) :
    s.answer cp r = s.carryOut cp r := by
  unfold State.answer
  rw [h]

/-- The active port past INIT passes both checks (R172). -/
theorem precheck_active (s : State) (cp : ControlPort) (r : Request) (hp : s.phase ≠ .init) (ha : s.active = cp) :
    s.precheck cp r = none := by
  simp [State.precheck, hp, ha]

/-! ## Transactions -/

@[simp] theorem openerKind_frameWrite : openerKind 0x5A#8 = .frameWrite := by decide

@[simp] theorem openerKind_replyRead : openerKind 0xA5#8 = .replyRead := by decide

@[simp] theorem openerKind_resync : openerKind 0x3C#8 = .resync := by decide

/-- Any other opener opens a status-only transaction (R163, R188). -/
theorem openerKind_statusOnly (o : Byte) (h1 : o ≠ 0x5A#8) (h2 : o ≠ 0xA5#8) (h3 : o ≠ 0x3C#8) :
    openerKind o = .statusOnly := by
  unfold openerKind
  rw [if_neg h1, if_neg h2, if_neg h3]

@[simp] theorem transaction_frameWrite (s : State) (cp : ControlPort) (bytes : List Byte) :
    s.transaction cp 0x5A#8 bytes = s.frameWrite cp bytes := rfl

@[simp] theorem transaction_replyRead (s : State) (cp : ControlPort) (bytes : List Byte) :
    s.transaction cp 0xA5#8 bytes = s.replyRead cp bytes.length := rfl

@[simp] theorem transaction_resync (s : State) (cp : ControlPort) (bytes : List Byte) :
    s.transaction cp 0x3C#8 bytes = s.resync cp bytes.length := rfl

/-- A transaction opened by any other byte changes no state of the part (R163). -/
theorem transaction_statusOnly (s : State) (cp : ControlPort) (o : Byte) (bytes : List Byte) (h1 : o ≠ 0x5A#8)
    (h2 : o ≠ 0xA5#8) (h3 : o ≠ 0x3C#8) : s.transaction cp o bytes = s.shift cp [] bytes.length := by
  unfold State.transaction
  rw [openerKind_statusOnly o h1 h2 h3]
  rfl

/-- The bytes of a reply read or a resync are only counted. -/
@[simp] theorem fillerBytes_length (n : Nat) : (fillerBytes n).length = n := by simp [fillerBytes]

/-- No bytes leave the receiver as it is. -/
@[simp] theorem receiveFrame_nil (got : List Byte) : receiveFrame got [] = (got, none) := by
  cases got <;> rfl

/-- Receiving no bytes changes nothing. -/
@[simp] theorem receive_nil (s : State) (cp : ControlPort) : s.receive cp [] = s := by
  unfold State.receive
  rw [receiveFrame_nil]
  cases cp <;> rfl

/-- Bytes start a new frame only after a RESTART frame (R179): after any other frame, or none, there are none. -/
theorem afterRestart_nil (s : State) (cp : ControlPort) (bytes : List Byte)
    (h : ∀ got frame, receiveFrame (s.cpi cp).receiver bytes = (got, some frame) →
      checkFrame frame ≠ .request .restart) : s.afterRestart cp bytes = [] := by
  unfold State.afterRestart
  split
  · rename_i got frame hf
    split
    · rename_i hc _
      exact absurd hc (h got frame hf)
    · rfl
  · rfl

/-- A FRAME WRITE whose frame is not a RESTART shifts out, and its bytes go to the receiver (R165). -/
theorem frameWrite_receives (s : State) (cp : ControlPort) (bytes : List Byte)
    (h : ∀ got frame, receiveFrame ((s.shift cp [] bytes.length).cpi cp).receiver bytes = (got, some frame) →
      checkFrame frame ≠ .request .restart) :
    s.frameWrite cp bytes = (s.shift cp [] bytes.length).receive cp bytes := by
  unfold State.frameWrite
  simp only [afterRestart_nil _ cp bytes h, receive_nil]

/-- Bytes that leave a frame partial are collected behind those the receiver holds. -/
theorem receiveFrame_collects (len : Byte) (got more bytes : List Byte) (h : got.length + more.length + 1 < len.toNat) :
    receiveFrame (len :: got) (more ++ bytes) = receiveFrame (len :: (got ++ more)) bytes := by
  induction more generalizing got with
  | nil => simp
  | cons b more ih =>
    simp only [List.length_cons] at h
    rw [List.cons_append, receiveFrame, if_pos (by omega), ih (got ++ [b]) (by simp; omega)]
    simp

/-- A partial frame written to an empty receiver is gone on with as one that it holds (R165). -/
theorem receiveFrame_partial (len : Byte) (got bytes : List Byte) (h4 : 4 ≤ len.toNat)
    (h : got.length + 1 < len.toNat) : receiveFrame [] (len :: got ++ bytes) = receiveFrame (len :: got) bytes := by
  rw [List.cons_append, receiveFrame, if_neg (by omega),
    receiveFrame_collects len [] got bytes (by simp only [List.length_nil]; omega), List.nil_append]

end Sys2Proof.Machine
end

