-- ==== Sys2Proof/Laws/Ports.lean ====
section
/-!
SUPPORT. What the port and grade operations change: the qualification decision, leaving UP, writing a record with its
events, judging a grade.
-/

namespace Sys2Proof.Machine

/-- Writing a port record changes the record and at most the domain events (R17). -/
theorem putPort_only (s : State) (p : PortId) (r : Port) :
    s.putPort p r = { s with ports := (s.putPort p r).ports, domainEvents := (s.putPort p r).domainEvents } := by
  unfold State.putPort
  split
  · rfl
  · unfold State.raisePort State.raiseIn
    split <;> rfl

@[simp] theorem putPort_ports (s : State) (p : PortId) (r : Port) : (s.putPort p r).ports = s.ports.set p r := by
  unfold State.putPort
  split
  · rfl
  · simp only [raisePort_ports]
    rfl

/-- Writing a grade record changes the record and at most the domain events (R36). -/
theorem putGrade_only (s : State) (p : PortId) (g : Grade) :
    s.putGrade p g =
      { s with grades := (s.putGrade p g).grades, domainEvents := (s.putGrade p g).domainEvents } := by
  unfold State.putGrade State.raisePort State.raiseIn
  dsimp only
  repeat' split
  all_goals rfl

@[simp] theorem putGrade_grades (s : State) (p : PortId) (g : Grade) :
    (s.putGrade p g).grades = s.grades.set p g := by
  unfold State.putGrade
  dsimp only
  repeat' split
  all_goals first | rfl | (simp only [raisePort_grades]; rfl)

/-- The qualification decision sends a port to UP or to QUALIFYING with a running timer (R9). -/
theorem qualify_cases (s : State) (p : PortId) (r : Port) :
    s.qualify p r = { r with state := .up, restoreLeft := none } ∨
      ∃ d, s.portDomain p = some d ∧ s.phase = .running ∧ s.domains[d].restoreTime ≠ 0 ∧
        r.waived s.now = false ∧
        s.qualify p r =
          { r with state := .qualifying, restoreLeft := some (s.domains[d].restoreTime * 1000) } := by
  unfold State.qualify
  split
  · rename_i d hd
    split
    · exact Or.inl rfl
    · rename_i h
      simp only [Bool.or_eq_true, bne_iff_ne, ne_eq, beq_iff_eq, not_or, Bool.not_eq_true, not_not] at h
      exact Or.inr ⟨d, hd, h.1.2, h.2, h.1.1, rfl⟩
  · exact Or.inl rfl

/-- In INIT and HELD every qualification decision sends the port to UP (R15). -/
theorem qualify_waived (s : State) (p : PortId) (r : Port) (h : s.phase ≠ .running) :
    s.qualify p r = { r with state := .up, restoreLeft := none } := by
  rcases qualify_cases s p r with h' | ⟨_, _, h', _⟩
  · exact h'
  · exact absurd h' h

/-- Leaving UP touches only DROPPED and the waiver deadline (R12). -/
theorem leaveUp_only (s : State) (p : PortId) (r : Port) :
    s.leaveUp p r = { r with dropped := (s.leaveUp p r).dropped, waiver := (s.leaveUp p r).waiver } := by
  unfold State.leaveUp
  split <;> rfl

/-- A window runs exactly under the conditions of R4. -/
theorem syncWindow_window (r : Port) (may : Bool) :
    (r.syncWindow may).window.isSome = (r.setup.enabled && r.activity && may) := by
  unfold Port.syncWindow
  cases h : (r.setup.enabled && r.activity && may) <;> simp

/-- R28, R29: after a valid message a pending grade is better than the accepted grade, is the grade received, and has a
count below the confirm count. -/
theorem judge_pending (g : Grade) (confirm received : Nat) (v n : Nat)
    (h : (g.judge confirm received).2 = some (v, n)) :
    v = received ∧ received ≠ 0 ∧ received ≠ 15 ∧ gradeRank v < gradeRank (g.judge confirm received).1 ∧
      1 ≤ n ∧ n < confirm := by
  unfold Grade.judge at h ⊢
  by_cases h0 : (decide (received = 0) || decide (received = 15) || decide (gradeRank g.accepted ≤ gradeRank received)) = true
  · rw [if_pos h0] at h
    cases h
  · rw [if_neg h0] at h ⊢
    simp only [Bool.or_eq_true, decide_eq_true_eq, not_or, not_le] at h0
    by_cases h1 : confirm ≤ 1
    · rw [if_pos h1] at h
      cases h
    · rw [if_neg h1] at h ⊢
      cases hp : g.pendingGrade with
      | none =>
        simp only [hp, Option.some.injEq, Prod.mk.injEq] at h ⊢
        obtain ⟨rfl, rfl⟩ := h
        exact ⟨rfl, h0.1.1, h0.1.2, h0.2, le_refl _, by omega⟩
      | some pair =>
        obtain ⟨value, count⟩ := pair
        simp only [hp] at h ⊢
        by_cases h2 : value = received
        · by_cases h3 : confirm ≤ count + 1
          · simp [h2, h3] at h
          · simp only [h2, h3, if_true, if_false, Option.some.injEq, Prod.mk.injEq] at h ⊢
            obtain ⟨rfl, rfl⟩ := h
            exact ⟨rfl, h0.1.1, h0.1.2, h0.2, by omega, by omega⟩
        · simp only [h2, if_false, Option.some.injEq, Prod.mk.injEq] at h ⊢
          obtain ⟨rfl, rfl⟩ := h
          exact ⟨rfl, h0.1.1, h0.1.2, h0.2, le_refl _, by omega⟩

end Sys2Proof.Machine
end

