-- ==== Sys2Proof/Laws/Turns.lean ====
section
/-!
SUPPORT. Several shelves in one change: they act in some order of exactly the shelves reached (R80, R82), and a committed
change is such a turn followed by the records that are kept up to date (R68).
-/

namespace Sys2Proof.Machine

/-- Inserting a shelf by its turn adds that shelf. -/
theorem insertTurn_perm (n : Nat) (sh : ShelfId) (l : List ShelfId) : (insertTurn n sh l).Perm (sh :: l) := by
  induction l with
  | nil => exact .refl _
  | cons x rest ih =>
    unfold insertTurn
    split
    · exact .refl _
    · exact (ih.cons x).trans (.swap sh x rest)

/-- The order of free turns is an order of the same shelves. -/
theorem turnOrder_perm (n : Nat) (l : List ShelfId) : (turnOrder n l).Perm l := by
  induction l with
  | nil => exact .refl _
  | cons x rest ih => exact (insertTurn_perm n x (turnOrder n rest)).trans (ih.cons x)

/-- Shelves of one change act one after the other in some order, from the part with some value of the free counter. -/
theorem inTurn_order (s : State) (acting : List ShelfId) (f : State → ShelfId → State) :
    ∃ (order : List ShelfId) (n : Nat),
      order.Perm acting ∧ s.inTurn acting f = order.foldl f { s with freeCount := n } := by
  unfold State.inTurn
  split
  · exact ⟨turnOrder s.freeCount acting, s.freeCount + 1, turnOrder_perm _ _, rfl⟩
  · exact ⟨acting, s.freeCount, .refl _, rfl⟩

/-- What refreshing leaves of a shelf record: the nominee and the validity are renewed (R71, R105). -/
theorem refresh_shelf (old s : State) (sh : ShelfId) :
    (State.refresh old s).shelves[sh] =
      { s.shelves[sh] with
        state := if s.shelves[sh].state.isHeld then .held (s.nomineeOf sh) else s.shelves[sh].state,
        valid := s.refreshNominees.holdoverValid sh } := by
  have h : (State.refresh old s).shelves[sh] = (s.refreshNominees.syncValid).shelves[sh] := rfl
  rw [h, syncValid_shelf, refreshNominees_shelf]

/-- A shelf keeps its record where nothing happens. -/
theorem ShelfKept.refl (s : State) (sh : ShelfId) : ShelfKept s s sh := ⟨rfl, .inl rfl⟩

/-- A shelf that keeps its record twice keeps it. -/
theorem ShelfKept.trans {s t u : State} {sh : ShelfId} (h : ShelfKept s t sh) (k : ShelfKept t u sh) :
    ShelfKept s u sh := by
  refine ⟨by rw [k.1, h.1], ?_⟩
  rcases k.2 with e | ⟨e, f⟩
  · rcases h.2 with d | d
    · exact .inl (e.trans d)
    · exact .inr ⟨d.1, by rw [e]; exact d.2⟩
  · rcases h.2 with d | d
    · exact .inr ⟨by rw [← d]; exact e, f⟩
    · exact .inr ⟨d.1, f⟩

/-- A shelf that keeps its record is undisturbed. -/
theorem ShelfKept.undisturbed {s t : State} {sh : ShelfId} (h : ShelfKept s t sh) : Undisturbed s t sh := .inl h

/-- A shelf that keeps its record keeps its last cause and its changed flag. -/
theorem ShelfKept.marksKept {s t : State} {sh : ShelfId} (h : ShelfKept s t sh) : MarksKept s t sh :=
  ⟨by rw [h.1], by rw [h.1]⟩

/-- Refreshing keeps every shelf's record but for its validity and, in HELD, its nominee. -/
theorem refresh_shelfKept (old s : State) (sh : ShelfId) : ShelfKept s (State.refresh old s) sh := by
  rw [ShelfKept, refresh_shelf]
  refine ⟨rfl, ?_⟩
  by_cases h : s.shelves[sh].state.isHeld = true
  · exact .inr ⟨h, by simp only [if_pos h]; rfl⟩
  · exact .inl (by simp only [if_neg h])

/-- Refreshing touches neither units nor queue, and raises nothing. -/
theorem refresh_pool (old s : State) :
    (State.refresh old s).units = s.units ∧ (State.refresh old s).queue = s.queue ∧
      (State.refresh old s).domainEvents = s.domainEvents := by
  simp only [State.refresh, State.refreshOutputs, State.syncValid, State.refreshNominees, and_self]

/-- Refreshing moves no shelf. -/
theorem refresh_shelvesKept (old s : State) : ShelvesKept s (State.refresh old s) :=
  have h := refresh_pool old s
  ⟨h.1, h.2.1, h.2.2, refresh_shelfKept old s⟩

/-- An enabled output has a message, whatever its drive (R154, R157). -/
theorem messageFor_enabled (s : State) (sh : ShelfId) (drive : Drive) (frozen : Option GradeMsg) :
    ∃ m, s.messageFor sh true drive frozen = some m := by
  cases drive <;> exact ⟨_, rfl⟩

/-- What a refresh makes of an output's sending, where the change it follows left the sending alone (R158, R160, R161). -/
theorem refreshOutputs_follows (old s : State) (sh : ShelfId) (hs : s.outputs[sh].sending = old.outputs[sh].sending)
    (hl : s.outputs[sh].lastSent = old.outputs[sh].lastSent) (ht : s.outputs[sh].lastStart = old.outputs[sh].lastStart)
    (hd : s.outputs[sh].sendDue = old.outputs[sh].sendDue)
    (hm : s.outputs[sh].changedMark = old.outputs[sh].changedMark) :
    TransmitterFollows old.outputs[sh] (State.refreshOutputs old s).outputs[sh] s.now := by
  rw [refreshOutputs_get]
  have hout : ∀ e, (State.rebuilt old s sh).active.enabled = e →
      (State.rebuilt old s sh).outgoing = s.messageFor sh e (State.rebuilt old s sh).drive (State.rebuilt old s sh).frozen :=
    fun e he => he ▸ rfl
  have hs' : (State.rebuilt old s sh).sending = old.outputs[sh].sending := hs
  have hl' : (State.rebuilt old s sh).lastSent = old.outputs[sh].lastSent := hl
  have ht' : (State.rebuilt old s sh).lastStart = old.outputs[sh].lastStart := ht
  have hd' : (State.rebuilt old s sh).sendDue = old.outputs[sh].sendDue := hd
  have hm' : (State.rebuilt old s sh).changedMark = old.outputs[sh].changedMark := hm
  clear hs hl ht hd hm
  generalize State.rebuilt old s sh = r at *
  generalize old.outputs[sh] = o at *
  cases hw : o.active.enabled <;> cases hn : r.active.enabled
  · simp [TransmitterFollows, Output.retime, hw, hn, hs', hl', ht', hd', hm']
    exact fun h => .inl h
  · obtain ⟨m, hmsg⟩ := messageFor_enabled s sh r.drive r.frozen
    have ho : r.outgoing = some m := (hout true hn).trans hmsg
    cases hsend : o.sending <;>
      simp [TransmitterFollows, Output.retime, Output.sendNow, Output.remark, Output.startMessage, hw, hn, hs', hl', ho,
        hsend]
  · simp [TransmitterFollows, Output.retime, hw, hn, hs', hl', hout false hn, State.messageFor]
  · simp [TransmitterFollows, Output.retime, Output.remark, hw, hn, hs', hl', ht', hd', hm']
    exact fun h => .inl h

/-! ## What a ranking depends on (R67) -/

/-- Two parts agree on every ranking input of R67. -/
def SameInputs (s t : State) : Prop :=
  t.ports = s.ports ∧ t.grades = s.grades ∧ t.current = s.current ∧ t.domains = s.domains ∧ t.lists = s.lists ∧
    t.cells = s.cells

/-- Reasons, eligibility and admissibility come from the inputs. -/
theorem SameInputs.verdicts {s t : State} (h : SameInputs s t) (sh : ShelfId) :
    t.verdicts sh = s.verdicts sh ∧ (∀ p, t.eligible sh p = s.eligible sh p) ∧
      (∀ p, t.admissible sh p = s.admissible sh p) ∧ ∀ p, t.sameDomain sh p = s.sameDomain sh p := by
  obtain ⟨h1, h2, h3, h4, h5, h6⟩ := h
  have hl : ∀ d p, t.laterReason sh d p = s.laterReason sh d p := by
    intro d p
    unfold State.laterReason State.effectiveGrade State.barred
    rw [h2, h4, h5, h6]
  have hd : t.shelfDomain sh = s.shelfDomain sh := by simp only [State.shelfDomain, h3]
  have hp : ∀ p, t.portDomain p = s.portDomain p := fun p => by simp only [State.portDomain, h3]
  have hv : ∀ d p, t.verdict sh d p = s.verdict sh d p := by
    intro d p
    simp only [State.verdict, h1, hl]
  have ha : ∀ p, t.admissible sh p = s.admissible sh p := by
    intro p
    simp only [State.admissible, hd, hp, hl]
  refine ⟨?_, fun p => ?_, ha, fun p => ?_⟩
  · simp only [State.verdicts, State.portsOf, hd, hp]
    split
    · exact List.map_congr_left fun p _ => hv _ p
    · rfl
  · simp only [State.eligible, h1, ha]
  · simp only [State.sameDomain, hd, hp]

/-- The eligible list comes from the inputs. -/
theorem SameInputs.eligibleList {s t : State} (h : SameInputs s t) (sh : ShelfId) :
    t.eligibleList sh = s.eligibleList sh := by
  obtain ⟨_, he, _, _⟩ := h.verdicts sh
  obtain ⟨_, h2, h3, h4, h5, _⟩ := h
  have hf : ∀ (d : DomainId) (l : List PortId) (n : Nat), t.entriesFrom sh d n l = s.entriesFrom sh d n l := by
    intro d l
    induction l with
    | nil => exact fun _ => rfl
    | cons p rest ih =>
      intro n
      simp only [State.entriesFrom, he, ih, State.entry, h2, h4]
  simp only [State.eligibleList, State.shelfDomain, h3, h5, hf]

/-- What a shelf is handed comes from the inputs and its own steering (R67, R70). -/
theorem SameInputs.handed {s t : State} (h : SameInputs s t) (sh : ShelfId)
    (hs : t.shelves[sh].steering = s.shelves[sh].steering) : t.handed sh = s.handed sh := by
  obtain ⟨hv, _, _, hd⟩ := h.verdicts sh
  simp only [State.handed, h.eligibleList sh, hv, hs, hd, h.1]

/-- Whether a change takes a shelf's reference away comes from the inputs and the reference. -/
theorem SameInputs.ceased {s t : State} (h : SameInputs s t) (u : State) (sh : ShelfId)
    (hs : t.shelves[sh].state = s.shelves[sh].state) : State.ceased u t sh = State.ceased u s sh := by
  obtain ⟨_, he, _, hd⟩ := h.verdicts sh
  have hb : ∀ p, t.barred sh p = s.barred sh p := fun p => by simp only [State.barred, h.2.2.2.2.2]
  simp only [State.ceased, hs, he, hd, hb, h.1]

/-- The best candidate is a port of the list of the shelf's domain, and eligible (R62, R65). -/
theorem best_listed {s : State} {sh : ShelfId} {b : PortId} (h : s.best sh = some b) :
    s.eligible sh b = true ∧ ∃ d, s.shelfDomain sh = some d ∧ b ∈ s.lists[d] := by
  have hins : ∀ (e x : Entry) (l : List Entry), x ∈ insertEntry e l → x = e ∨ x ∈ l := by
    intro e x l
    induction l with
    | nil => simp [insertEntry]
    | cons f rest ih =>
      unfold insertEntry
      split
      · simp
      · simp only [List.mem_cons]
        rintro (rfl | hx)
        · exact .inr (.inl rfl)
        · exact (ih hx).imp_right .inr
  have hsort : ∀ (x : Entry) (l : List Entry), x ∈ sortEntries l → x ∈ l := by
    intro x l
    induction l with
    | nil => exact id
    | cons e rest ih => exact fun hx => (hins e x _ hx).elim (· ▸ .head _) fun hr => .tail _ (ih hr)
  have hfrom : ∀ (d : DomainId) (x : Entry) (l : List PortId) (n : Nat), x ∈ s.entriesFrom sh d n l →
      x.port ∈ l ∧ s.eligible sh x.port = true := by
    intro d x l
    induction l with
    | nil => intro n hx; cases hx
    | cons p rest ih =>
      intro n
      unfold State.entriesFrom
      split
      · rename_i he
        simp only [List.mem_cons]
        rintro (rfl | hx)
        · exact ⟨.inl rfl, he⟩
        · exact ⟨.inr (ih _ hx).1, (ih _ hx).2⟩
      · exact fun hx => ⟨.tail _ (ih _ hx).1, (ih _ hx).2⟩
  obtain ⟨e, he, rfl⟩ := Option.map_eq_some_iff.mp h
  have hm : e ∈ s.eligibleList sh := List.mem_of_mem_head? he
  unfold State.eligibleList at hm
  split at hm
  · rename_i d hd
    obtain ⟨hl, hel⟩ := hfrom d e _ _ (hsort e _ hm)
    exact ⟨hel, d, hd, hl⟩
  · cases hm

/-- A committed change makes exactly the shelves it hands something new act (R68). `t` is the part after the change,
which may also hold the reply of the request that made it. -/
theorem commit_actsOnChange (u v t : State) (x : Ctx) (hr : RequestConsequences v t) (hs : v.shelves = u.shelves)
    (hu : v.units = u.units) (hq : v.queue = u.queue)
    (he : ∀ d k, v.masked d k = u.masked d k ∧
      (k ≠ .port → k ≠ .grade → k ≠ .loop → v.latched d k = u.latched d k))
    (hp : EventsOfPorts u v) (te : t.domainEvents = (State.commit u v x).domainEvents) (ts : t.shelves = (State.commit u v x).shelves)
    (tu : t.units = (State.commit u v x).units) (tq : t.queue = (State.commit u v x).queue) : ActsOnChange u t x := by
  obtain ⟨order, n, hperm, ho⟩ := inTurn_order v (State.handedNew u v) (fun s sh => State.meet u s sh x)
  have hw : State.rerank u v x = order.foldl (fun w sh => State.meet u w sh x) { v with freeCount := n } := ho
  have hp' : order.Perm ((List.finRange 48).filter fun sh =>
      u.handed sh != ({ v with freeCount := n } : State).handed sh) := by
    have hh : ∀ sh : ShelfId, ({ v with freeCount := n } : State).handed sh = v.handed sh := fun sh =>
      SameInputs.handed (s := v) (t := { v with freeCount := n }) ⟨rfl, rfl, rfl, rfl, rfl, rfl⟩ sh rfl
    simp only [hh]
    exact hperm
  obtain ⟨hu', hq', he'⟩ := refresh_pool u (State.rerank u v x)
  refine ⟨{ v with freeCount := n }, State.rerank u v x, ?_, hs, hu, hq, he, hp, ⟨order, hp', hw⟩, tu.trans hu',
    tq.trans hq', te.trans he', ?_⟩
  · unfold RequestConsequences at hr ⊢
    rw [hr]
  · intro sh
    have hsh : t.shelves[sh] = (State.refresh u (State.rerank u v x)).shelves[sh] := by
      rw [ts]
      rfl
    have hk := refresh_shelfKept u (State.rerank u v x) sh
    unfold ShelfKept at hk ⊢
    rwa [hsh]

end Sys2Proof.Machine
end

