-- ==== Sys2Proof/Laws/Requests.lean ====
section
/-!
SUPPORT. What shelves do for a request, a release, a fault of the oscillator or an event of their own are moves
(Laws/Moves.lean): one lemma for each operation outside Machine/Moves.lean.
-/

namespace Sys2Proof.Machine

/-! ## Steering requests -/

theorem moves_steerTo (s : State) (sh : ShelfId) (p : PortId) : Moves s (s.steerTo sh p) := by
  unfold State.steerTo
  repeat' split
  all_goals
    first
    | with_reducible exact .refl _
    | with_reducible exact moves_dropPending _ _ _
    | with_reducible exact moves_gainPending _ _ _ _ _
    | with_reducible exact moves_toward _ _ _ _

theorem moves_pinTo (s : State) (sh : ShelfId) (p : PortId) : Moves s (s.pinTo sh p) := by
  unfold State.pinTo State.pinToLive State.pinToQuiet
  repeat' split
  all_goals
    first
    | with_reducible exact .refl _
    | with_reducible exact moves_dropPending _ _ _
    | with_reducible exact moves_gainPending _ _ _ _ _
    | with_reducible exact moves_toward _ _ _ _
    | with_reducible exact moves_unbridge _ _ _
    | with_reducible exact moves_rest _ _ _

theorem moves_markCleared (s : State) (sh : ShelfId) : Moves s (s.markCleared sh) := by
  unfold State.markCleared
  split
  · exact fun _ C h => C.shelf _ _ _ h
  · exact .refl _

theorem moves_unsteer (s : State) (sh : ShelfId) : Moves s (s.unsteer sh) := by
  unfold State.unsteer
  split
  · exact ((moves_dropPending _ _ _).trans (moves_actLocked _ _ _ _)).trans (moves_markCleared _ _)
  · split
    · exact .refl _
    · exact moves_reselect _ _ _
  · split
    · exact .refl _
    · exact moves_reselect _ _ _
  · exact moves_actAuto _ _ _

/-! ## Partitions and settings -/

theorem moves_moveShelf (old s : State) (sh : ShelfId) : Moves s (State.moveShelf old s sh) := by
  unfold State.moveShelf
  dsimp only
  have h : Moves s (if s.shelves[sh].steering = .auto then s else s.loseSteering sh) := by
    split
    · exact .refl _
    · exact moves_loseSteering _ _
  refine h.trans ?_
  generalize (if s.shelves[sh].steering = .auto then s else s.loseSteering sh) = t
  repeat' split
  all_goals
    first
    | with_reducible exact .refl _
    | with_reducible exact moves_park _ _ _
    | with_reducible exact moves_reselect _ _ _
    | with_reducible exact moves_actAuto _ _ _

theorem moves_keepShelf (old s : State) (sh : ShelfId) : Moves s (State.keepShelf old s sh) := by
  unfold State.keepShelf
  repeat' split
  all_goals
    first
    | with_reducible exact moves_meet _ _ _ _
    | with_reducible exact moves_actUnsteered _ _ _

theorem moves_applyToShelf (old s : State) (sh : ShelfId) : Moves s (State.applyToShelf old s sh) := by
  unfold State.applyToShelf
  split
  · exact moves_keepShelf _ _ _
  · exact moves_moveShelf _ _ _

/-- In an apply a shelf that stays, and its steering port with it, acts on its ranking (R48). -/
theorem applyToShelf_stays {old s : State} {sh : ShelfId} (hd : old.shelfDomain sh = s.shelfDomain sh)
    (hp : ∀ p, s.shelves[sh].steering.port? = some p → s.sameDomain sh p = true) :
    State.applyToShelf old s sh = State.meet old s sh Ctx.failing := by
  rw [State.applyToShelf, if_pos hd, State.keepShelf]
  split
  · exact if_pos (hp _ ‹_›)
  · rfl

/-- While the shelves of an apply take their turns nothing changes but what `ShelfOnly` names (R47, R48). -/
theorem applyTurns_shelfOnly (old s : State) (order : List ShelfId) :
    ShelfOnly s (order.foldl (State.applyToShelf old) s) :=
  (moves_foldl _ (moves_applyToShelf old) order s).shelfOnly

/-- Under the partition and lists that an apply leaves, a shelf's best candidate was a port of that domain before: a port
that arrives is not listed (R46). -/
theorem repartition_best {s v : State} {sh : ShelfId} {b : PortId} (hs : s.listsSound)
    (hl : v.lists = s.repartition.lists) (h : v.best sh = some b) :
    ∃ d, v.shelfDomain sh = some d ∧ s.portDomain b = some d := by
  obtain ⟨_, d, hd, hb⟩ := best_listed h
  refine ⟨d, hd, (hs d).1 b ?_⟩
  rw [hl] at hb
  simp only [State.repartition, Fin.getElem_fin, Vector.getElem_ofFn, List.mem_filter] at hb
  exact hb.1

theorem moves_judgeShelf (s : State) (sh : ShelfId) : Moves s (s.judgeShelf sh) := by
  unfold State.judgeShelf
  repeat' split
  all_goals
    first
    | with_reducible exact .refl _
    | with_reducible exact moves_enterRest _ _ _

theorem moves_judgeShelves (s : State) : Moves s s.judgeShelves := moves_foldl _ moves_judgeShelf _ _

/-! ## Release, the fault latch and timed events of a shelf -/

theorem moves_releaseShelf (s : State) (sh : ShelfId) : Moves s (s.releaseShelf sh) := by
  unfold State.releaseShelf
  split
  · split
    · exact moves_enterState _ _ _ _ _
    · dsimp only
      repeat' split
      all_goals
        first
        | with_reducible exact (moves_enterState _ _ _ _ _).trans (moves_setQueue _ _)
        | with_reducible exact moves_enterState _ _ _ _ _
        | with_reducible exact ((moves_loseSteering _ _).trans (moves_enterState _ _ _ _ _)).trans (moves_setQueue _ _)
        | with_reducible exact (moves_loseSteering _ _).trans (moves_enterState _ _ _ _ _)
  · exact .refl _

theorem moves_releaseShelves (s : State) : Moves s s.releaseShelves :=
  (moves_foldl _ moves_releaseShelf _ _).trans (moves_lend _)

theorem moves_distrustShelf (s : State) (sh : ShelfId) : Moves s (s.distrustShelf sh) := by
  unfold State.distrustShelf
  dsimp only
  split
  · exact (moves_setShelf _ _ _).trans (moves_enterState _ _ _ _ _)
  · exact moves_setShelf _ _ _

theorem moves_endHoldOff (s : State) (sh : ShelfId) : Moves s (s.endHoldOff sh) := by
  unfold State.endHoldOff
  split
  · exact (moves_loseSteering _ _).trans (moves_reselect _ _ _)
  · exact moves_reselect _ _ _
  · exact moves_reselect _ _ _

theorem moves_completeSettle (s : State) (sh : ShelfId) (t : PortId) : Moves s (s.completeSettle sh t) := by
  unfold State.completeSettle
  exact (((moves_setShelf _ _ _).trans (moves_enterState _ _ _ _ _)).trans (moves_freeUnit _ _)).trans (moves_act _ _ _)

theorem moves_expireLimit (s : State) (sh : ShelfId) : Moves s (s.expireLimit sh) := by
  unfold State.expireLimit
  exact ((moves_setShelf _ _ _).trans (moves_enterState _ _ _ _ _)).trans (moves_raiseShelf _ _ _)

/-! ## The outcome of a command -/

/-- Every command answers a next state: no meaning stops. -/
theorem exec_next (c : Instr) (s : State) : ∃ t, exec c s = .next t := by
  cases c <;> exact ⟨_, rfl⟩

end Sys2Proof.Machine
end

