-- ==== Sys2Proof/Tests/Slice0.lean ====
section
/-!
SUPPORT. Tests of the model's own: ill-formed commands that the check refuses, worked examples of the spec, and for
every statement of Certificates/Slice0/Obligations.lean a state and operands that meet its hypotheses, clause by clause.
-/

namespace Sys2Proof.Tests

open Sys2Proof Sys2Proof.Machine

-- one theorem after another: many evaluations at once need too many threads
set_option Elab.async false

/-! ## Small states -/

/-- The part in HELD after an initial check that passed with HOLD_MODE at HOLD. -/
def held : State :=
  { State.reset with phase := .held, osc := { State.reset.osc with check := none, lastOutcome := some .pass } }

/-- An activity-confirmed UP port with the default setup. -/
def upPort : Port := { Port.atReset 0 with state := .up, activity := true, window := some 0 }

/-- A grade record with this accepted grade, trace 0x0A01 and a running timer. -/
def graded (g : Nat) : Grade := { Grade.atReset with accepted := g, trace := [0x0A01#16], timer := some 5000 }

/-- SP7 and SP8 in D0, the other shelves in domain none; every port in D0. -/
def twoShelves : Partition :=
  { ports := Vector.replicate 24 (some 0),
    shelves := Vector.ofFn fun sh => if sh = 7 ∨ sh = 8 then some 0 else none }

/-- The part in RUNNING: SP7 and SP8 FREERUN, the other shelves PARKED; RP0 UP with grade 3 and RP1 UP with grade 5,
the other ports DOWN. -/
def running : State :=
  let s : State :=
    { held with phase := .running, now := 5000, current := twoShelves, pendingPart := twoShelves,
                shelves := Vector.ofFn fun sh =>
                  { Shelf.atReset with state := if sh = 7 ∨ sh = 8 then .freerun else .parked,
                                       lastCause := some .release } }
  (((s.setPort 0 upPort).setPort 1 upPort).setGrade 0 (graded 3)).setGrade 1 (graded 5)

/-- `running` with one shelf in this state. -/
def withState (sh : ShelfId) (st : ShelfState) : State := running.setShelf sh { running.shelves[sh] with state := st }

/-- `running` with one shelf under this steering in this state. -/
def withSteering (sh : ShelfId) (st : ShelfState) (g : Steering) : State :=
  running.setShelf sh { running.shelves[sh] with state := st, steering := g }

/-- RUNNING with every unit lent: SP0 to SP5 in ACQUIRE, SP6 QUEUED behind them, the other shelves PARKED. -/
def full : State :=
  { running with
    current := { twoShelves with shelves := Vector.ofFn fun sh => if sh.val < 7 then some 0 else none },
    shelves := Vector.ofFn fun sh =>
      { Shelf.atReset with
        state := if sh.val < 6 then .acquire 0 5000 else if sh.val = 6 then .queued 0 else .parked },
    units := Vector.ofFn fun u => some ⟨u.val, by omega⟩, queue := [6] }

/-- `full` with SP7 QUEUED ahead of SP6 and SP8 LOCKED to RP1. -/
def crowded : State :=
  { full with
    current := { twoShelves with shelves := Vector.ofFn fun sh => if sh.val < 9 then some 0 else none },
    shelves := (full.shelves.set 7 { full.shelves[7] with state := .queued 0, lastCause := some .better }).set 8
      { full.shelves[8] with state := .locked 1 none },
    queue := [7, 6] }

/-- `running` with the fault latch set: no port measures. -/
def faulty : State :=
  { running with osc := { running.osc with latch := true, source := some .window },
                 ports := running.ports.map fun (r : Port) => { r with window := none } }

/-- `running` with RP2 SUSPECT and SP7 in HOLDOVER. -/
def doubtful : State :=
  (withState 7 (.holdover none)).setPort 2 { upPort with state := .suspect, fault := true }

/-- `running` with the reply of a request of this port still to be placed. -/
def busy (cp : ControlPort) : State := running.answered cp .ok []

/-- The outcome of a command satisfies a test on its next state. -/
def after (c : Instr) (s : State) (test : State → Bool) : Bool :=
  match exec c s with
  | .next t => test t
  | .fault _ => false
  | .refused _ => false

/-! ## What the check of a command refuses -/

theorem test_wf_byte_field : (Instr.portStatus .cpa 256).wf = false ∧ (Instr.portStatus .cpa 255).wf = true := by decide

theorem test_wf_word_field :
    (Instr.nodeIdentifier .cpa 65536).wf = false ∧ (Instr.nodeIdentifier .cpa 65535).wf = true := by decide

theorem test_wf_port_setup :
    (Instr.portSetup .cpa 0 ⟨256, 1, 10, 2, 5, 2⟩).wf = false ∧ (Instr.portSetup .cpa 0 ⟨1, 1, 10, 2, 5, 256⟩).wf = false ∧
      (Instr.portSetup .cpa 0 ⟨1, 1, 10, 2, 5, 2⟩).wf = true := by decide

theorem test_wf_domain_setup :
    (Instr.domainSetup .cpa 0 ⟨12, 0, 0, 0, 65536, 300, 8, 1, 10, 900, 240, 10, 12⟩).wf = false ∧
      (Instr.domainSetup .cpa 0 ⟨256, 0, 0, 0, 1000, 300, 8, 1, 10, 900, 240, 10, 12⟩).wf = false ∧
      (Instr.domainSetup .cpa 0 ⟨12, 0, 0, 0, 1000, 300, 8, 1, 10, 900, 240, 10, 12⟩).wf = true := by decide

theorem test_wf_output_setup :
    (Instr.outputSetup .cpa 0 ⟨1, 256, 0, 0, 0⟩).wf = false ∧ (Instr.outputSetup .cpa 0 ⟨1, 0, 0, 0, 12⟩).wf = true := by
  decide

theorem test_wf_priority_list_length :
    (Instr.priorityList .cpa 0 (List.replicate 250 1)).wf = false ∧
      (Instr.priorityList .cpa 0 (List.replicate 249 1)).wf = true ∧ (Instr.priorityList .cpa 0 [256]).wf = false := by
  decide +kernel

theorem test_wf_window_length :
    (Instr.writeWindow .cpa (List.replicate 1993 .bar)).wf = false ∧
      (Instr.writeWindow .cpa (List.replicate 1992 .bar)).wf = true := by
  decide +kernel

theorem test_wf_status_only_opener :
    (Instr.statusOnlyTransaction .cpa 0x5A#8 []).wf = false ∧ (Instr.statusOnlyTransaction .cpa 0xA5#8 []).wf = false ∧
      (Instr.statusOnlyTransaction .cpa 0x3C#8 []).wf = false ∧ (Instr.statusOnlyTransaction .cpa 0x00#8 []).wf = true := by
  decide

theorem test_wf_void_bits : (Instr.voidTransaction .cpa 8).wf = false ∧ (Instr.voidTransaction .cpa 7).wf = true := by
  decide

theorem test_wf_grade_message :
    (Instr.gradeMessage 0 [] false).wf = false ∧ (Instr.gradeMessage 0 [6, 1, 2, 3, 4, 5, 6] false).wf = false ∧
      (Instr.gradeMessage 0 [5, 1, 2, 3, 4] false).wf = false ∧
      (Instr.gradeMessage 0 [5, 0x30, 1, 0x0A, 0x01, 0] false).wf = true := by decide

/-! ## Examples of the spec -/

/-- No row of the table gives bits, so no word spells a command. -/
theorem test_no_table_words : decodeTableWord 32 0xFFFFFFFF = none ∧ decodeTableWord 0 0 = none := by decide

/-- R192: the check values of both CRCs over "123456789". -/
theorem test_crc_check_values :
    crc16 [0x31, 0x32, 0x33, 0x34, 0x35, 0x36, 0x37, 0x38, 0x39] = 0x29B1#16 ∧
      crc8 [0x31, 0x32, 0x33, 0x34, 0x35, 0x36, 0x37, 0x38, 0x39] = 0xF4#8 := by decide +kernel

/-- The bytes State.reset starts with are the bytes of its SHUN message. -/
theorem test_first_shun_bytes : firstShunBytes = (shunMsg 0x0100#16).bytes := by decide +kernel

/-- 11_message_layouts.md, one frame: STEER of shelf 12 to port 3, an OK reply, a grade message. -/
theorem test_layout_example :
    (requestFrame (.steer 12 3)).take 4 = [0x06, 0x41, 0x0C, 0x03] ∧
      checkFrame (requestFrame (.steer 12 3)) = .request (.steer 12 3) ∧
      (Reply.ok []).frame.take 2 = [0x04, 0x00] ∧ (Reply.plain .notEligible).frame.take 2 = [0x04, 0x31] ∧
      ({ grade := 3, holdover := true, truncated := false, trace := [0x0A01#16, 0x0107#16] } : GradeMsg).bytes.take 8 =
        [0x7E, 0x07, 0x38, 0x02, 0x0A, 0x01, 0x01, 0x07] := by decide +kernel

/-- 08_shelf_outputs.md, passing on a full trace. -/
theorem test_full_trace_example :
    passedTrace 0x0107#16 [0x0201#16, 0x0202#16, 0x0203#16, 0x0204#16, 0x0205#16, 0x0206#16, 0x0207#16, 0x0208#16] =
      [0x0201#16, 0x0203#16, 0x0204#16, 0x0205#16, 0x0206#16, 0x0207#16, 0x0208#16, 0x0107#16] := by decide

/-- 04_candidate_ranking.md: the domain of ten ports, in D2 with SP14. -/
def tenPorts : State :=
  let up (g : Nat) (h : Bool) (n : Nat) : Grade :=
    { Grade.atReset with accepted := g, holdover := h, trace := List.replicate n 0x0A01#16, timer := some 1 }
  let s : State :=
    { running with
      nodeId := 0x0107#16,
      current :=
        { ports := Vector.ofFn fun p => if 4 ≤ p.val ∧ p.val ≤ 13 then some 2 else some 0,
          shelves := running.current.shelves.set 14 (some 2) },
      domains := running.domains.set 2
        { Domain.atReset with minGrade := 8, assume := some 7, maxHops := 4, truncatedPolicy := .exclude },
      lists := #v[[], [], [6, 5, 4, 12, 7, 13, 9, 10], []] }
  let s := (List.finRange 24).foldl (fun s p => s.setPort p (if p = 9 then { upPort with state := .qualifying }
    else if p = 11 then Port.atReset 0 else upPort)) s
  ((((((((((s.setGrade 4 (up 3 false 2)).setGrade 5 (up 3 true 3)).setGrade 6 (up 5 false 1)).setGrade 7
    (up 0 false 0)).setGrade 8 (up 2 false 2)).setGrade 9 (up 1 false 2)).setGrade 10 (up 4 false 2)).setGrade 11
    (up 9 false 3)).setGrade 12 { up 2 false 3 with loopFlag := true }).setGrade 13 (up 4 false 5)).setCell 14 10 .bar

/-- 04_candidate_ranking.md: the reasons of the ten ports for SP14 and its eligible list. -/
theorem test_ranking_example :
    (tenPorts.verdicts 14).map (fun v => (v.first, v.second)) =
        [(none, none), (none, none), (none, none), (none, none), (some .notListed, none), (some .qualifying, none),
         (some .barred, none), (some .down, some .notListed), (some .loop, none), (some .hops, none)] ∧
      (tenPorts.eligibleList 14).map (fun e => e.port) = [4, 5, 6, 7] := by decide +kernel

/-- 07_steering_and_the_exclusion_matrix.md: the places of a window of shelves 4 to 6 and ports 10 to 13. -/
theorem test_window_example :
    let w : Window :=
      { firstShelf := 4, lastShelf := 6, firstPort := 10, lastPort := 13, order := .byShelf, cursor := 0 }
    w.count = 12 ∧ w.cellAt 0 = some (4, 10) ∧ w.cellAt 4 = some (5, 10) ∧ w.cellAt 9 = some (6, 11) ∧
      w.cellAt 11 = some (6, 13) ∧ w.cellAt 12 = none := by decide +kernel

/-- R188: the status byte of CPA after reset: INIT, ACTIVE, IDLE. -/
theorem test_status_byte : State.reset.statusByte .cpa = 0x84#8 ∧ State.reset.statusByte .cpb = 0x80#8 := by decide +kernel

/-- 09_control_ports_and_requests.md: a frame of 5 bytes written in two pieces, two bytes too many ignored. -/
theorem test_frame_in_two_pieces :
    let frame := requestFrame (.portGrade 5)
    after (.frameWrite .cpb (frame.take 3)) running (fun t =>
      t.cpb.receiver == frame.take 3 && t.cpb.stage == .idle &&
        after (.frameWrite .cpb (frame.drop 3 ++ [0, 0])) t fun u =>
          u.cpb.receiver == [] && u.cpb.stage == .working none && u.prevSupplier == some .cpb) = true := by decide +kernel

/-- R165 to R167: the second piece of a bad frame completes it, on a WORKING port too, and bytes after it are ignored. -/
theorem test_bad_frame_in_two_pieces :
    let half (s : State) := s.setCpi .cpa { s.cpa with receiver := [6, 0x41, 12] }
    after (.frameWrite .cpa [3, 0, 0, 6, 0x41]) (half running) (fun t =>
        t.cpa.receiver == [] && t.cpa.stage == .reply (Reply.plain .badFrame).frame) = true ∧
      after (.frameWrite .cpa [3, 0, 0, 6]) (half (busy .cpa)) (fun t =>
        t.cpa.receiver == [] && t.cpa.stage == .working none && t.cpa.frameDropped) = true ∧
      after (.frameWrite .cpa [3]) (half running) (fun t => t.cpa.receiver == [6, 0x41, 12, 3]) = true := by
  decide +kernel

/-- R77: a shelf that STEER or CLEAR STEERING leaves where it is keeps its last cause and its changed flag. -/
theorem test_staying_keeps_cause_and_flag :
    let kept (s t : State) : Bool := t.shelves[(7 : ShelfId)].lastCause == s.shelves[(7 : ShelfId)].lastCause &&
      t.shelves[(7 : ShelfId)].changed == s.shelves[(7 : ShelfId)].changed &&
      t.shelves[(7 : ShelfId)].state == s.shelves[(7 : ShelfId)].state
    (∀ st ∈ [ShelfState.locked 1 none, .acquire 1 5, .queued 1],
      after (.steer .cpa 7 1) (withState 7 st) (kept (withState 7 st)) = true) ∧
      (∀ st ∈ [ShelfState.locked 0 none, .acquire 0 5],
        after (.clearSteering .cpa 7) (withSteering 7 st (.pin 0)) (kept (withSteering 7 st (.pin 0))) = true) := by
  decide +kernel

/-- R82, R91: STEER of a FREERUN shelf lends unit 0 at once. -/
theorem test_steer_lends_a_unit :
    after (.steer .cpa 7 1) running (fun t =>
      t.shelves[(7 : ShelfId)].state == .acquire 1 10000 && t.units[(0 : UnitId)] == some 7 && t.queue == []) = true := by
  decide +kernel

/-- R92: the settle time of 10 s passes, the shelf is LOCKED and its unit idle. -/
theorem test_settle :
    let s := (withState 7 (.acquire 0 10000)).setUnit 0 (some 7)
    after (.settleComplete 7) s (fun t =>
      t.now == 15000 && t.shelves[(7 : ShelfId)].state == .locked 0 none && t.units[(0 : UnitId)] == none &&
        t.latched 0 .lock && t.outputs[(7 : ShelfId)].tracker == .following 0) = true := by decide +kernel

/-- R80, R82, R83: a freed unit goes to the head of the queue, and those behind move up; a shelf joins at the tail; one
whose target changes keeps its place; one that parks leaves. -/
theorem test_queue_order :
    after (.settleComplete 3) crowded (fun t => t.units[(3 : UnitId)] == some 7 && t.queue == [6] &&
        t.shelves[(7 : ShelfId)].state == .acquire 0 10000 && t.shelves[(7 : ShelfId)].lastCause == some .better &&
        t.shelves[(6 : ShelfId)] == crowded.shelves[6]) = true ∧
      after (.steer .cpa 8 0) crowded (fun t => t.units == crowded.units && t.queue == [7, 6, 8]) = true ∧
      after (.steer .cpa 7 1) crowded (fun t => t.shelves[(7 : ShelfId)].state == .queued 1 && t.queue == [7, 6]) = true ∧
      after (.pin .cpa 7 2) crowded (fun t => t.shelves[(7 : ShelfId)].state == .freerun && t.queue == [6]) = true := by
  decide +kernel

/-- R149, R150, R153: divide halves a clock's rate and invert turns it; neither acts on a fixed level; a shelf that parks
has its pending setup applied (R147). -/
theorem test_clock_line :
    let o := running.outputs[(7 : ShelfId)]
    let line (d : Drive) (divide invert : Bool) := (running.setOutput 7
      { o with drive := d, tracker := .following 0, active := { o.active with divide := divide, invert := invert } }).clockLine 7
    (line .low false true = .low ∧ line .high true true = .high ∧
      line .tracker false false = .tracker (.following 0) 2048 false ∧
      line .tracker true true = .tracker (.following 0) 1024 true ∧
      line .localOsc false true = .localOsc 20000 true ∧ line .localOsc true false = .localOsc 10000 false) ∧
      (let p : OutputSetup := { o.active with mode := .mark }
       let s : State := { (running.setOutput 7 { o with pendingSetup := some p }) with
         pendingPart := { twoShelves with shelves := twoShelves.shelves.set 7 none } }
       after (.applyPartition .cpa) s fun t =>
         t.outputs[(7 : ShelfId)].active == p && t.outputs[(7 : ShelfId)].pendingSetup == none &&
           t.outputs[(8 : ShelfId)].active == o.active && t.clockLine 7 == .low) = true := by
  decide +kernel

/-- R97: a LOCKED shelf bridges the loss of its reference with the hold-off of its domain. -/
theorem test_loss_is_bridged :
    after (.activityLoss 0) (withState 7 (.locked 0 none)) (fun t =>
      t.ports[(0 : PortId)].state == .down && t.ports[(0 : PortId)].waiver == some 6000 &&
        t.shelves[(7 : ShelfId)].state == .bridge 0 1000 && t.shelves[(7 : ShelfId)].lastCause == some .lost) = true := by
  decide +kernel

/-- R114, R115: a failing background window sets the latch; a HOLDOVER shelf goes to FREERUN. -/
theorem test_latch :
    after (.backgroundWindowComplete 25004) (withState 7 (.holdover none)) (fun t =>
      t.osc.latch && t.osc.lastBackground == some 2500 && t.shelves[(7 : ShelfId)].state == .freerun &&
        t.shelves[(7 : ShelfId)].lastCause == some .oscFault && t.ports[(0 : PortId)].window == none) = true := by
  decide +kernel

/-- R183: the initial check passes and the straps ask for automatic release. -/
theorem test_end_of_init :
    after (.checkComplete 12) State.reset (fun t =>
      t.phase == .running && t.now == 4000 && t.osc.lastOutcome == some .pass && t.shelves[(0 : ShelfId)].state == .freerun &&
        t.partLatched .phase && t.partLatched .checkDone) = true := by decide +kernel

/-- R178, R179, R187: RESTART on the active port keeps it active and places its own reply. -/
theorem test_restart :
    after (.restart .cpa) running (fun t =>
      t.phase == .init && t.cpa.stage == .reply (Reply.ok []).frame && t.cpb.stage == .idle && t.carrying == none &&
        t.partEvents.latched == 0x10#5) = true := by decide +kernel

/-- R125: a shelf LOCKED to a port that is not eligible, PIN until then, waits on it for the port it is steered to; the
next ranking it is handed finds that port not eligible and sends it toward the steered one, its place kept (R76, R126). -/
theorem test_steer_waits_on_its_reference :
    let f := (full.setPort 2 upPort).setShelf 6 { full.shelves[6] with state := .locked 2 none, steering := .pin 2 }
    after (.steer .cpa 6 1) { f with queue := [] } (fun t =>
      t.shelves[(6 : ShelfId)].state == .locked 2 (some (1, .steer)) && t.queue == [6] &&
        after (.bar .cpa 6 3) { t with carrying := none, cpa := f.cpa } (fun u =>
          u.shelves[(6 : ShelfId)].state == .queued 1 && u.shelves[(6 : ShelfId)].lastCause == some .ineligible &&
            u.queue == [6])) = true := by
  decide +kernel

/-- R130, R136, R126: a shelf PIN(RP1) that waits LOCKED(RP2) stays for a bar on RP2 and, while RP2 is barred, for the loss
of RP1's grade; and goes toward RP1, its place kept, when RP2 loses its grade. -/
theorem test_pinned_shelf_waits_on_its_reference :
    let f := (full.setPort 2 upPort).setGrade 2 (graded 4)
    let s := f.setShelf 6
      { f.shelves[6] with state := .locked 2 (some (1, .pin)), steering := .pin 1, lastCause := some .release }
    let stays (t : State) : Bool := t.shelves[(6 : ShelfId)].state == .locked 2 (some (1, .pin)) && t.queue == [6]
    after (.bar .cpa 6 2) s stays = true ∧
      after (.gradeTimerExpiry 1) (s.setCell 6 2 .bar) stays = true ∧
      after (.gradeTimerExpiry 2) s (fun t =>
        t.shelves[(6 : ShelfId)].state == .queued 1 && t.shelves[(6 : ShelfId)].lastCause == some .ineligible &&
          t.queue == [6]) = true := by
  decide +kernel

/-- R68, R95, R123: a DOMAIN SETUP that changes revertive alone reaches a LOCKED shelf under AUTO, not one under PIN. -/
theorem test_revertive_reaches_auto_shelves :
    let s := (withState 7 (.locked 0 none)).setShelf 8 { running.shelves[8] with state := .locked 1 none, steering := .pin 1 }
    let t : State := { s with domains := s.domains.set 0 { s.domains[0] with revertive := !s.domains[0].revertive } }
    State.resetupShelves s t 0 = [7] := by
  decide +kernel

/-- R161: a seam that disables an output lets the message on the line end; one that enables it starts its message at once
on an idle line, and after the message on a busy one. -/
theorem test_seams_enable_and_disable :
    let o := running.outputs[(7 : ShelfId)]
    let off : OutputSetup := { OutputSetup.atReset with enabled := false }
    let going := running.setOutput 7 { o with pendingSetup := some off, changedMark := true }
    let coming (line : Option (List Byte)) := running.setOutput 7
      { o with active := off, pendingSetup := some OutputSetup.atReset, sending := line, lastStart := none }
    after (.outputSeam 7) going (fun t => t.outputs[(7 : ShelfId)].sending == o.sending &&
        !t.outputs[(7 : ShelfId)].changedMark && t.outputs[(7 : ShelfId)].lastStart == none) = true ∧
      after (.outputSeam 7) (coming none) (fun t => t.outputs[(7 : ShelfId)].sending.isSome &&
        t.outputs[(7 : ShelfId)].lastStart == some 5000) = true ∧
      after (.outputSeam 7) (coming (some [1])) (fun t => t.outputs[(7 : ShelfId)].sending == some [1] &&
        t.outputs[(7 : ShelfId)].sendDue) = true := by
  decide +kernel

/-- R179: bytes after a RESTART frame start a new frame; after any other frame they are ignored (R165). -/
theorem test_bytes_after_restart :
    after (.frameWrite .cpa (requestFrame .restart ++ [6, 0x41])) running (fun t =>
        t.phase == .init && t.cpa.receiver == [6, 0x41] && t.cpa.stage == .reply (Reply.ok []).frame) = true ∧
      after (.frameWrite .cpa (requestFrame .identity ++ [6, 0x41])) running (fun t =>
        t.cpa.receiver == [] && t.cpa.stage == .working none) = true := by decide +kernel

/-- R164: a void transaction of three bits shifts out the three highest bits of the status byte 0xA4. -/
theorem test_void_shifts_out_bits :
    after (.voidTransaction .cpa 3) running (fun t =>
      t.dataOut .cpa == [] && t.dataOutBits .cpa == [true, false, true]) = true := by decide +kernel

/-- R188: an opener of FRAME WRITE acts as one, whichever command brings it. -/
theorem test_opener_decides :
    after (.statusOnlyTransaction .cpa 0x5A#8 [6, 0x41]) running (fun t => t.cpa.receiver == [6, 0x41]) = true ∧
      after (.statusOnlyTransaction .cpa 0x5B#8 [6, 0x41]) running (fun t =>
        t.cpa.receiver == [] && t.dataOut .cpa == [0xA4, 0xFF, 0xFF]) = true := by decide +kernel

/-- R150, R190: the drives in the order of the table. -/
theorem test_drive_codes : [Drive.low, .high, .localOsc, .tracker].map driveCode = [0, 1, 2, 3] := by decide

/-! ## The hypotheses of the statements are met

One theorem for each statement that has hypotheses, one conjunct for each of its clauses, at the ends of the ranges. -/

/-- A command waits. -/
theorem test_hyp_StepRunsTheFrontCommand :
    ({ running with pending := [.guardAbsent, .resetAssert] } : State).pending = .guardAbsent :: [.resetAssert] := by
  decide +kernel

/-- Nothing waits, out of reset and in reset. -/
theorem test_hyp_StepOnAnEmptyQueuePassesOneMillisecond :
    running.pending = [] ∧ running.inReset = false ∧
      ({ running with resetPin := false } : State).pending = [] ∧ ({ running with resetPin := false } : State).inReset = true ∧
      0 < 1 ∧ running.shelfDomain 7 = some 0 ∧ (running.elapse 1).osc.latch = false := by
  decide +kernel

/-- INIT, and a changing request on the standby port. -/
theorem test_hyp_ExecutorChecksRefuseWithoutEffect :
    (Instr.release .cpa).request? = some (.cpa, .release) ∧ State.reset.ready .cpa = true ∧ State.reset.phase = .init ∧
      Request.release ≠ .identity ∧
      (Instr.bar .cpb 0 0).request? = some (.cpb, .bar 0 0) ∧ running.ready .cpb = true ∧ running.phase ≠ .init ∧
      isChanging (.bar 0 0) = true ∧ running.active = otherPort .cpb := by
  decide +kernel

/-- Both ports are ready, in INIT and in RUNNING. -/
theorem test_hyp_IdentityReportsThePart :
    State.reset.ready .cpa = true ∧ State.reset.ready .cpb = true ∧ running.ready .cpb = true := by
  decide +kernel

/-- INIT; the active port; the standby port with and without permission; the values 2, 1 and 0. -/
theorem test_hyp_ControlPassesAsItsRulesSay :
    State.reset.ready .cpa = true ∧ State.reset.phase = .init ∧
      running.ready .cpa = true ∧ running.phase ≠ .init ∧ running.active = .cpa ∧
      running.ready .cpb = true ∧ running.active = otherPort .cpb ∧ running.yieldPermission = true ∧
      ({ running with yieldPermission := false } : State).ready .cpb = true ∧
      ({ running with yieldPermission := false } : State).yieldPermission ≠ true ∧ 2 ≤ 2 := by
  decide +kernel

/-- RUNNING; HELD with the two refused identifiers; HELD with the lowest and the highest accepted one. -/
theorem test_hyp_NodeIdentifierRecomputesLoopFlags :
    running.readyActive .cpa = true ∧ running.phase = .running ∧ held.readyActive .cpa = true ∧ held.phase = .held ∧
      0 < 65536 ∧ 0xFFFF < 65536 ∧ (1 ≠ 0 ∧ 1 ≠ 0xFFFF ∧ 0xFFFE ≠ 0 ∧ 0xFFFE ≠ 0xFFFF ∧ 0xFFFE < 65536) ∧
      held.portDomain 0 = some 0 ∧ held.masked 0 .loop = false ∧ held.grades[(0 : PortId)].loopFlag = false ∧
      (∀ sh : ShelfId, held.shelves[sh].state.isHeld = true ↔ held.phase ≠ .running) ∧
      held.outputs[(0 : ShelfId)].active.enabled = true := by
  decide +kernel

/-- RUNNING; HELD with every shelf HELD, an empty queue and idle units; a nominee; a steered and a pinned shelf; domain
none. -/
theorem test_hyp_ReleaseMovesEveryShelfOutOfHeld :
    let s := (held.setShelf 3 { held.shelves[3] with state := .held (some 0), steering := .steer 0 }).setShelf 5
      { held.shelves[5] with state := .held none, steering := .pin 2 }
    let u : State := { held with current := twoShelves }
    running.readyActive .cpa = true ∧ running.phase = .running ∧
      s.readyActive .cpa = true ∧ s.phase = .held ∧
      (∀ sh : ShelfId, s.shelves[sh].state.isHeld = true ↔ s.phase ≠ .running) ∧ s.queue = [] ∧
      (∀ v : UnitId, s.units[v] = none) ∧ s.shelves[(3 : ShelfId)].state.nominee? = some 0 ∧ s.shelfDomain 3 ≠ none ∧
      s.shelves[(3 : ShelfId)].steering = .steer 0 ∧ s.shelves[(4 : ShelfId)].state.nominee? = none ∧
      s.shelves[(4 : ShelfId)].steering = .auto ∧ s.shelves[(5 : ShelfId)].steering = .pin 2 ∧
      u.readyActive .cpa = true ∧ u.shelfDomain 0 = none := by
  decide +kernel

/-- The active port, in RUNNING and in HELD. -/
theorem test_hyp_RestartReturnsToResetValues :
    running.readyActive .cpa = true ∧ held.readyActive .cpa = true ∧
      (running.cpi .cpa).receiver = [] := by
  decide +kernel

/-- The pin low with the internal reset over and with it active, and the pin high. -/
theorem test_hyp_ResetPinAndPowerOnGiveResetValues :
    ({ running with resetPin := false } : State).resetPin = false ∧
      ({ running with resetPin := false } : State).internalReset = false ∧
      ({ running with resetPin := false, internalReset := true } : State).internalReset = true ∧ running.resetPin = true := by
  decide +kernel

/-- Port 24 and a rate out of range; the same setup; disabling, enabling, a change while OFF, a change while enabled. -/
theorem test_hyp_PortSetupCarriesOutEachChangedField :
    let off := running.setPort 23 { Port.atReset 0 with setup := { PortSetup.atReset with enabled := false }, state := .off }
    running.readyActive .cpa = true ∧ off.readyActive .cpa = true ∧ portOf 24 = none ∧ portOf 23 = some 23 ∧
      portSetupOf ⟨1, 4, 10, 2, 5, 2⟩ = none ∧ portSetupOf ⟨1, 1, 10, 2, 5, 2⟩ = some running.ports[(0 : PortId)].setup ∧
      portSetupOf ⟨0, 1, 10, 2, 5, 2⟩ = some { PortSetup.atReset with enabled := false } ∧
      portSetupOf ⟨0, 1, 255, 2, 5, 2⟩ = some { PortSetup.atReset with enabled := false, lossDwell := 255 } ∧
      portSetupOf ⟨1, 1, 1, 2, 5, 2⟩ = some { PortSetup.atReset with lossDwell := 1 } ∧
      running.ports[(0 : PortId)].setup.enabled = true ∧ off.ports[(23 : PortId)].setup.enabled = false ∧
      portSetupOf ⟨2, 1, 10, 2, 5, 2⟩ = none ∧ portSetupOf ⟨1, 1, 0, 2, 5, 2⟩ = none ∧
      portSetupOf ⟨1, 1, 256, 2, 5, 2⟩ = none ∧ portSetupOf ⟨1, 1, 10, 4, 5, 2⟩ = none ∧
      portSetupOf ⟨1, 1, 10, 2, 1, 2⟩ = none ∧ portSetupOf ⟨1, 1, 10, 2, 31, 2⟩ = none ∧
      portSetupOf ⟨1, 1, 10, 2, 5, 0⟩ = none ∧ portSetupOf ⟨1, 1, 10, 2, 5, 5⟩ = none ∧
      portSetupOf ⟨0, 3, 1, 3, 30, 4⟩ = some ⟨false, .mhz25, 1, .ppm50, 30, 4⟩ := by
  decide +kernel

/-- Port numbers 24, 23 and 0. -/
theorem test_hyp_PortReportsReportAndClearOnTheActivePort :
    running.ready .cpb = true ∧ running.phase ≠ .init ∧ 24 ≤ 24 ∧ (23 : PortId).val = 23 ∧ (0 : PortId).val = 0 := by
  decide +kernel

/-- A DOWN port; with no waiver and a restore time (QUALIFYING); with a waiver to the very moment; in domain none. -/
theorem test_hyp_ActivityConfirmationQualifiesThePort :
    let w := running.setPort 2 { Port.atReset 4990 with waiver := some 5000 }
    running.inReset = false ∧ running.ports[(2 : PortId)].state = .down ∧ running.ports[(2 : PortId)].activity = false ∧
      (running.elapse 0).ports[(2 : PortId)].waiver = none ∧ running.phase = .running ∧ running.portDomain 2 = some 0 ∧
      running.domains[(0 : DomainId)].restoreTime ≠ 0 ∧ running.masked 0 .port = false ∧
      w.inReset = false ∧ w.ports[(2 : PortId)].state = .down ∧ w.ports[(2 : PortId)].activity = false ∧
      w.ports[(2 : PortId)].since + w.ports[(2 : PortId)].setup.lossDwell - w.now = 0 ∧
      (w.elapse 0).ports[(2 : PortId)].waiver = some 5000 ∧ (w.elapse 0).now ≤ 5000 := by
  decide +kernel

/-- No activity; an UP port with a hold-off; one whose domain has hold-off 0; a port that was not UP. -/
theorem test_hyp_ActivityLossTakesThePortDown :
    let z : State := { running with domains := running.domains.set 0 { Domain.atReset with holdOff := 0 } }
    let q := running.setPort 2 { upPort with state := .qualifying, restoreLeft := some 1 }
    running.inReset = false ∧ running.ports[(2 : PortId)].activity = false ∧ running.ports[(0 : PortId)].activity = true ∧
      running.ports[(0 : PortId)].state = .up ∧ running.portDomain 0 = some 0 ∧
      running.domains[(0 : DomainId)].holdOff ≠ 0 ∧ running.masked 0 .port = false ∧ z.inReset = false ∧
      z.ports[(0 : PortId)].activity = true ∧ z.domains[(0 : DomainId)].holdOff = 0 ∧ q.inReset = false ∧
      q.ports[(2 : PortId)].activity = true ∧ q.ports[(2 : PortId)].state ≠ .up := by
  decide +kernel

/-- A window; verdicts at the limit and one step outside it; a fault declared and cleared by the second verdict. -/
theorem test_hyp_MeasurementWindowGivesAVerdict :
    let f := running.setPort 0 { upPort with state := .suspect, fault := true, inRun := 1 }
    let g := running.setPort 0 { upPort with outRun := 1 }
    running.inReset = false ∧ running.ports[(0 : PortId)].window = some 0 ∧
      |roundOffset 12004| ≤ running.ports[(0 : PortId)].setup.band.limit ∧
      running.ports[(0 : PortId)].setup.band.limit < |roundOffset 12006| ∧
      |(327670 : Int)| ≤ 327670 ∧ (327670 : Int) ≤ 327670 ∧ (-327670 : Int) ≤ -327670 ∧
      f.inReset = false ∧ f.ports[(0 : PortId)].window = some 0 ∧ f.ports[(0 : PortId)].fault = true ∧
      min 2 (f.ports[(0 : PortId)].inRun + 1) = 2 ∧
      g.inReset = false ∧ g.ports[(0 : PortId)].window = some 0 ∧ g.ports[(0 : PortId)].fault = false ∧
      min 2 (g.ports[(0 : PortId)].outRun + 1) = 2 ∧
      f.phase = .running ∧ (f.elapse 1000).ports[(0 : PortId)].waiver = none ∧ f.portDomain 0 = some 0 ∧
      f.domains[(0 : DomainId)].restoreTime ≠ 0 ∧ g.ports[(0 : PortId)].state = .up ∧ g.portDomain 0 = some 0 ∧
      g.domains[(0 : DomainId)].holdOff ≠ 0 := by
  decide +kernel

/-- A QUALIFYING port with a timer; others; a waiver and none. -/
theorem test_hyp_RestoreTimerAndWaiverEndOnTime :
    let q := running.setPort 2 { upPort with state := .qualifying, restoreLeft := some 300000, waiver := some 5001 }
    q.inReset = false ∧ q.ports[(2 : PortId)].state = .qualifying ∧ q.ports[(2 : PortId)].restoreLeft = some 300000 ∧
      q.portDomain 2 = some 0 ∧ q.masked 0 .port = false ∧ q.ports[(2 : PortId)].waiver = some 5001 ∧
      running.inReset = false ∧ running.ports[(2 : PortId)].state ≠ .qualifying ∧ running.ports[(2 : PortId)].waiver = none := by
  decide +kernel

/-- An OFF port; a framing error; a worse and an equal grade; a better grade with confirm count 1, new, counted and complete. -/
theorem test_hyp_GradeMessageIsAcceptedConfirmedOrDiscarded :
    let ok (g : Nat) : List Byte :=
      ({ grade := g, holdover := false, truncated := false, trace := [0x0A02#16] } : GradeMsg).bytes.drop 1
    let msg (g : Nat) : GradeMsg := { grade := g, holdover := false, truncated := false, trace := [0x0A02#16] }
    let off := running.setPort 2 { Port.atReset 0 with state := .off }
    let setup (n : Nat) : PortSetup := { PortSetup.atReset with confirmCount := n }
    let counted (n k : Nat) := (running.setPort 0 { upPort with setup := setup n }).setGrade 0
      { graded 3 with pendingGrade := some (2, k) }
    running.inReset = false ∧ off.inReset = false ∧ off.ports[(2 : PortId)].state = .off ∧
      running.ports[(0 : PortId)].state ≠ .off ∧ GradeMsg.ofBytes (ok 3) true = none ∧
      GradeMsg.ofBytes (ok 15) false = some (msg 15) ∧ GradeMsg.ofBytes (ok 3) false = some (msg 3) ∧
      gradeRank running.grades[(0 : PortId)].accepted ≤ gradeRank 3 ∧
      GradeMsg.ofBytes (ok 2) false = some (msg 2) ∧ gradeRank 2 < gradeRank running.grades[(0 : PortId)].accepted ∧
      (counted 1 1).ports[(0 : PortId)].setup.confirmCount = 1 ∧
      (counted 3 1).grades[(0 : PortId)].pendingGrade = some (2, 1) ∧ 1 + 1 < 3 ∧
      (counted 3 2).grades[(0 : PortId)].pendingGrade = some (2, 2) ∧ 3 ≤ 2 + 1 ∧
      1 < running.ports[(0 : PortId)].setup.confirmCount ∧ running.grades[(0 : PortId)].pendingGrade = none ∧
      running.portDomain 0 = some 0 ∧ running.masked 0 .grade = false ∧ running.masked 0 .loop = false ∧
      running.grades[(0 : PortId)].loopFlag = false := by
  decide +kernel

/-- Each receiver situation: HUNTING, the length byte awaited, a byte before the last, the last byte; timers. -/
theorem test_hyp_GradeLineBytesAssembleMessages :
    let c (bytes : List Byte) := running.setGrade 0 { graded 3 with receiver := .collecting bytes false }
    running.inReset = false ∧ running.ports[(0 : PortId)].state ≠ .off ∧
      running.grades[(0 : PortId)].receiver = .hunting ∧ (0x7D#8 ≠ 0x7E#8) ∧
      (c []).inReset = false ∧ (c []).grades[(0 : PortId)].receiver = .collecting [] false ∧
      (5#8).toNat ∈ [5, 7, 9, 11, 13, 15, 17, 19] ∧ (19#8).toNat ∈ [5, 7, 9, 11, 13, 15, 17, 19] ∧
      (4#8).toNat ∉ [5, 7, 9, 11, 13, 15, 17, 19] ∧ (20#8).toNat ∉ [5, 7, 9, 11, 13, 15, 17, 19] ∧
      (c [5, 0x30, 1, 0x0A]).grades[(0 : PortId)].receiver = .collecting (5 :: [0x30, 1, 0x0A]) false ∧
      [0x30#8, 1#8, 0x0A#8].length + 1 < (5#8).toNat ∧
      (c [5, 0x30, 1, 0x0A, 1]).grades[(0 : PortId)].receiver = .collecting (5 :: [0x30, 1, 0x0A, 1]) false ∧
      (5#8).toNat ≤ [0x30#8, 1#8, 0x0A#8, 1#8].length + 1 ∧
      running.grades[(0 : PortId)].timer = some 5000 ∧ running.grades[(2 : PortId)].timer = none := by
  decide +kernel

/-- One identifier, eight identifiers, grades 0, 12 and 15. -/
theorem test_hyp_SentGradeMessagesAreReadBack :
    (shunMsg 0x0100#16).sendable = true ∧
      ({ grade := 12, holdover := true, truncated := true, trace := List.replicate 8 0xFFFE#16 } : GradeMsg).sendable = true ∧
      ({ grade := 0, holdover := false, truncated := true, trace := [1#16] } : GradeMsg).sendable = true ∧
      (let b : List Byte := [5, 0x3F, 1, 0x0A, 0x01]
       completeGradeBytes (b ++ [crc8 b]) = true ∧ (GradeMsg.ofBytes (b ++ [crc8 b]) false).isSome = true ∧
         GradeMsg.ofBytes (b ++ [crc8 b]) true = none ∧ GradeMsg.ofBytes (b ++ [crc8 b + 1]) false = none) ∧
      (let b : List Byte := [5, 0xD0, 1, 0x0A, 0x01]
       completeGradeBytes (b ++ [crc8 b]) = true ∧ GradeMsg.ofBytes (b ++ [crc8 b]) false = none) ∧
      (let b : List Byte := [7, 0x30, 2, 0x0A, 0x01, 0xFF, 0xFF]
       completeGradeBytes (b ++ [crc8 b]) = true ∧ GradeMsg.ofBytes (b ++ [crc8 b]) false = none) := by
  decide +kernel

/-- The two-shelf part: its lists are sound, SP7 is in D0 with entries in its eligible list, SP0 in domain none. -/
theorem test_hyp_EligibleListIsCompleteAndInOrder :
    (∀ d : DomainId, (∀ p ∈ running.lists[d], running.portDomain p = some d) ∧ running.lists[d].Nodup ∧
        running.lists[d].length ≤ 24) ∧ running.shelfDomain 7 = some 0 ∧
      ((running.eligibleList 7).map fun e => (e.port, e.grade, e.position)) = [(0, 3, 1), (1, 5, 2)] ∧
      running.shelfDomain 0 = none := by
  decide +kernel

/-- R64 and R78 on single values: an UP port out by its grade, a DOWN one with a second reason; a move to ACQUIRE. -/
theorem test_reasons_and_events :
    firstFailing (running.checks 7 0 0) = none ∧ firstFailing (running.checks 7 0 2) = some .down ∧
      firstFailing ((running.checks 7 0 2).drop 4) = some .ungraded ∧
      firstFailing (((running.setPort 2 upPort).setGrade 2 (graded 15)).checks 7 0 2) = some .shun ∧
      shelfRaises .freerun (.acquire 0 5) false .switch = true ∧ shelfRaises (.queued 0) (.acquire 0 5) false .switch = false ∧
      shelfRaises (.acquire 0 5) (.locked 0 none) false .lock = true ∧
      shelfRaises (.bridge 0 5) (.locked 0 none) false .lock = false := by
  decide +kernel

/-- A reference admissible with and without a hold-off, ungraded, of another domain; with and without a candidate; record valid or not. -/
theorem test_hyp_LostReferenceIsBridgedOrReselected :
    let dn := (withState 7 (.locked 2 none)).setGrade 2 (graded 1)
    let z : State := { dn with domains := dn.domains.set 0 { Domain.atReset with holdOff := 0 } }
    let un := (withState 7 (.locked 2 none)).setPort 2 upPort
    let other : State := { un with current := { un.current with ports := un.current.ports.set 2 (some 1) } }
    let alone := ((un.setPort 0 (Port.atReset 0)).setPort 1 (Port.atReset 0))
    let learned := alone.setShelf 7 { alone.shelves[7] with learned := 900000 }
    dn.shelves[(7 : ShelfId)].steering = .auto ∧ dn.shelves[(7 : ShelfId)].state = .locked 2 none ∧
      dn.eligible 7 2 = false ∧ dn.admissible 7 2 = true ∧ dn.shelfHoldOff 7 ≠ 0 ∧
      z.eligible 7 2 = false ∧ z.admissible 7 2 = true ∧ z.shelfHoldOff 7 = 0 ∧ z.best 7 = some 0 ∧
      un.eligible 7 2 = false ∧ un.admissible 7 2 = false ∧ un.sameDomain 7 2 = true ∧
      un.ports[(2 : PortId)].state = .up ∧ (withState 7 (.locked 2 none)).admissible 7 2 = false ∧
      (withState 7 (.locked 2 none)).ports[(2 : PortId)].state ≠ .up ∧
      other.eligible 7 2 = false ∧ other.sameDomain 7 2 = false ∧
      alone.best 7 = none ∧ alone.holdoverValid 7 = false ∧ learned.best 7 = none ∧ learned.holdoverValid 7 = true ∧
      rerankedBy (.activityLoss 0) = some Ctx.ranking ∧ (Instr.activityLoss 0).request? = none ∧
      rerankedBy (.priorityList .cpa 0 [1, 0]) = some Ctx.failing ∧
      (Instr.priorityList .cpa 0 [1, 0]).request? = some (.cpa, .priorityList 0 [1, 0]) ∧ running.ready .cpa = true ∧
      (withSteering 7 (.locked 0 none) (.steer 0)).shelves[(7 : ShelfId)].steering = .steer 0 ∧
      (withSteering 7 (.locked 0 none) (.pin 0)).shelves[(7 : ShelfId)].steering = .pin 0 ∧
      ({ Ctx.ranking with ceased := true } : Ctx).forced = none ∧
      (withState 7 (.locked 0 none)).shelves[(7 : ShelfId)].state.reference? = some 0 ∧
      State.ceased running ((withState 7 (.locked 0 none)).setGrade 0 (graded 15)) 7 = true ∧
      State.ceased running ((withState 7 (.locked 0 none)).setCell 7 0 .bar) 7 = false ∧
      State.ceased un other 7 = true ∧ State.ceased un dn 7 = true ∧
      running.shelfDomain 7 = some 0 ∧ ((running.eligibleList 7).head?.map fun e => e.port) = some 0 ∧
      (((running.eligibleList 7).find? fun e => e.port == 1).map fun e => e.port) = some 1 := by
  decide +kernel

/-- No BRIDGE; a bridge under AUTO, STEER and PIN, with and without a candidate. -/
theorem test_hyp_HoldOffExpiryReselectsWithCauseLost :
    let b := withState 7 (.bridge 2 250)
    let st := withSteering 7 (.bridge 2 250) (.steer 2)
    let pn := withSteering 7 (.bridge 2 250) (.pin 2)
    let alone := (b.setPort 0 (Port.atReset 0)).setPort 1 (Port.atReset 0)
    running.inReset = false ∧ running.shelves[(7 : ShelfId)].state = .freerun ∧
      b.inReset = false ∧ b.shelves[(7 : ShelfId)].state = .bridge 2 250 ∧ (b.elapse 250).choice 7 = some 0 ∧
      st.shelves[(7 : ShelfId)].state = .bridge 2 250 ∧ st.shelves[(7 : ShelfId)].steering = .steer 2 ∧
      (st.elapse 250).best 7 = some 0 ∧ (st.elapse 250).masked 0 .steerLost = false ∧ st.shelfDomain 7 = some 0 ∧
      pn.shelves[(7 : ShelfId)].state = .bridge 2 250 ∧ (pn.elapse 250).choice 7 = none ∧
      alone.shelves[(7 : ShelfId)].state = .bridge 2 250 ∧ (alone.elapse 250).choice 7 = none := by
  decide +kernel

/-- Not in ACQUIRE; toward the best port and toward another under AUTO, toward the steered port, toward the pinned port. -/
theorem test_hyp_SettleCompletionLocksAndFreesTheUnit :
    let a := withState 7 (.acquire 0 1)
    let st := withSteering 7 (.acquire 1 1) (.steer 1)
    let pn := (withSteering 7 (.acquire 2 1) (.pin 2)).setPort 2 { upPort with state := .qualifying, restoreLeft := some 5 }
    running.inReset = false ∧ running.shelves[(7 : ShelfId)].state = .freerun ∧
      a.inReset = false ∧ a.shelves[(7 : ShelfId)].state = .acquire 0 1 ∧ a.shelves[(7 : ShelfId)].steering = .auto ∧
      (a.elapse 1).eligible 7 0 = true ∧ (a.elapse 1).switchWanted 7 0 = none ∧ (a.elapse 1).shelfDomain 7 = some 0 ∧
      (a.elapse 1).masked 0 .lock = false ∧
      (withState 7 (.acquire 1 1)).shelves[(7 : ShelfId)].steering = .auto ∧
      ((withState 7 (.acquire 1 1)).elapse 1).eligible 7 1 = true ∧
      ((withState 7 (.acquire 1 1)).elapse 1).switchWanted 7 1 = some (0, .better) ∧
      st.shelves[(7 : ShelfId)].state = .acquire 1 1 ∧ st.shelves[(7 : ShelfId)].steering = .steer 1 ∧
      (st.elapse 1).eligible 7 1 = true ∧
      pn.shelves[(7 : ShelfId)].state = .acquire 2 1 ∧ pn.shelves[(7 : ShelfId)].steering = .pin 2 ∧
      (pn.elapse 1).sameDomain 7 2 = true ∧ (pn.elapse 1).ports[(2 : PortId)].state ≠ .off ∧
      (pn.elapse 1).ports[(2 : PortId)].activity = true := by
  decide +kernel

/-- No limit running; a limit with 0 ms and one with 1 ms left; a learned time 1 ms short. -/
theorem test_hyp_HoldoverLimitAndLearnTimeEnd :
    let h (n : Nat) := withState 7 (.holdover (some n))
    let l := running.setShelf 7 { running.shelves[7] with state := .locked 0 none, learned := 899999 }
    running.inReset = false ∧ (withState 7 (.holdover none)).shelves[(7 : ShelfId)].state = .holdover none ∧
      (h 0).shelves[(7 : ShelfId)].state = .holdover (some 0) ∧ (h 1).shelves[(7 : ShelfId)].state = .holdover (some 1) ∧
      (h 1).shelfDomain 7 = some 0 ∧ (h 1).masked 0 .expired = false ∧ (h 1).masked 0 .freerun = false ∧
      l.inReset = false ∧ l.shelves[(7 : ShelfId)].state = .locked 0 none ∧ l.osc.latch = false ∧
      l.shelfDomain 7 = some 0 ∧ l.domains[(0 : DomainId)].learnTime ≤ 3600 ∧
      l.shelves[(7 : ShelfId)].learned < l.domains[(0 : DomainId)].learnTime * 1000 := by
  decide +kernel

/-- Guard absent; present without a check; present with a check in INIT and outside it. -/
theorem test_hyp_GuardAbsenceEndsWindowAndCheck :
    let gone : State := { running with osc := { running.osc with guardPresent := false, bgWindow := none } }
    let chk : State := { running with osc := { running.osc with check := some 4000 } }
    gone.inReset = false ∧ gone.osc.guardPresent = false ∧ running.inReset = false ∧ running.osc.guardPresent = true ∧
      running.osc.check = none ∧ chk.inReset = false ∧ chk.osc.guardPresent = true ∧ chk.osc.check ≠ none ∧
      chk.phase ≠ .init ∧ State.reset.inReset = false ∧ State.reset.osc.guardPresent = true ∧
      State.reset.osc.check ≠ none ∧ State.reset.phase = .init ∧ (State.reset.elapse 10).partMasked .checkDone = false ∧
      (State.reset.elapse 10).partMasked .phase = false := by
  decide +kernel

/-- No window; a difference of 20 ppm and one step more; the latch clear and set. -/
theorem test_hyp_FailingBackgroundWindowSetsTheLatch :
    let gone : State := { running with osc := { running.osc with guardPresent := false, bgWindow := none } }
    let set : State := { running with osc := { running.osc with latch := true, source := some .window } }
    gone.inReset = false ∧ gone.osc.bgWindow = none ∧ running.inReset = false ∧ running.osc.bgWindow = some 0 ∧
      |roundOffset 20004| ≤ 2000 ∧ 2000 < |roundOffset 20006| ∧ 2000 < |roundOffset (-20006)| ∧
      (running.elapse 16000).osc.latch = false ∧ set.inReset = false ∧ set.osc.bgWindow = some 0 ∧
      (set.elapse 16000).osc.latch = true ∧
      doubtful.inReset = false ∧ doubtful.osc.bgWindow = some 0 ∧ (doubtful.elapse 16000).osc.latch = false ∧
      (doubtful.elapse 16000).ports[(2 : PortId)].state = .suspect ∧
      (doubtful.elapse 16000).shelves[(7 : ShelfId)].state.isHoldover = true ∧
      (doubtful.elapse 16000).shelfDomain 7 = some 0 ∧ (doubtful.elapse 16000).masked 0 .freerun = false := by
  decide +kernel

/-- No check; the initial check in INIT; a check in RUNNING; both outcomes. -/
theorem test_hyp_CheckOutcomeDecidesLatchAndPhase :
    let chk : State := { running with osc := { running.osc with check := some 1 } }
    running.inReset = false ∧ running.osc.check = none ∧ State.reset.inReset = false ∧
      State.reset.osc.check = some 4000 ∧ (State.reset.elapse 4000).phase = .init ∧
      (State.reset.elapse 4000).partMasked .checkDone = false ∧ (State.reset.elapse 4000).partMasked .phase = false ∧
      chk.inReset = false ∧ chk.osc.check = some 1 ∧ (chk.elapse 1).phase ≠ .init ∧
      |roundOffset 20004| ≤ 2000 ∧ 2000 < |roundOffset 20006| ∧
      (chk.elapse 1).osc.latch = false ∧ (State.reset.elapse 4000).osc.latch = false ∧
      (let s : State := { faulty with osc := { faulty.osc with check := some 1 } }
       s.inReset = false ∧ s.osc.check = some 1 ∧ (s.elapse 1).osc.latch = true) ∧
      (let r := State.reset.elapse 4000
       r.straps.holdMode = false ∧ (∀ sh : ShelfId, r.shelves[sh].state.isHeld = true ↔ r.phase ≠ .running) ∧
         r.queue = [] ∧ ∀ v : UnitId, r.units[v] = none) := by
  decide +kernel

/-- A running check; the guard present; the guard absent; the report on the standby port. -/
theorem test_hyp_OscillatorRequestsStartAndReportChecks :
    let chk : State := { running with osc := { running.osc with check := some 1 } }
    let gone : State := { running with osc := { running.osc with guardPresent := false, bgWindow := none } }
    chk.readyActive .cpa = true ∧ chk.osc.check ≠ none ∧ running.readyActive .cpa = true ∧ running.osc.check = none ∧
      running.osc.guardPresent = true ∧ gone.readyActive .cpa = true ∧ gone.osc.check = none ∧
      gone.osc.guardPresent = false ∧ running.ready .cpb = true ∧ running.phase ≠ .init := by
  decide +kernel

/-- Numbers 24 and 48, domain values 4 and 254; D3 and none, new and already there. -/
theorem test_hyp_AssignmentsEditThePendingPartition :
    running.readyActive .cpa = true ∧ 24 ≤ 24 ∧ 48 ≤ 48 ∧ (4 ≤ 4 ∧ 4 ≠ 0xFF) ∧ (4 ≤ 254 ∧ 254 ≠ 0xFF) ∧
      (23 : PortId).val = 23 ∧ 3 = (some (3 : DomainId)).elim 0xFF (·.val) ∧
      0xFF = (none : Option DomainId).elim 0xFF (·.val) ∧
      running.pendingPart.ports[(23 : PortId)] = some 0 ∧ running.pendingPart.ports[(23 : PortId)] ≠ some 3 ∧
      (47 : ShelfId).val = 47 ∧ running.pendingPart.shelves[(47 : ShelfId)] = none ∧
      running.pendingPart.shelves[(47 : ShelfId)] ≠ some 3 := by
  decide +kernel

/-- The report on the standby port; nothing pending; something pending. -/
theorem test_hyp_PendingPartitionIsReportedAndDiscarded :
    let edited : State := { running with pendingPart := Partition.atReset }
    running.ready .cpb = true ∧ running.phase ≠ .init ∧ running.readyActive .cpa = true ∧
      running.pendingPart = running.current ∧ edited.readyActive .cpa = true ∧ edited.pendingPart ≠ edited.current := by
  decide +kernel

/-- Nothing pending; a shelf that leaves for domain none in RUNNING; HELD shelves. -/
theorem test_hyp_ApplyPartitionMakesThePendingPartitionCurrent :
    let none7 : Partition := { twoShelves with shelves := twoShelves.shelves.set 7 none }
    let edited : State := { running with pendingPart := none7 }
    let h : State := { held with pendingPart := twoShelves }
    running.readyActive .cpa = true ∧ running.pendingPart = running.current ∧
      edited.readyActive .cpa = true ∧ edited.pendingPart ≠ edited.current ∧ edited.shelfDomain 7 ≠ none ∧
      edited.pendingPart.shelves[(7 : ShelfId)] = none ∧ edited.shelfDomain 7 ≠ edited.pendingPart.shelves[(7 : ShelfId)] ∧
      edited.shelves[(7 : ShelfId)].state.isHeld = false ∧
      h.readyActive .cpa = true ∧ h.pendingPart ≠ h.current ∧ h.shelves[(0 : ShelfId)].state.isHeld = true ∧
      (let six : Partition := { twoShelves with shelves := (twoShelves.shelves.set 6 (some 0)).set 7 (some 1) }
       let s : State := { (withState 7 (.locked 0 none)) with pendingPart := six }
       s.readyActive .cpa = true ∧ s.pendingPart ≠ s.current ∧ s.shelves[(6 : ShelfId)].state.isHeld = false ∧
         s.shelfDomain 6 = none ∧ s.pendingPart.shelves[(6 : ShelfId)] ≠ none ∧
         s.shelfDomain 7 ≠ none ∧ s.pendingPart.shelves[(7 : ShelfId)] ≠ none ∧
         s.shelfDomain 7 ≠ s.pendingPart.shelves[(7 : ShelfId)] ∧
         s.shelves[(7 : ShelfId)].state.reference?.isSome = true ∧
         s.shelves[(8 : ShelfId)].state.isFreerun = true) ∧
      (let left : Partition := { twoShelves with ports := twoShelves.ports.set 1 (some 1) }
       let s : State := { withSteering 7 (.locked 1 none) (.steer 1) with pendingPart := left }
       s.readyActive .cpa = true ∧ s.pendingPart ≠ s.current ∧
         s.shelfDomain 7 = s.pendingPart.shelves[(7 : ShelfId)] ∧ s.sameDomain 7 1 = true ∧
         ({ s with current := s.pendingPart } : State).sameDomain 7 1 = false ∧
         s.shelves[(7 : ShelfId)].steering = .steer 1 ∧ s.shelves[(7 : ShelfId)].state.pending? = none ∧
         s.shelves[(7 : ShelfId)].state.reference? = some 1 ∧ s.masked 0 .steerLost = false) ∧
      (let left : Partition := { twoShelves with ports := twoShelves.ports.set 1 (some 1) }
       let both : Partition := { left with ports := left.ports.set 0 (some 1) }
       let under (part : Partition) (g : Steering) : State :=
         { withSteering 7 (.locked 1 (some (0, .better))) g with pendingPart := part }
       let new (s : State) : State :=
         { s with current := s.pendingPart, lists := s.lists.set 0 (s.lists[0].filter fun p => s.pendingPart.ports[p] == some 0) }
       (∀ s ∈ [under left .auto, under left (.steer 0), under left (.pin 0)],
         s.readyActive .cpa = true ∧ s.pendingPart ≠ s.current ∧ s.sameDomain 7 1 = true ∧
           (new s).shelfDomain 7 = s.shelfDomain 7 ∧ (new s).sameDomain 7 1 = false ∧ (new s).eligible 7 0 = true ∧
           (new s).ports[(0 : PortId)].activity = true ∧ (new s).ports[(0 : PortId)].state ≠ .off ∧
           s.shelves[(7 : ShelfId)].state = .locked 1 (some (0, .better))) ∧
       (∀ s ∈ [under both .auto, under both (.steer 0), under both (.pin 0)],
         s.sameDomain 7 1 = true ∧ (new s).sameDomain 7 1 = false ∧ (new s).sameDomain 7 0 = false)) ∧
      (let moved : Partition := { twoShelves with shelves := twoShelves.shelves.set 7 (some 1) }
       let s : State := { withSteering 7 (.locked 1 none) (.steer 1) with pendingPart := moved }
       s.readyActive .cpa = true ∧ s.shelfDomain 7 ≠ s.pendingPart.shelves[(7 : ShelfId)] ∧
         s.shelves[(7 : ShelfId)].steering ≠ .auto ∧ s.pendingPart.shelves[(7 : ShelfId)] = some 1 ∧
         s.masked 1 .steerLost = false ∧
         ∀ st ∈ [ShelfState.freerun, .holdover none, .queued 0, .locked 1 (some (0, .better)), .locked 0 none],
           let u := s.setShelf 8 { s.shelves[8] with state := st }
           ({ u with current := moved } : State).shelfDomain 8 = u.shelfDomain 8 ∧
             ({ u with current := moved } : State).handed 8 = u.handed 8 ∧ st.isHeld = false) := by
  decide +kernel

/-- `full` before an apply that takes SP0 and SP1 to D1. -/
def departing : State :=
  { full with pendingPart := { full.current with shelves := (full.current.shelves.set 0 (some 1)).set 1 (some 1) } }

/-- `full` with RP2 UP and SP7 QUEUED behind SP6, which is steered to RP0 and LOCKED to RP1, before an apply that takes RP0
and RP1 to D1. -/
def bereft : State :=
  let base : Partition := { full.current with shelves := full.current.shelves.set 7 (some 0) }
  { (((full.setPort 2 upPort).setGrade 2 (graded 7)).setShelf 7 { full.shelves[7] with state := .queued 0 }).setShelf 6
      { full.shelves[6] with state := .locked 1 (some (0, .steer)), steering := .steer 0 } with
    current := base, pendingPart := { base with ports := (base.ports.set 0 (some 1)).set 1 (some 1) }, queue := [6, 7] }

/-- Turns of an apply where pool, lists and shelves stand as they should: with the turn of SP1 before it, whose unit goes to
SP6, SP0 goes from ACQUIRE in D0 to FREERUN in D1 and its unit is idle; SP6, whose steering port and reference both leave
D0, joins the queue behind SP7 (notes/assumptions/44.md). -/
theorem test_hyp_turns_of_an_apply :
    (∀ s ∈ [departing, bereft], s.readyActive .cpa = true ∧ s.pendingPart ≠ s.current ∧
      s.poolSound ∧ s.listsSound ∧ s.shelvesSettled) ∧
    (∀ s ∈ [departing, bereft], s.repartition.current = s.pendingPart ∧
      (∀ d : DomainId, s.repartition.lists[d] = s.lists[d].filter fun p => s.pendingPart.ports[p] == some d) ∧
      s.repartition.shelves = s.shelves ∧ s.repartition.units = s.units ∧ s.repartition.queue = s.queue) ∧
    (let v := [(1 : ShelfId)].foldl (State.applyToShelf departing) departing.repartition
     let w := State.applyToShelf departing v 0
     (0 : ShelfId) ∉ [(1 : ShelfId)] ∧ v.shelves[(0 : ShelfId)].state = .acquire 0 5000 ∧
       v.units[(1 : UnitId)] = some 6 ∧ v.queue = [] ∧
       w.shelves[(0 : ShelfId)].state = .freerun ∧ w.units[(0 : UnitId)] = none) ∧
    (let v := bereft.repartition
     let w := State.applyToShelf bereft v 6
     bereft.shelfDomain 6 = v.shelfDomain 6 ∧ v.shelves[(6 : ShelfId)].steering ≠ .auto ∧
       w.shelves[(6 : ShelfId)].steering = .auto ∧ w.shelves[(6 : ShelfId)].state = .queued 2 ∧
       w.shelves[(6 : ShelfId)].lastCause = some .partition ∧ w.queue = [7, 6]) := by
  unfold State.poolSound State.listsSound State.shelvesSettled
  refine ⟨by decide +kernel, by decide +kernel, by decide +kernel, by decide +kernel⟩

/-- Shelves that stay while RP1 leaves D0: pinned to it in FREERUN or HOLDOVER; waiting LOCKED for it on an eligible port,
and on one that is not eligible but admissible in a domain with a hold-off; and a shelf under AUTO, STEER or PIN of a port
that stays, handed a new ranking. -/
theorem test_hyp_staying_shelves_of_an_apply :
    let left : Partition := { twoShelves with ports := twoShelves.ports.set 1 (some 1) }
    let under (st : ShelfState) (g : Steering) : State :=
      { (withSteering 7 st g).setGrade 2 (graded 4) with pendingPart := left }
    (∀ s ∈ [under .freerun (.pin 1), under (.holdover none) (.pin 1), under (.locked 0 (some (1, .steer))) (.steer 1),
        under (.locked 2 (some (1, .pin))) (.pin 1)],
      s.readyActive .cpa = true ∧ s.pendingPart ≠ s.current ∧ s.shelfDomain 7 = s.repartition.shelfDomain 7 ∧
        s.sameDomain 7 1 = true ∧ s.repartition.sameDomain 7 1 = false ∧ s.repartition.best 7 = some 0 ∧
        s.repartition.eligible 7 0 = true ∧ s.repartition.eligible 7 2 = false ∧ s.repartition.admissible 7 2 = true ∧
        s.repartition.shelfHoldOff 7 ≠ 0) ∧
      (∀ s ∈ [under (.locked 0 none) .auto, under (.acquire 0 5) (.steer 0), under (.locked 0 none) (.pin 0)],
        s.pendingPart ≠ s.current ∧ s.shelfDomain 7 = s.repartition.shelfDomain 7 ∧
          s.repartition.sameDomain 7 0 = true ∧ s.handed 7 ≠ s.repartition.handed 7) ∧
      after (.applyPartition .cpa) ((under .freerun (.pin 1)).setShelf 8
          { running.shelves[8] with state := .locked 0 none }) (fun t =>
        t.shelves[(7 : ShelfId)].state == .acquire 0 10000 && t.shelves[(7 : ShelfId)].lastCause == some .partition &&
          t.shelves[(7 : ShelfId)].steering == .auto) = true := by
  decide +kernel

/-- Domain 4, a hold-off of 1050 ms, the same record, a new record; the report. -/
theorem test_hyp_DomainSetupReplacesTheRecord :
    let b : DomainSetupBody := ⟨12, 0, 0, 0, 1000, 300, 8, 1, 10, 900, 240, 10, 12⟩
    running.readyActive .cpa = true ∧ 4 ≤ 4 ∧ domainRecordOf { b with holdOff := 1050 } = none ∧
      domainRecordOf { b with holdOff := 10100 } = none ∧ (3 : DomainId).val = 3 ∧
      domainRecordOf b = some running.domains[(3 : DomainId)] ∧
      domainRecordOf { b with holdOff := 10000 } = some { Domain.atReset with holdOff := 10000 } ∧
      ({ Domain.atReset with holdOff := 10000 } : Domain) ≠ running.domains[(3 : DomainId)] ∧
      running.ready .cpb = true ∧ running.phase ≠ .init ∧
      (∀ x ∈ [{ b with minGrade := 0 }, { b with minGrade := 13 }, { b with ungraded := 2 },
          { b with ungraded := 1, assumed := 0 }, { b with ungraded := 1, assumed := 13 }, { b with revertive := 2 },
          { b with restoreTime := 721 }, { b with maxHops := 0 }, { b with maxHops := 9 }, { b with truncatedTrace := 2 },
          { b with settleTime := 0 }, { b with settleTime := 61 }, { b with learnTime := 59 },
          { b with learnTime := 3601 }, { b with limit := 1441 }, { b with holdoverGrade := 0 },
          { b with holdoverGrade := 13 }, { b with freeRunGrade := 0 }, { b with freeRunGrade := 13 }],
        domainRecordOf x = none) ∧
      domainRecordOf ⟨1, 1, 12, 1, 0, 720, 8, 0, 60, 3600, 0, 1, 1⟩ =
        some ⟨1, some 12, true, 0, 720, 8, .accept, 60, 3600, none, 1, 1⟩ := by
  decide +kernel

/-- Domain 4, 25 entries, port 24; a repeat; a port of another domain; the same list; a new list. -/
theorem test_hyp_PriorityListIsCheckedAndReplaced :
    running.readyActive .cpa = true ∧ 4 ≤ 4 ∧ 24 < (List.replicate 25 0).length ∧ (∃ q ∈ [24], 24 ≤ q) ∧
      (0 : DomainId).val = 0 ∧ ¬ ([0, 0] : List PortId).Nodup ∧ ([1, 0] : List PortId).Nodup ∧
      (∃ p ∈ ([0] : List PortId), running.portDomain p ≠ some 1) ∧ (∀ p ∈ ([1, 0] : List PortId), running.portDomain p = some 0) ∧
      (List.finRange 24 = running.lists[(0 : DomainId)] ∧ (List.finRange 24).length ≤ 24 ∧ (List.finRange 24).Nodup ∧
        ∀ p ∈ List.finRange 24, running.portDomain p = some 0) ∧ [1, 0] ≠ running.lists[(0 : DomainId)] := by
  decide +kernel

/-- Selectors 5, 4 and 3; masks 1024, 1023, 32 and 31; the mask already there and a new one. -/
theorem test_hyp_EventSetsAreReportedClearedAndMasked :
    running.ready .cpa = true ∧ running.phase ≠ .init ∧ running.active = .cpa ∧ 5 ≤ 5 ∧ (3 : DomainId).val = 3 ∧
      (3 < 4 ∧ 1024 ≤ 1024) ∧ (4 = 4 ∧ 32 ≤ 32) ∧ (0x3FF#10).toNat = 1023 ∧ (0x1F#5).toNat = 31 ∧
      0#10 = running.domainEvents[(3 : DomainId)].mask ∧ 0x3FF#10 ≠ running.domainEvents[(3 : DomainId)].mask ∧
      0#5 = running.partEvents.mask ∧ 0x1F#5 ≠ running.partEvents.mask := by
  decide +kernel

/-- Line 5, value 2; line 4 with the drive it has and the other; out of reset. -/
theorem test_hyp_NotifyLinesFollowTheirSetAndDrive :
    running.readyActive .cpa = true ∧ 5 ≤ 5 ∧ 2 ≤ 2 ∧ (4 : Fin 5).val = 4 ∧
      running.lineDrives[(4 : Fin 5)] = .activeLowOpenDrain ∧ running.lineDrives[(4 : Fin 5)] ≠ .activeHighPushPull ∧
      running.inReset = false := by
  decide +kernel

/-- Shelf numbers 48 and 47, on the standby port. -/
theorem test_hyp_ShelfReportsChangeNothing :
    running.ready .cpb = true ∧ running.phase ≠ .init ∧ 48 ≤ 48 ∧ (47 : ShelfId).val = 47 := by
  decide +kernel

/-- Selectors 5, 4 and 0, with a changed shelf. -/
theorem test_hyp_ChangeReportListsAndClearsChangedShelves :
    let c := running.setShelf 7 { running.shelves[7] with changed := true }
    c.ready .cpa = true ∧ c.phase ≠ .init ∧ 5 ≤ 5 ∧ 4 < 5 ∧ c.shelves[(7 : ShelfId)].changed = true ∧ c.active = .cpa := by
  decide +kernel

/-- Shelf 48, port 24; steered already; not eligible; eligible in every shelf state of the table of R125. -/
theorem test_hyp_SteerMovesTheShelfTowardItsPort :
    running.readyActive .cpa = true ∧ 48 ≤ 48 ∧ 24 ≤ 24 ∧ (7 : ShelfId).val = 7 ∧
      (withSteering 7 .freerun (.steer 1)).shelves[(7 : ShelfId)].steering = .steer 1 ∧
      running.shelves[(7 : ShelfId)].steering ≠ .steer 1 ∧ running.eligible 7 2 = false ∧ running.eligible 7 1 = true ∧
      (held.setPort 1 upPort).eligible 7 1 = false ∧
      (((held.setPort 1 upPort).setGrade 1 (graded 5)).eligible 7 1 = true) ∧
      (((held.setPort 1 upPort).setGrade 1 (graded 5)).readyActive .cpa = true) ∧
      (withState 7 (.locked 1 none)).eligible 7 1 = true ∧ (withState 7 (.locked 0 none)).eligible 7 1 = true ∧
      (withState 7 (.acquire 1 5)).eligible 7 1 = true ∧ (withState 7 (.acquire 0 5)).eligible 7 1 = true ∧
      (withState 7 (.queued 1)).eligible 7 1 = true ∧ (withState 7 (.queued 0)).eligible 7 1 = true ∧
      (withState 7 (.bridge 2 5)).eligible 7 1 = true ∧ (withState 7 (.holdover none)).eligible 7 1 = true ∧
      (withSteering 7 (.locked 2 none) (.pin 2)).eligible 7 1 = true ∧
      (withSteering 7 (.locked 2 none) (.pin 2)).eligible 7 2 = false ∧
      (withSteering 7 (.locked 2 none) (.pin 2)).shelves[(7 : ShelfId)].steering ≠ .steer 1 := by
  decide +kernel

/-- Shelf 48, port 24; pinned already; another domain; an OFF port; a port with and without activity. -/
theorem test_hyp_PinMovesTheShelfTowardItsPortOrRests :
    let off := running.setPort 2 { Port.atReset 0 with setup := { PortSetup.atReset with enabled := false }, state := .off }
    running.readyActive .cpa = true ∧ 48 ≤ 48 ∧ 24 ≤ 24 ∧
      (withSteering 7 .freerun (.pin 1)).shelves[(7 : ShelfId)].steering = .pin 1 ∧
      running.shelves[(6 : ShelfId)].steering ≠ .pin 1 ∧ running.sameDomain 6 1 = false ∧
      off.readyActive .cpa = true ∧ off.sameDomain 7 2 = true ∧ off.ports[(2 : PortId)].state = .off ∧
      running.sameDomain 7 1 = true ∧ running.ports[(1 : PortId)].state ≠ .off ∧
      running.ports[(1 : PortId)].activity = true ∧ running.sameDomain 7 2 = true ∧
      running.ports[(2 : PortId)].state ≠ .off ∧ running.ports[(2 : PortId)].activity = false ∧
      (withState 7 (.locked 1 none)).sameDomain 7 1 = true ∧ (withState 7 (.bridge 1 5)).sameDomain 7 1 = true ∧
      (withState 7 (.locked 0 none)).sameDomain 7 2 = true ∧ held.sameDomain 7 2 = true ∧
      (withState 7 (.acquire 1 5)).shelves[(7 : ShelfId)].state = .acquire 1 5 ∧
      (withState 7 (.queued 1)).shelves[(7 : ShelfId)].state = .queued 1 ∧
      (withState 7 (.locked 2 none)).shelves[(7 : ShelfId)].state = .locked 2 none ∧
      (withState 7 (.locked 2 none)).ports[(2 : PortId)].activity = false := by
  decide +kernel

/-- Shelf 48; AUTO already; a steered shelf in HELD, LOCKED without and with a switch wanted (a unit is idle, so it moves
at once with cause CLEARED), LOCKED to a port that is not eligible, with and without a hold-off and not admissible,
ACQUIRE, QUEUED and BRIDGE with and without a candidate, and FREERUN. -/
theorem test_hyp_ClearSteeringReturnsTheShelfToAuto :
    let h := held.setShelf 7 { held.shelves[7] with steering := .pin 2 }
    let l := withSteering 7 (.locked 0 none) (.steer 0)
    let l1 := withSteering 7 (.locked 1 none) (.steer 1)
    let a := withSteering 7 (.acquire 0 5) (.steer 0)
    let a1 := withSteering 7 (.acquire 1 5) (.steer 1)
    let b := (withSteering 7 (.bridge 2 5) (.steer 2)).setGrade 2 (graded 1)
    let dn := (withSteering 7 (.locked 2 none) (.pin 2)).setGrade 2 (graded 1)
    let z : State := { dn with domains := dn.domains.set 0 { Domain.atReset with holdOff := 0 } }
    let q := withSteering 7 (.queued 1) (.pin 1)
    let alone (st : ShelfState) := ((withSteering 7 st (.pin 2)).setPort 0 (Port.atReset 0)).setPort 1 (Port.atReset 0)
    running.readyActive .cpa = true ∧ 48 ≤ 48 ∧ running.shelves[(7 : ShelfId)].steering = .auto ∧
      h.readyActive .cpa = true ∧ h.shelves[(7 : ShelfId)].steering ≠ .auto ∧ h.shelfDomain 7 ≠ none ∧
      l.shelves[(7 : ShelfId)].steering ≠ .auto ∧ l.eligible 7 0 = true ∧ l.switchWanted 7 0 = none ∧
      l1.readyActive .cpa = true ∧ l1.eligible 7 1 = true ∧ l1.switchWanted 7 1 = some (0, .better) ∧
      after (.clearSteering .cpa 7) l1 (fun t => t.shelves[(7 : ShelfId)].state == .acquire 0 10000 &&
        t.shelves[(7 : ShelfId)].lastCause == some .cleared) = true ∧
      a.eligible 7 0 = true ∧ a.best 7 = some 0 ∧ a1.eligible 7 1 = true ∧ a1.best 7 ≠ some 1 ∧
      dn.readyActive .cpa = true ∧ dn.eligible 7 2 = false ∧ dn.admissible 7 2 = true ∧ dn.shelfHoldOff 7 ≠ 0 ∧
      z.eligible 7 2 = false ∧ z.admissible 7 2 = true ∧ z.shelfHoldOff 7 = 0 ∧ z.best 7 = some 0 ∧
      (alone (.locked 2 none)).admissible 7 2 = false ∧ (alone (.locked 2 none)).best 7 = none ∧
      (alone (.acquire 2 5)).readyActive .cpa = true ∧ (alone (.acquire 2 5)).best 7 = none ∧
      q.shelves[(7 : ShelfId)].state = .queued 1 ∧ q.best 7 = some 0 ∧ (alone (.queued 2)).best 7 = none ∧
      b.admissible 7 2 = true ∧ (alone (.bridge 2 5)).admissible 7 2 = false ∧
      (withSteering 7 .freerun (.pin 2)).best 7 = some 0 ∧ (withSteering 7 .freerun (.pin 2)).readyActive .cpa = true := by
  decide +kernel

/-- Shelf 48, port 24; a cell that is ALLOW and one that is BAR. -/
theorem test_hyp_BarAndAllowWriteOneCell :
    running.readyActive .cpa = true ∧ 48 ≤ 48 ∧ 24 ≤ 24 ∧ (47 : ShelfId).val = 47 ∧ (23 : PortId).val = 23 ∧
      running.barred 47 23 = false ∧ (running.setCell 47 23 .bar).barred 47 23 = true ∧
      (running.setCell 47 23 .bar).readyActive .cpa = true := by
  decide +kernel

/-- A window of one cell and the whole matrix; each refusal; EXCLUSION ROW. -/
theorem test_hyp_OpenWindowPlacesTheCursorFirst :
    let one : Window := ⟨47, 47, 23, 23, .byPort, 0⟩
    let whole : Window := ⟨0, 47, 0, 23, .byShelf, 0⟩
    running.readyActive .cpa = true ∧ one.firstShelf ≤ one.lastShelf ∧ one.firstPort ≤ one.lastPort ∧ one.cursor = 0 ∧
      whole.firstShelf ≤ whole.lastShelf ∧ whole.firstPort ≤ whole.lastPort ∧ whole.cursor = 0 ∧
      48 ≤ 48 ∧ 24 ≤ 24 ∧ 0 < 1 ∧ 2 ≤ 2 ∧ running.ready .cpb = true ∧ running.phase ≠ .init ∧ (47 : ShelfId).val = 47 := by
  decide +kernel

/-- No cells and 1153 cells; no window; one cell and 1152 cells with a window. -/
theorem test_hyp_WindowWritesFillCellsInScanOrder :
    let s : State := { running with window := some ⟨4, 6, 10, 13, .byShelf, 9⟩ }
    running.readyActive .cpa = true ∧ ([] : List CellValue).length = 0 ∧ 1152 < (List.replicate 1153 CellValue.bar).length ∧
      running.window = none ∧ 1 ≤ [CellValue.bar].length ∧ (List.replicate 1152 CellValue.bar).length ≤ 1152 ∧
      s.readyActive .cpa = true ∧ s.window = some ⟨4, 6, 10, 13, .byShelf, 9⟩ ∧
      min 5 ((⟨4, 6, 10, 13, .byShelf, 9⟩ : Window).count - 9) = 3 ∧
      (⟨4, 6, 10, 13, .byShelf, 9⟩ : Window).cellAt (9 + 2) = some (6, 13) := by
  decide +kernel

/-- Shelf 48, mode 4; the active setup again; a setup on a fixed level and on a clock; a seam with and without one pending. -/
theorem test_hyp_OutputSetupWaitsForTheSeam :
    (let o := running.outputs[(7 : ShelfId)]
     let line (d : Drive) := running.setOutput 7 { o with drive := d }
     ∀ d ∈ [Drive.low, .high, .localOsc, .tracker], (line d).inReset = false ∧ (line d).outputs[(7 : ShelfId)].drive = d) ∧
    let p := running.setOutput 7 { running.outputs[7] with pendingSetup := some { OutputSetup.atReset with mode := .mark } }
    running.readyActive .cpa = true ∧ 48 ≤ 48 ∧ outputSetupOf ⟨1, 4, 0, 0, 0⟩ = none ∧ outputSetupOf ⟨1, 0, 0, 0, 13⟩ = none ∧
      (47 : ShelfId).val = 47 ∧
      outputSetupOf ⟨1, 0, 0, 0, 0⟩ =
        some (running.outputs[(47 : ShelfId)].pendingSetup.getD running.outputs[(47 : ShelfId)].active) ∧
      outputSetupOf ⟨1, 0, 0, 0, 12⟩ = some { OutputSetup.atReset with squelch := some 12 } ∧
      running.inReset = false ∧ running.outputs[(7 : ShelfId)].pendingSetup = none ∧
      p.inReset = false ∧ p.outputs[(7 : ShelfId)].pendingSetup = some { OutputSetup.atReset with mode := .mark } ∧
      outputSetupOf ⟨2, 0, 0, 0, 0⟩ = none ∧ outputSetupOf ⟨1, 0, 2, 0, 0⟩ = none ∧ outputSetupOf ⟨1, 0, 0, 2, 0⟩ = none ∧
      (∀ sh : ShelfId, running.shelves[sh].valid = running.holdoverValid sh) ∧
      (running.driveUnder 47 running.outputs[(47 : ShelfId)].active running.outputs[(47 : ShelfId)].frozen).1.fixed = true ∧
      (running.driveUnder 7 running.outputs[(7 : ShelfId)].active running.outputs[(7 : ShelfId)].frozen).1.fixed = false ∧
      ({ OutputSetup.atReset with squelch := some 12 } : OutputSetup) ≠
        running.outputs[(7 : ShelfId)].pendingSetup.getD running.outputs[(7 : ShelfId)].active := by
  decide +kernel

/-- No starting time; a message due with the line idle and busy, changed and unchanged; an end with and without one waiting. -/
theorem test_hyp_GradeMessagesAreSentWhenDue :
    let o := running.outputs[(7 : ShelfId)]
    let idle := running.setOutput 7 { o with sending := none, changedMark := true }
    let due := running.setOutput 7 { o with sendDue := true }
    let quiet := running.setOutput 7 { o with lastStart := none }
    running.inReset = false ∧ quiet.outputs[(7 : ShelfId)].lastStart = none ∧ o.lastStart = some 0 ∧
      o.active.enabled = true ∧ o.outgoing = some (shunMsg 0x0100#16) ∧ o.changedMark = false ∧ o.sending ≠ none ∧
      idle.outputs[(7 : ShelfId)].sending = none ∧ idle.outputs[(7 : ShelfId)].changedMark = true ∧
      o.sendDue = false ∧ due.outputs[(7 : ShelfId)].sendDue = true ∧ due.outputs[(7 : ShelfId)].outgoing ≠ none ∧
      (let off : OutputSetup := { OutputSetup.atReset with enabled := false }
       let going := running.setOutput 7 { o with pendingSetup := some off }
       let coming := running.setOutput 7 { o with active := off, pendingSetup := some OutputSetup.atReset }
       going.outputs[(7 : ShelfId)].pendingSetup = some off ∧ going.outputs[(7 : ShelfId)].active.enabled = true ∧
         off.enabled = false ∧ coming.outputs[(7 : ShelfId)].pendingSetup = some OutputSetup.atReset ∧
         coming.outputs[(7 : ShelfId)].active.enabled = false ∧ OutputSetup.atReset.enabled = true ∧
         coming.outputs[(7 : ShelfId)].sending ≠ none ∧
         (coming.setOutput 7 { coming.outputs[7] with sending := none }).outputs[(7 : ShelfId)].sending = none) := by
  decide +kernel

/-- A request of every length: the shortest, the longest list and the longest window write. -/
theorem test_hyp_RequestFramesAreReadBack :
    Request.identity.wf = true ∧ (Request.priorityList 255 (List.replicate 249 255)).wf = true ∧
      (Request.writeWindow (List.replicate 1992 .bar)).wf = true ∧ (Request.eventMask 255 65535).wf = true := by
  decide +kernel

/-- An empty receiver, idle and WORKING; all but the last byte in the receiver, and a byte after the frame. -/
theorem test_hyp_FrameWriteDeliversItsRequest :
    (Instr.steer .cpa 12 3).request? = some (.cpa, .steer 12 3) ∧ (Request.steer 12 3).wf = true ∧
      running.inReset = false ∧ (running.cpi .cpa).receiver = [] ∧ (busy .cpa).inReset = false ∧
      ((busy .cpa).cpi .cpa).receiver = [] ∧
      Request.steer 12 3 ≠ .restart ∧ State.reset.inReset = false ∧ (State.reset.cpi .cpa).receiver = [] ∧
      State.reset.phase = .init ∧ running.active = otherPort .cpb ∧ (running.cpi .cpb).receiver = [] ∧
      (Instr.restart .cpb).request? = some (.cpb, .restart) ∧ Request.restart.wf = true ∧
      (let frame := requestFrame (.steer 12 3)
       let s := running.setCpi .cpa { running.cpa with receiver := frame.take 5 }
       s.inReset = false ∧ (s.cpi .cpa).receiver = frame.take 5 ∧
         frame.take 5 ++ (frame.drop 5 ++ [4]) = frame ++ [4] ∧ (frame.take 5).length < frame.length) := by
  decide +kernel

/-- A partial frame, to write and in the receiver; a length byte of 3; a wrong CRC; an unknown kind; a port that is WORKING. -/
theorem test_hyp_BadFramesAreAnsweredOrDropped :
    let unknown : List Byte := frameOf 0x77 [1, 2]
    running.inReset = false ∧ (running.cpi .cpa).receiver = [] ∧ (running.cpi .cpa).stage = .idle ∧
      ([6, 0x41, 12] : List Byte).head? = some 6 ∧ 4 ≤ (6#8).toNat ∧ ([6, 0x41, 12] : List Byte).length < (6#8).toNat ∧
      ([3] : List Byte).head? = some 3 ∧ (3#8).toNat < 4 ∧
      ([4, 1, 0, 0] : List Byte).head? = some 4 ∧ (4#8).toNat = ([4, 1, 0, 0] : List Byte).length ∧
      crc16 [4, 1, 0, 0] ≠ 0 ∧
      unknown.head? = some 6 ∧ (6#8).toNat = unknown.length ∧ crc16 unknown = 0 ∧ unknown[1]? = some 0x77 ∧
      bodyReader 0x77 = none ∧
      (busy .cpa).inReset = false ∧ ((busy .cpa).cpi .cpa).receiver = [] ∧ ((busy .cpa).cpi .cpa).stage = .working none ∧
      (let long : List Byte := frameOf 0x41 [12, 3, 0]
       long.head? = some 7 ∧ (7#8).toNat = long.length ∧ crc16 long = 0 ∧ lengthCalledFor long = some 6) ∧
      (let right : List Byte := frameOf 0x26 [0, 2, 1, 0]
       right.head? = some 8 ∧ crc16 right = 0 ∧ lengthCalledFor right = some right.length) ∧
      (let cells : List Byte := frameOf 0x46 [0, 9, 0xFF, 0xFF]
       crc16 cells = 0 ∧ lengthCalledFor cells = some cells.length) ∧
      (let s := running.setCpi .cpa { running.cpa with receiver := [255] }
       s.inReset = false ∧ (s.cpi .cpa).receiver = [255] ∧ ([255] : List Byte).head? = some 255 ∧
         4 ≤ (255#8).toNat ∧ ([255] : List Byte).length < (255#8).toNat) := by
  decide +kernel

/-- A port with a reply and a port without one. -/
theorem test_hyp_TransactionsShiftOutStatusAndReply :
    let s := running.setCpi .cpa { running.cpa with stage := .reply [5, 0, 1, 2, 3] }
    s.inReset = false ∧ (s.cpi .cpa).stage = .reply [5, 0, 1, 2, 3] ∧ running.inReset = false ∧
      (running.cpi .cpa).stage = .idle ∧
      (0x5B#8 ≠ 0x5A#8 ∧ 0x5B#8 ≠ 0xA5#8 ∧ 0x5B#8 ≠ 0x3C#8) ∧ ([1, 2] : List Byte).length = 2 := by
  decide +kernel

/-- Nothing carried out; a reply to place with nobody waiting, and with a request waiting on the other port. -/
theorem test_hyp_PlacedRepliesFreeTheExecutor :
    let w := (busy .cpa).setCpi .cpb { (busy .cpa).cpb with stage := .working (some .identity) }
    running.inReset = false ∧ running.carrying = none ∧ (busy .cpa).inReset = false ∧
      (busy .cpa).carrying = some (.cpa, (Reply.ok []).frame) ∧ (busy .cpa).waiting .cpb = none ∧
      w.inReset = false ∧ w.carrying = some (.cpa, (Reply.ok []).frame) ∧ w.waiting (otherPort .cpa) = some .identity ∧
      Request.identity ≠ .restart ∧
      (Instr.identity .cpb).request? = some (otherPort .cpa, .identity) ∧
      (let r := (busy .cpa).setCpi .cpb { (busy .cpa).cpb with stage := .working (some .restart) }
       r.waiting (otherPort .cpa) = some .restart ∧ (Instr.restart .cpb).request? = some (otherPort .cpa, .restart)) ∧
      (busy .cpa).carrying ≠ none ∧ ((busy .cpa).cpi .cpb).stage = .idle ∧
      (running.waiting .cpa = none ∧ running.waiting .cpb = none ∧ running.cpa.stage ≠ .working none ∧
        running.cpb.stage ≠ .working none) ∧ (busy .cpa).cpa.stage = .working none ∧
      (busy .cpa).cpb.stage ≠ .working none := by
  decide +kernel

/-- The conditions that every step keeps hold in `running` and in `held`, and a step from there answers a next state. -/
theorem test_hyp_EveryStepKeeps :
    (∀ s ∈ [running, held],
      (∀ p : PortId, s.ports[p].sound s.mayMeasure = true ∧ s.ports[p].state ≠ .qualifying) ∧
      (∀ p : PortId, s.ports[p].setup.sound = true ∧ s.grades[p].sound = true ∧
        s.grades[p].loopFlag = s.grades[p].trace.contains s.nodeId) ∧
      (∀ d : DomainId, (∀ p ∈ s.lists[d], s.portDomain p = some d) ∧ s.lists[d].Nodup ∧ s.lists[d].length ≤ 24) ∧
      (∀ sh : ShelfId, s.shelves[sh].state.isHeld = true ↔ s.phase ≠ .running) ∧ s.osc.latch = false ∧
      (∀ sh : ShelfId, s.shelves[sh].valid = s.holdoverValid sh) ∧
      (∀ u : UnitId, s.units[u] = none) ∧ s.queue = [] ∧
      (∀ sh : ShelfId, s.shelves[sh].state.isAcquire = false ∧ s.shelves[sh].state.waits = false) ∧
      (∀ sh : ShelfId, s.outputs[sh].active.enabled = true ∧ s.outputs[sh].outgoing = some (shunMsg s.nodeId))) ∧
      after .guardPresent running (fun _ => true) = true := by
  decide +kernel

/-- The latch condition with the latch set. -/
theorem test_hyp_EveryStepKeepsTheLatchMeaning :
    faulty.osc.latch = true ∧ faulty.inReset = false ∧
      (∀ sh : ShelfId, faulty.shelves[sh].learned = 0 ∧ faulty.shelves[sh].state.isHoldover = false) ∧
      (∀ p : PortId, faulty.ports[p].state ≠ .suspect ∧ faulty.ports[p].window = none) ∧
      (∀ p : PortId, faulty.ports[p].sound faulty.mayMeasure = true) ∧
      after (.checkComplete 0) { faulty with osc := { faulty.osc with check := some 1 } } (fun t => !t.osc.latch) = true := by
  decide +kernel

/-- The conditions on pool, lists and shelves with every unit lent and a shelf waiting, and a step that lends on. -/
theorem test_hyp_EveryStepKeepsThePoolSound :
    (∀ u : UnitId, ∀ sh : ShelfId, full.units[u] = some sh → full.shelves[sh].state.isAcquire = true) ∧
      (∀ sh : ShelfId, full.shelves[sh].state.isAcquire = true → ∃ u : UnitId, full.units[u] = some sh) ∧
      (∀ u v : UnitId, u ≠ v → full.units[u] ≠ full.units[v]) ∧
      (∀ sh : ShelfId, sh ∈ full.queue ↔ full.shelves[sh].state.waits = true) ∧ full.queue.Nodup ∧ full.queue ≠ [] ∧
      (∀ u : UnitId, full.units[u] ≠ none) ∧
      (∀ d : DomainId, (∀ p ∈ full.lists[d], full.portDomain p = some d) ∧ full.lists[d].Nodup ∧ full.lists[d].length ≤ 24) ∧
      (∀ sh : ShelfId, full.shelfSettled sh = true) ∧
      after (.settleComplete 3) full (fun t => t.units[(3 : UnitId)] == some 6 && t.queue == []) = true := by
  decide +kernel

/-- The pool condition where the statements on single moves speak of it: with two shelves waiting, a shelf that bridges, one
that settles, one that is steered, pinned and cleared, and one that PIN lets go under APPLY PARTITION. -/
theorem test_hyp_poolSound_of_single_moves :
    let b := crowded.setShelf 8 { crowded.shelves[8] with state := .bridge 1 500 }
    let g := crowded.setShelf 8 { crowded.shelves[8] with steering := .pin 1 }
    (∀ s ∈ [crowded, b, g],
      (∀ u : UnitId, ∀ sh : ShelfId, s.units[u] = some sh → s.shelves[sh].state.isAcquire = true) ∧
        (∀ sh : ShelfId, s.shelves[sh].state.isAcquire = true → ∃ u : UnitId, s.units[u] = some sh) ∧
        (∀ u v : UnitId, u ≠ v → s.units[u] ≠ s.units[v]) ∧
        (∀ sh : ShelfId, sh ∈ s.queue ↔ s.shelves[sh].state.waits = true) ∧ s.queue.Nodup ∧ s.queue ≠ [] ∧
        (∀ u : UnitId, s.units[u] ≠ none) ∧ s.readyActive .cpa = true ∧ s.inReset = false) ∧
      b.shelves[(8 : ShelfId)].state = .bridge 1 500 ∧ crowded.shelves[(3 : ShelfId)].state = .acquire 0 5000 ∧
      crowded.eligible 8 0 = true ∧ crowded.shelves[(8 : ShelfId)].steering = .auto ∧ crowded.sameDomain 8 0 = true ∧
      g.shelves[(8 : ShelfId)].steering ≠ .auto ∧ crowded.settleMs 7 = 10000 ∧
      after (.clearSteering .cpa 8) g (fun t => t.queue == [7, 6, 8]) = true ∧
      after (.holdOffExpiry 8) b (fun t => t.shelves[(8 : ShelfId)].state == .queued 0 && t.queue == [7, 6, 8]) = true := by
  decide +kernel

/-- The output conditions with an output disabled, one with a tracker clock and one with a local clock. -/
theorem test_hyp_EveryStepKeepsUnclockedOutputsShun :
    let x := (running.setOutput 7 { running.outputs[7] with
      active := { OutputSetup.atReset with enabled := false } }).setOutput 8 { running.outputs[8] with
        active := { OutputSetup.atReset with mode := .localOsc } }
    let s := State.refresh x x
    (∀ sh : ShelfId, s.shelves[sh].valid = s.holdoverValid sh) ∧ s.shelfDomain 7 = some 0 ∧
      s.outputs[(7 : ShelfId)].active.enabled = false ∧ s.outputs[(7 : ShelfId)].outgoing = none ∧
      s.outputs[(8 : ShelfId)].drive = .localOsc ∧
      (∀ sh : ShelfId,
        (s.outputs[sh].active.enabled = true → s.outputs[sh].drive.fixed = true →
          s.outputs[sh].outgoing = some (shunMsg s.nodeId)) ∧
        (s.outputs[sh].drive, s.outputs[sh].reason) = s.driveUnder sh s.outputs[sh].active s.outputs[sh].frozen ∧
        s.outputs[sh].tracker = s.trackerOf sh ∧
        s.outputs[sh].outgoing =
          s.messageFor sh s.outputs[sh].active.enabled s.outputs[sh].drive s.outputs[sh].frozen ∧
        s.outputs[sh].frozen = none ∧ s.shelves[sh].state.isBridge = false ∧ s.outputs[sh].pendingSetup = none ∧
        (s.outputs[sh].active.enabled = true → s.outputs[sh].changedMark = false →
          s.outputs[sh].lastSent = s.outputs[sh].outgoing)) ∧
      s.inReset = false ∧ s.phase = .running ∧ bringsFrame (.applyPartition .cpa) = false ∧
      bringsFrame (.outputSeam 7) = false ∧
      after (.activityLoss 0) (State.refresh (withState 7 (.locked 0 none)) (withState 7 (.locked 0 none))) (fun t =>
        !t.inReset && t.phase == .running && t.shelves[(7 : ShelfId)].state.isBridge && t.outputs[(7 : ShelfId)].frozen.isSome) = true := by
  decide +kernel

/-- Ports and shelves are where the conditions want them in HELD and in RUNNING with shelves waiting, locked with a
pending target, bridging, steered and pinned. -/
theorem test_hyp_EveryStepKeepsShelvesWhereTheirRankingsCall :
    let up := held.setPort 0 upPort
    let nominated := up.setGrade 0 (graded 3)
    (∀ p : PortId, full.ports[p].sound full.mayMeasure = true) ∧ (∀ sh : ShelfId, full.shelfSettled sh = true) ∧
      (∀ p : PortId, nominated.ports[p].sound nominated.mayMeasure = true) ∧
      (∀ sh : ShelfId, (State.refresh nominated nominated).shelfSettled sh = true) ∧
      (State.refresh nominated nominated).shelves[(0 : ShelfId)].state = .held (some 0) ∧
      (withState 7 (.locked 1 (some (0, .better)))).shelfSettled 7 = true ∧
      ((withState 7 (.bridge 2 5)).setGrade 2 (graded 1)).shelfSettled 7 = true ∧
      (withSteering 7 (.locked 0 (some (1, .steer))) (.steer 1)).shelfSettled 7 = true ∧
      (withSteering 7 .freerun (.pin 2)).shelfSettled 7 = true ∧
      (withState 7 .freerun).shelfSettled 7 = false ∧
      after (.bar .cpa 6 0) full (fun t => t.shelves[(6 : ShelfId)].state == .queued 1) = true ∧
      (let w := full.setShelf 6 { full.shelves[6] with state := .locked 2 none, steering := .pin 2 }
       let s : State := { w with ports := w.ports.set 2 upPort, queue := [] }
       (∀ p : PortId, s.ports[p].sound s.mayMeasure = true) ∧ (∀ sh : ShelfId, s.shelfSettled sh = true) ∧
         after (.steer .cpa 6 1) s (fun t => t.shelves[(6 : ShelfId)].steering == .steer 1 &&
           t.shelves[(6 : ShelfId)].state == .locked 2 (some (1, .steer)) && !t.eligible 6 2) = true) := by
  decide +kernel

end Sys2Proof.Tests
end

section
/-!
PROOFS. ASSIGN PORT and ASSIGN SHELF (R41, R42): the operand fields they read, what each does to the pending partition, and
the path of an accepted request from a ready active port to its fixed reply (R171, R172).
-/

namespace Sys2Proof.Machine

/-! ## Operand fields -/

theorem boundedOf_eq_none {n bound : Nat} (h : bound ≤ n) : boundedOf n bound = none := dif_neg (Nat.not_lt.mpr h)

@[simp] theorem boundedOf_val {bound : Nat} (i : Fin bound) : boundedOf i.val bound = some i := dif_pos i.isLt

theorem portOf_eq_none {n : Nat} (h : 24 ≤ n) : portOf n = none := boundedOf_eq_none h

@[simp] theorem portOf_val (p : PortId) : portOf p.val = some p := boundedOf_val p

theorem shelfOf_eq_none {n : Nat} (h : 48 ≤ n) : shelfOf n = none := boundedOf_eq_none h

@[simp] theorem shelfOf_val (sh : ShelfId) : shelfOf sh.val = some sh := boundedOf_val sh

theorem domainValueOf_eq_none {v : Nat} (h : 4 ≤ v) (hv : v ≠ 0xFF) : domainValueOf v = none := by
  simp [domainValueOf, hv, domainOf, boundedOf_eq_none h]

@[simp] theorem domainValueOf_elim (d : Option DomainId) : domainValueOf (d.elim 0xFF (·.val)) = some d := by
  cases d with
  | none => rfl
  | some d =>
    have hd : d.val ≠ 0xFF := by omega
    simp [domainValueOf, hd, domainOf]

/-! ## The rules of the two requests -/

/-- The field check of R41. -/
theorem doAssignPort_badField (s : State) {n v : Nat} (h : 24 ≤ n ∨ (4 ≤ v ∧ v ≠ 0xFF)) :
    s.doAssignPort n v = (s, Reply.plain .badField) := by
  unfold State.doAssignPort
  obtain hn | ⟨hv, hnone⟩ := h
  · rw [portOf_eq_none hn]
  · rw [domainValueOf_eq_none hv hnone]
    cases portOf n <;> rfl

/-- ASSIGN PORT with fields in range (R41). -/
theorem doAssignPort_inRange (s : State) (p : PortId) (d : Option DomainId) :
    s.doAssignPort p.val (d.elim 0xFF (·.val)) =
      if s.pendingPart.ports[p] = d then (s, Reply.plain .noChange)
      else ({ s with pendingPart := { s.pendingPart with ports := s.pendingPart.ports.set p d } }, Reply.ok []) := by
  unfold State.doAssignPort
  rw [portOf_val, domainValueOf_elim]

/-- The field check of R42. -/
theorem doAssignShelf_badField (s : State) {n v : Nat} (h : 48 ≤ n ∨ (4 ≤ v ∧ v ≠ 0xFF)) :
    s.doAssignShelf n v = (s, Reply.plain .badField) := by
  unfold State.doAssignShelf
  obtain hn | ⟨hv, hnone⟩ := h
  · rw [shelfOf_eq_none hn]
  · rw [domainValueOf_eq_none hv hnone]
    cases shelfOf n <;> rfl

/-- ASSIGN SHELF with fields in range (R42). -/
theorem doAssignShelf_inRange (s : State) (sh : ShelfId) (d : Option DomainId) :
    s.doAssignShelf sh.val (d.elim 0xFF (·.val)) =
      if s.pendingPart.shelves[sh] = d then (s, Reply.plain .noChange)
      else ({ s with pendingPart := { s.pendingPart with shelves := s.pendingPart.shelves.set sh d } }, Reply.ok []) := by
  unfold State.doAssignShelf
  rw [shelfOf_val, domainValueOf_elim]

/-! ## The path of an accepted request -/

/-- What `readyActive` says. -/
theorem readyActive_parts {s : State} {cp : ControlPort} (h : s.readyActive cp = true) :
    s.ready cp = true ∧ s.phase ≠ .init ∧ s.active = cp := by
  simpa [State.readyActive, and_assoc] using h

@[simp] theorem arrived_pendingPart (s : State) (cp : ControlPort) (r : Request) :
    (s.arrived cp r).pendingPart = s.pendingPart := setCpi_pendingPart _ _ _

/-- An arrival does not touch the pending partition, so the two writes commute. -/
theorem arrived_withPendingPart (s : State) (cp : ControlPort) (r : Request) (part : Partition) :
    ({ s.arrived cp r with pendingPart := part } : State) = ({ s with pendingPart := part } : State).arrived cp r := by
  cases cp <;> rfl

/-- Once the reply is fixed, nothing is left of the request's wait on its port (R171). -/
theorem arrived_answered (t : State) (cp : ControlPort) (r : Request) (reply : Reply) :
    ({ t.arrived cp r with carrying := some (cp, reply.frame), prevSupplier := some cp } : State).setStage cp
      (.working none) = t.answered cp reply.code reply.body := by
  cases cp <;> rfl

/-- A request completing on a ready active port goes straight to its own rule, and the reply the rule gives is fixed
(R171, R172). The rule sees the part with the request arrived; `t` is what it makes of the part but for that. -/
theorem live_complete_answered {s t : State} {cp : ControlPort} {r : Request} {reply : Reply}
    (h : s.readyActive cp = true) (hr : r ≠ .restart)
    (hrule : (s.arrived cp r).carryOut cp r = (t.arrived cp r, reply)) :
    s.live (fun s => s.complete cp (.request r)) = .next (t.answered cp reply.code reply.body) := by
  obtain ⟨hready, hphase, hactive⟩ := readyActive_parts h
  obtain ⟨hreset, -, -, -⟩ := ready_parts hready
  have hchecks : (s.arrived cp r).precheck cp r = none :=
    precheck_active _ _ _ (by simpa [State.arrived] using hphase) (by simpa [State.arrived] using hactive)
  have hanswer : (s.arrived cp r).answer cp r = (t.arrived cp r, reply) := (answer_carried _ _ _ hchecks).trans hrule
  rw [live_of_not_inReset _ _ hreset, complete_takes _ _ _ hready, take_answers _ _ _ hr, hanswer, arrived_answered]

/-- ASSIGN PORT on a ready active port, from what its rule gives (R41). -/
theorem exec_assignPort_answered {s t : State} {cp : ControlPort} {n v : Nat} {reply : Reply}
    (h : s.readyActive cp = true)
    (hrule : (s.arrived cp (.assignPort n v)).doAssignPort n v = (t.arrived cp (.assignPort n v), reply)) :
    exec (.assignPort cp n v) s = .next (t.answered cp reply.code reply.body) :=
  live_complete_answered h (by simp) hrule

/-- ASSIGN SHELF on a ready active port, from what its rule gives (R42). -/
theorem exec_assignShelf_answered {s t : State} {cp : ControlPort} {n v : Nat} {reply : Reply}
    (h : s.readyActive cp = true)
    (hrule : (s.arrived cp (.assignShelf n v)).doAssignShelf n v = (t.arrived cp (.assignShelf n v), reply)) :
    exec (.assignShelf cp n v) s = .next (t.answered cp reply.code reply.body) :=
  live_complete_answered h (by simp) hrule

/-- Settles O29: on the active port each request comes to its own rule, whose branches are the clauses. -/
theorem assignmentsEditThePendingPartition : Obligations.AssignmentsEditThePendingPartition := by
  intro cp n v s h
  refine ⟨fun hbad => ?portBad, fun hbad => ?shelfBad, ?port, ?shelf⟩
  case portBad => exact exec_assignPort_answered h (doAssignPort_badField _ hbad)
  case shelfBad => exact exec_assignShelf_answered h (doAssignShelf_badField _ hbad)
  case port =>
    rintro p d rfl rfl
    constructor
    · intro hsame
      refine exec_assignPort_answered (reply := Reply.plain .noChange) h ?_
      rw [doAssignPort_inRange, arrived_pendingPart, if_pos hsame]
    · intro hnew
      refine exec_assignPort_answered (reply := Reply.ok []) h ?_
      rw [doAssignPort_inRange, arrived_pendingPart, if_neg hnew, arrived_withPendingPart]
  case shelf =>
    rintro sh d rfl rfl
    constructor
    · intro hsame
      refine exec_assignShelf_answered (reply := Reply.plain .noChange) h ?_
      rw [doAssignShelf_inRange, arrived_pendingPart, if_pos hsame]
    · intro hnew
      refine exec_assignShelf_answered (reply := Reply.ok []) h ?_
      rw [doAssignShelf_inRange, arrived_pendingPart, if_neg hnew, arrived_withPendingPart]

end Sys2Proof.Machine
end

section
/-!
PROOFS. TAKE CONTROL, YIELD CONTROL and YIELD PERMISSION (R174 to R177): the checks of R172 on each side of the
designation, what each rule makes of the part, and the path of a request from a ready port to its fixed reply where the
request may be refused (R171, R172).
-/

namespace Sys2Proof.Machine

/-! ## The two control ports and the flag field -/

theorem eq_otherPort_iff {p q : ControlPort} : p = otherPort q ↔ p ≠ q := by
  cases p <;> cases q <;> decide

@[simp] theorem flagOf_toNat (b : Bool) : flagOf b.toNat = some b := by cases b <;> rfl

theorem flagOf_eq_none {v : Nat} (h : 2 ≤ v) : flagOf v = none := by
  obtain ⟨k, rfl⟩ := Nat.exists_eq_add_of_le' h
  rfl

/-! ## The checks of R172 -/

@[simp] theorem precheck_arrived (s : State) (cp : ControlPort) (q r : Request) :
    (s.arrived cp q).precheck cp r = s.precheck cp r := by
  simp [State.precheck, State.arrived]

theorem precheck_init {s : State} (cp : ControlPort) {r : Request} (hp : s.phase = .init) (hr : r ≠ .identity) :
    s.precheck cp r = some .wrongPhase := by
  simp [State.precheck, hp, hr]

theorem precheck_standby {s : State} {cp : ControlPort} {r : Request} (hp : s.phase ≠ .init)
    (ha : s.active = otherPort cp) (hr : isChanging r = true) : s.precheck cp r = some .notActive := by
  simp [State.precheck, hp, hr, eq_otherPort_iff.mp ha]

/-- A request outside the changing class passes on either port (R172). -/
theorem precheck_notChanging {s : State} (cp : ControlPort) {r : Request} (hp : s.phase ≠ .init)
    (hr : isChanging r = false) : s.precheck cp r = none := by
  simp [State.precheck, hp, hr]

/-! ## The rules of the three requests -/

/-- A change of control seen from the port that gains it (R174). -/
theorem changeControl_eq {s : State} {cp : ControlPort} (ha : s.active = otherPort cp) :
    s.changeControl = { s with active := cp, window := none, partEvents := s.partEvents.raise .control } := by
  simp [State.changeControl, State.raisePart, ha]

/-- TAKE CONTROL from the active port (R175). -/
theorem doTakeControl_active {s : State} {cp : ControlPort} (ha : s.active = cp) :
    s.doTakeControl cp = (s, Reply.plain .noChange) := if_pos ha

/-- TAKE CONTROL from the standby port (R175). -/
theorem doTakeControl_standby {s : State} {cp : ControlPort} (ha : s.active = otherPort cp) :
    s.doTakeControl cp =
      if s.yieldPermission then (s.changeControl, Reply.ok []) else (s, Reply.plain .denied) :=
  if_neg (eq_otherPort_iff.mp ha)

/-- The field check of R177. -/
theorem doYieldPermission_badField (s : State) {v : Nat} (h : 2 ≤ v) :
    s.doYieldPermission v = (s, Reply.plain .badField) := by
  rw [State.doYieldPermission, flagOf_eq_none h]

/-- YIELD PERMISSION with its field in range (R177). -/
theorem doYieldPermission_inRange (s : State) (b : Bool) :
    s.doYieldPermission b.toNat =
      if b = s.yieldPermission then (s, Reply.plain .noChange)
      else ({ s with yieldPermission := b }, Reply.ok []) := by
  rw [State.doYieldPermission, flagOf_toNat]

/-! ## An arrival is not seen by the three rules -/

@[simp] theorem arrived_active (s : State) (cp : ControlPort) (r : Request) : (s.arrived cp r).active = s.active :=
  setCpi_active _ _ _

@[simp] theorem arrived_yieldPermission (s : State) (cp : ControlPort) (r : Request) :
    (s.arrived cp r).yieldPermission = s.yieldPermission := setCpi_yieldPermission _ _ _

/-- An arrival touches nothing that a change of control reads or writes, so the two commute. -/
theorem arrived_changeControl (s : State) (cp : ControlPort) (r : Request) :
    (s.arrived cp r).changeControl = s.changeControl.arrived cp r := by
  cases cp <;> rfl

/-- An arrival does not touch the yield permission, so the two writes commute. -/
theorem arrived_withYieldPermission (s : State) (cp : ControlPort) (r : Request) (b : Bool) :
    ({ s.arrived cp r with yieldPermission := b } : State) =
      ({ s with yieldPermission := b } : State).arrived cp r := by
  cases cp <;> rfl

/-- A request's rule does not see that the request has arrived: it answers the same, and what it changes of the part
commutes with the arrival. -/
def BlindToArrival (r : Request) : Prop :=
  ∀ (s : State) (cp : ControlPort),
    (s.arrived cp r).carryOut cp r = ((s.carryOut cp r).1.arrived cp r, (s.carryOut cp r).2)

theorem takeControl_blindToArrival : BlindToArrival .takeControl := by
  intro s cp
  simp only [State.carryOut, State.doTakeControl, arrived_active, arrived_yieldPermission, arrived_changeControl]
  split_ifs <;> rfl

theorem yieldControl_blindToArrival : BlindToArrival .yieldControl := fun s cp =>
  congrArg (·, Reply.ok []) (arrived_changeControl s cp _)

theorem yieldPermission_blindToArrival (v : Nat) : BlindToArrival (.yieldPermission v) := by
  intro s cp
  simp only [State.carryOut, State.doYieldPermission, arrived_yieldPermission, arrived_withYieldPermission]
  cases flagOf v with
  | none => rfl
  | some b => dsimp only; split_ifs <;> rfl

/-! ## The path of a request that the checks may refuse -/

/-- The checks do not see the arrival either, so neither does the whole answer (R172). -/
theorem answer_arrived {r : Request} (hblind : BlindToArrival r) (s : State) (cp : ControlPort) :
    (s.arrived cp r).answer cp r = ((s.answer cp r).1.arrived cp r, (s.answer cp r).2) := by
  cases hchecks : s.precheck cp r with
  | some code => rw [answer_refused _ _ _ _ hchecks, answer_refused _ _ _ code (by rw [precheck_arrived, hchecks])]
  | none => rw [answer_carried _ _ _ hchecks, answer_carried _ _ _ (by rw [precheck_arrived, hchecks]), hblind]

/-- A request completing on a ready port is answered at once from the part it finds (R171, R172). -/
theorem live_complete_of_answer {s t : State} {cp : ControlPort} {r : Request} {reply : Reply} (h : s.ready cp = true)
    (hr : r ≠ .restart) (hblind : BlindToArrival r) (hanswer : s.answer cp r = (t, reply)) :
    s.live (fun s => s.complete cp (.request r)) = .next (t.answered cp reply.code reply.body) := by
  obtain ⟨hreset, -, -, -⟩ := ready_parts h
  rw [live_of_not_inReset _ _ hreset, complete_takes _ _ _ h, take_answers _ _ _ hr, answer_arrived hblind, hanswer,
    arrived_answered]

/-- TAKE CONTROL on a ready port, from the answer it is given (R175). -/
theorem exec_takeControl_answered {s t : State} {cp : ControlPort} {reply : Reply} (h : s.ready cp = true)
    (hanswer : s.answer cp .takeControl = (t, reply)) :
    exec (.takeControl cp) s = .next (t.answered cp reply.code reply.body) :=
  live_complete_of_answer h (by simp) takeControl_blindToArrival hanswer

/-- YIELD CONTROL on a ready port, from the answer it is given (R176). -/
theorem exec_yieldControl_answered {s t : State} {cp : ControlPort} {reply : Reply} (h : s.ready cp = true)
    (hanswer : s.answer cp .yieldControl = (t, reply)) :
    exec (.yieldControl cp) s = .next (t.answered cp reply.code reply.body) :=
  live_complete_of_answer h (by simp) yieldControl_blindToArrival hanswer

/-- YIELD PERMISSION on a ready port, from the answer it is given (R177). -/
theorem exec_yieldPermission_answered {s t : State} {cp : ControlPort} {v : Nat} {reply : Reply}
    (h : s.ready cp = true) (hanswer : s.answer cp (.yieldPermission v) = (t, reply)) :
    exec (.yieldPermission cp v) s = .next (t.answered cp reply.code reply.body) :=
  live_complete_of_answer h (by simp) (yieldPermission_blindToArrival v) hanswer

/-! ## The answers -/

/-- Past INIT every TAKE CONTROL comes to its own rule (R172, R175). -/
theorem answer_takeControl {s : State} (cp : ControlPort) (hp : s.phase ≠ .init) :
    s.answer cp .takeControl = s.doTakeControl cp := answer_carried _ _ _ (precheck_notChanging cp hp rfl)

/-- A YIELD CONTROL from the active port comes to its own rule, which always accepts it (R176). -/
theorem answer_yieldControl {s : State} {cp : ControlPort} (hp : s.phase ≠ .init) (ha : s.active = cp) :
    s.answer cp .yieldControl = (s.changeControl, Reply.ok []) := answer_carried _ _ _ (precheck_active s cp _ hp ha)

/-- A YIELD PERMISSION from the active port comes to its own rule (R172, R177). -/
theorem answer_yieldPermission {s : State} {cp : ControlPort} (v : Nat) (hp : s.phase ≠ .init) (ha : s.active = cp) :
    s.answer cp (.yieldPermission v) = s.doYieldPermission v := answer_carried _ _ _ (precheck_active s cp _ hp ha)

/-- Settles O6: each clause is one outcome of the checks or one branch of the request's own rule. -/
theorem controlPassesAsItsRulesSay : Obligations.ControlPassesAsItsRulesSay := by
  intro cp s h
  refine ⟨?takeInit, ?takeActive, ?takePermitted, ?takeDenied, ?yieldStandby, ?yieldActive, ?permissionStandby,
    ?permissionBadField, ?permissionSame, ?permissionNew⟩
  case takeInit =>
    intro hp
    exact exec_takeControl_answered (reply := Reply.plain .wrongPhase) h
      (answer_refused _ _ _ _ (precheck_init cp hp (by simp)))
  case takeActive =>
    intro hp ha
    refine exec_takeControl_answered (reply := Reply.plain .noChange) h ?_
    rw [answer_takeControl cp hp, doTakeControl_active ha]
  case takePermitted =>
    intro hp ha hon
    refine exec_takeControl_answered (reply := Reply.ok []) h ?_
    rw [answer_takeControl cp hp, doTakeControl_standby ha, if_pos hon, changeControl_eq ha]
  case takeDenied =>
    intro hp ha hoff
    refine exec_takeControl_answered (reply := Reply.plain .denied) h ?_
    rw [answer_takeControl cp hp, doTakeControl_standby ha, if_neg (by simp [hoff])]
  case yieldStandby =>
    intro hp ha
    exact exec_yieldControl_answered (reply := Reply.plain .notActive) h
      (answer_refused _ _ _ _ (precheck_standby hp ha rfl))
  case yieldActive =>
    intro hp ha
    refine exec_yieldControl_answered (reply := Reply.ok []) h ?_
    rw [answer_yieldControl hp ha, changeControl_eq (by rw [ha, otherPort_otherPort])]
  case permissionStandby =>
    intro v hp ha
    exact exec_yieldPermission_answered (reply := Reply.plain .notActive) h
      (answer_refused _ _ _ _ (precheck_standby hp ha rfl))
  case permissionBadField =>
    intro v hp ha hv
    refine exec_yieldPermission_answered (reply := Reply.plain .badField) h ?_
    rw [answer_yieldPermission v hp ha, doYieldPermission_badField s hv]
  case permissionSame =>
    intro b hp ha hsame
    refine exec_yieldPermission_answered (reply := Reply.plain .noChange) h ?_
    rw [answer_yieldPermission _ hp ha, doYieldPermission_inRange, if_pos hsame.symm]
  case permissionNew =>
    intro b hp ha hnew
    refine exec_yieldPermission_answered (reply := Reply.ok []) h ?_
    rw [answer_yieldPermission _ hp ha, doYieldPermission_inRange, if_neg (Ne.symm hnew)]

end Sys2Proof.Machine
end

section
/-!
PROOFS. The control ports, the executor's own fields and the queue of commands are not read by any rule of another block:
every operation that carries out a request or an event commutes with replacing them. So a request's rule does not see that
the request has arrived (R171), and the state in which it is waiting on its port gives the answer that the state before
gives.
-/

namespace Sys2Proof.Machine

/-- The fields of the control ports, the executor and the queue of commands. -/
structure Control where
  cpa          : Cpi
  cpb          : Cpi
  carrying     : Option (ControlPort × List Byte)
  prevSupplier : Option ControlPort
  pending      : List Instr

/-- The part with its control fields replaced. -/
def State.withControl (s : State) (k : Control) : State :=
  { s with cpa := k.cpa, cpb := k.cpb, carrying := k.carrying, prevSupplier := k.prevSupplier, pending := k.pending }

/-! ## Reads -/

section
variable (s : State) (k : Control)

@[simp] theorem withControl_resetPin : (s.withControl k).resetPin = s.resetPin := rfl
@[simp] theorem withControl_internalReset : (s.withControl k).internalReset = s.internalReset := rfl
@[simp] theorem withControl_now : (s.withControl k).now = s.now := rfl
@[simp] theorem withControl_phase : (s.withControl k).phase = s.phase := rfl
@[simp] theorem withControl_straps : (s.withControl k).straps = s.straps := rfl
@[simp] theorem withControl_nodeId : (s.withControl k).nodeId = s.nodeId := rfl
@[simp] theorem withControl_ports : (s.withControl k).ports = s.ports := rfl
@[simp] theorem withControl_grades : (s.withControl k).grades = s.grades := rfl
@[simp] theorem withControl_current : (s.withControl k).current = s.current := rfl
@[simp] theorem withControl_pendingPart : (s.withControl k).pendingPart = s.pendingPart := rfl
@[simp] theorem withControl_domains : (s.withControl k).domains = s.domains := rfl
@[simp] theorem withControl_lists : (s.withControl k).lists = s.lists := rfl
@[simp] theorem withControl_domainEvents : (s.withControl k).domainEvents = s.domainEvents := rfl
@[simp] theorem withControl_partEvents : (s.withControl k).partEvents = s.partEvents := rfl
@[simp] theorem withControl_lineDrives : (s.withControl k).lineDrives = s.lineDrives := rfl
@[simp] theorem withControl_shelves : (s.withControl k).shelves = s.shelves := rfl
@[simp] theorem withControl_units : (s.withControl k).units = s.units := rfl
@[simp] theorem withControl_queue : (s.withControl k).queue = s.queue := rfl
@[simp] theorem withControl_cells : (s.withControl k).cells = s.cells := rfl
@[simp] theorem withControl_window : (s.withControl k).window = s.window := rfl
@[simp] theorem withControl_outputs : (s.withControl k).outputs = s.outputs := rfl
@[simp] theorem withControl_osc : (s.withControl k).osc = s.osc := rfl
@[simp] theorem withControl_active : (s.withControl k).active = s.active := rfl
@[simp] theorem withControl_yieldPermission : (s.withControl k).yieldPermission = s.yieldPermission := rfl
@[simp] theorem withControl_freeCount : (s.withControl k).freeCount = s.freeCount := rfl
@[simp] theorem withControl_inReset : (s.withControl k).inReset = s.inReset := rfl
@[simp] theorem withControl_shelfDomain (sh : ShelfId) : (s.withControl k).shelfDomain sh = s.shelfDomain sh := rfl
@[simp] theorem withControl_portDomain (p : PortId) : (s.withControl k).portDomain p = s.portDomain p := rfl
@[simp] theorem withControl_shelfRecord (sh : ShelfId) : (s.withControl k).shelfRecord sh = s.shelfRecord sh := rfl
@[simp] theorem withControl_shelfHoldOff (sh : ShelfId) : (s.withControl k).shelfHoldOff sh = s.shelfHoldOff sh := rfl
@[simp] theorem withControl_barred (sh : ShelfId) (p : PortId) : (s.withControl k).barred sh p = s.barred sh p := rfl
@[simp] theorem withControl_holdoverValid (sh : ShelfId) :
    (s.withControl k).holdoverValid sh = s.holdoverValid sh := rfl
@[simp] theorem withControl_settleMs (sh : ShelfId) : (s.withControl k).settleMs sh = s.settleMs sh := rfl
@[simp] theorem withControl_limitMs (sh : ShelfId) : (s.withControl k).limitMs sh = s.limitMs sh := rfl
@[simp] theorem withControl_idleUnit : (s.withControl k).idleUnit = s.idleUnit := rfl
@[simp] theorem withControl_mayMeasure : (s.withControl k).mayMeasure = s.mayMeasure := rfl

/-- The control fields are no ranking input (R67). -/
theorem withControl_sameInputs : SameInputs s (s.withControl k) := ⟨rfl, rfl, rfl, rfl, rfl, rfl⟩

@[simp] theorem withControl_verdicts (sh : ShelfId) : (s.withControl k).verdicts sh = s.verdicts sh :=
  ((withControl_sameInputs s k).verdicts sh).1
@[simp] theorem withControl_eligible (sh : ShelfId) (p : PortId) :
    (s.withControl k).eligible sh p = s.eligible sh p := ((withControl_sameInputs s k).verdicts sh).2.1 p
@[simp] theorem withControl_admissible (sh : ShelfId) (p : PortId) :
    (s.withControl k).admissible sh p = s.admissible sh p := ((withControl_sameInputs s k).verdicts sh).2.2.1 p
@[simp] theorem withControl_sameDomain (sh : ShelfId) (p : PortId) :
    (s.withControl k).sameDomain sh p = s.sameDomain sh p := ((withControl_sameInputs s k).verdicts sh).2.2.2 p
@[simp] theorem withControl_eligibleList (sh : ShelfId) :
    (s.withControl k).eligibleList sh = s.eligibleList sh := (withControl_sameInputs s k).eligibleList sh
@[simp] theorem withControl_handed (sh : ShelfId) : (s.withControl k).handed sh = s.handed sh :=
  (withControl_sameInputs s k).handed sh rfl
@[simp] theorem withControl_best (sh : ShelfId) : (s.withControl k).best sh = s.best sh := by
  simp only [State.best, withControl_eligibleList]
@[simp] theorem withControl_switchWanted (sh : ShelfId) (c : PortId) :
    (s.withControl k).switchWanted sh c = s.switchWanted sh c := by
  simp only [State.switchWanted, withControl_eligibleList, withControl_shelfRecord]
@[simp] theorem withControl_choice (sh : ShelfId) : (s.withControl k).choice sh = s.choice sh := by
  simp only [State.choice, withControl_best]
  rfl
@[simp] theorem withControl_nomineeOf (sh : ShelfId) : (s.withControl k).nomineeOf sh = s.nomineeOf sh := by
  simp only [State.nomineeOf, withControl_best, withControl_eligible]
  rfl
@[simp] theorem withControl_failCause (sh : ShelfId) (p : PortId) :
    (s.withControl k).failCause sh p = s.failCause sh p := by
  simp only [State.failCause, withControl_sameDomain]
  rfl
@[simp] theorem withControl_bridgeFailCause (sh : ShelfId) (p : PortId) :
    (s.withControl k).bridgeFailCause sh p = s.bridgeFailCause sh p := by
  simp only [State.bridgeFailCause, withControl_sameDomain]
@[simp] theorem withControl_ceased (old : State) (k' : Control) (sh : ShelfId) :
    State.ceased (old.withControl k') (s.withControl k) sh = State.ceased old s sh := by
  simp only [State.ceased, withControl_shelves, withControl_eligible, withControl_sameDomain, withControl_barred,
    withControl_ports]

/-! ## Writes -/

@[simp] theorem withControl_setPort (p : PortId) (r : Port) :
    (s.withControl k).setPort p r = (s.setPort p r).withControl k := rfl
@[simp] theorem withControl_setGrade (p : PortId) (g : Grade) :
    (s.withControl k).setGrade p g = (s.setGrade p g).withControl k := rfl
@[simp] theorem withControl_setShelf (sh : ShelfId) (r : Shelf) :
    (s.withControl k).setShelf sh r = (s.setShelf sh r).withControl k := rfl
@[simp] theorem withControl_setOutput (sh : ShelfId) (o : Output) :
    (s.withControl k).setOutput sh o = (s.setOutput sh o).withControl k := rfl
@[simp] theorem withControl_setUnit (u : UnitId) (h : Option ShelfId) :
    (s.withControl k).setUnit u h = (s.setUnit u h).withControl k := rfl
@[simp] theorem withControl_setQueue (q : List ShelfId) :
    (s.withControl k).setQueue q = (s.setQueue q).withControl k := rfl
@[simp] theorem withControl_setOsc (o : Oscillator) : (s.withControl k).setOsc o = (s.setOsc o).withControl k := rfl
@[simp] theorem withControl_setCell (sh : ShelfId) (p : PortId) (v : CellValue) :
    (s.withControl k).setCell sh p v = (s.setCell sh p v).withControl k := rfl
@[simp] theorem withControl_setSteering (sh : ShelfId) (st : Steering) :
    (s.withControl k).setSteering sh st = (s.setSteering sh st).withControl k := rfl
@[simp] theorem withControl_raisePart (e : PartEvent) :
    (s.withControl k).raisePart e = (s.raisePart e).withControl k := rfl
@[simp] theorem withControl_raiseIn (d : Option DomainId) (e : DomainEvent) :
    (s.withControl k).raiseIn d e = (s.raiseIn d e).withControl k := by cases d <;> rfl
@[simp] theorem withControl_raisePort (p : PortId) (e : DomainEvent) :
    (s.withControl k).raisePort p e = (s.raisePort p e).withControl k := withControl_raiseIn s k _ e
@[simp] theorem withControl_raiseShelf (sh : ShelfId) (e : DomainEvent) :
    (s.withControl k).raiseShelf sh e = (s.raiseShelf sh e).withControl k := withControl_raiseIn s k _ e
@[simp] theorem withControl_raiseShelfOpt (sh : ShelfId) (e : Option DomainEvent) :
    (s.withControl k).raiseShelf? sh e = (s.raiseShelf? sh e).withControl k := by
  cases e with
  | none => rfl
  | some e => exact withControl_raiseShelf s k sh e
@[simp] theorem withControl_withFreeCount (n : Nat) :
    ({ s.withControl k with freeCount := n } : State) = ({ s with freeCount := n } : State).withControl k := rfl
@[simp] theorem withControl_syncValid : (s.withControl k).syncValid = s.syncValid.withControl k := rfl
@[simp] theorem withControl_syncWindows : (s.withControl k).syncWindows = s.syncWindows.withControl k := rfl

/-- A branch on a condition commutes with replacing the control fields. -/
theorem withControl_ite (c : Prop) [Decidable c] (a b : State) :
    (if c then a.withControl k else b.withControl k) = (if c then a else b).withControl k := by
  split <;> rfl

/-! ## Time and the pool -/

@[simp] theorem withControl_elapse (d : Nat) : (s.withControl k).elapse d = (s.elapse d).withControl k := by
  unfold State.elapse
  split <;> rfl

@[simp] theorem withControl_enterState (sh : ShelfId) (st : ShelfState) (c : Option Cause) (e : Option DomainEvent) :
    (s.withControl k).enterState sh st c e = (s.enterState sh st c e).withControl k :=
  withControl_raiseShelfOpt (s.setShelf sh _) k sh e

@[simp] theorem withControl_grant (sh : ShelfId) (u : UnitId) :
    (s.withControl k).grant sh u = (s.grant sh u).withControl k := by
  unfold State.grant
  simp only [withControl_shelves]
  cases s.shelves[sh].state with
  | locked c pend => cases pend <;> simp only [withControl_setUnit, withControl_settleMs, withControl_enterState]
  | _ => simp only [withControl_setUnit, withControl_settleMs, withControl_enterState]

@[simp] theorem withControl_lendOne : (s.withControl k).lendOne = s.lendOne.withControl k := by
  unfold State.lendOne
  simp only [withControl_queue, withControl_idleUnit]
  split <;> simp

@[simp] theorem withControl_lendTimes (n : Nat) :
    State.lendTimes n (s.withControl k) = (State.lendTimes n s).withControl k := by
  induction n generalizing s with
  | zero => rfl
  | succ n ih => simp only [State.lendTimes, withControl_lendOne, ih]

@[simp] theorem withControl_lend : (s.withControl k).lend = s.lend.withControl k := withControl_lendTimes s k 6

@[simp] theorem withControl_reclaim (sh : ShelfId) : (s.withControl k).reclaim sh = (s.reclaim sh).withControl k := rfl

@[simp] theorem withControl_freeUnit (sh : ShelfId) :
    (s.withControl k).freeUnit sh = (s.freeUnit sh).withControl k := withControl_lend (s.reclaim sh) k

@[simp] theorem withControl_leaveQueue (sh : ShelfId) :
    (s.withControl k).leaveQueue sh = (s.leaveQueue sh).withControl k := rfl

@[simp] theorem withControl_join (sh : ShelfId) : (s.withControl k).join sh = (s.join sh).withControl k := by
  unfold State.join
  by_cases h : s.queue.contains sh = true
  · rw [if_pos h, if_pos (show (s.withControl k).queue.contains sh = true from h), withControl_lend]
  · rw [if_neg h, if_neg (show ¬ (s.withControl k).queue.contains sh = true from h), ← withControl_lend]
    rfl

@[simp] theorem withControl_leaveAcquire (sh : ShelfId) :
    (s.withControl k).leaveAcquire sh = (s.leaveAcquire sh).withControl k := by
  unfold State.leaveAcquire
  by_cases h : s.shelves[sh].state.isAcquire = true
  · rw [if_pos h, if_pos (show (s.withControl k).shelves[sh].state.isAcquire = true from h), withControl_freeUnit]
  · rw [if_neg h, if_neg (show ¬ (s.withControl k).shelves[sh].state.isAcquire = true from h)]

/-! ## Moves -/

@[simp] theorem withControl_toward (sh : ShelfId) (t : PortId) (c : Cause) :
    (s.withControl k).toward sh t c = (s.toward sh t c).withControl k := by
  simp only [State.toward, withControl_leaveAcquire, withControl_shelves]
  rw [← withControl_join, ← withControl_enterState]
  rfl

@[simp] theorem withControl_enterRest (sh : ShelfId) (c : Option Cause) :
    (s.withControl k).enterRest sh c = (s.enterRest sh c).withControl k := by
  simp only [State.enterRest, withControl_holdoverValid, withControl_limitMs, withControl_enterState, withControl_ite]

@[simp] theorem withControl_rest (sh : ShelfId) (c : Cause) :
    (s.withControl k).rest sh c = (s.rest sh c).withControl k := by
  simp [State.rest]

@[simp] theorem withControl_reselect (sh : ShelfId) (c : Cause) :
    (s.withControl k).reselect sh c = (s.reselect sh c).withControl k := by
  unfold State.reselect
  rw [withControl_choice]
  split <;> simp

@[simp] theorem withControl_park (sh : ShelfId) (c : Cause) :
    (s.withControl k).park sh c = (s.park sh c).withControl k := by
  simp [State.park]

@[simp] theorem withControl_gainPending (sh : ShelfId) (c b : PortId) (cause : Cause) :
    (s.withControl k).gainPending sh c b cause = (s.gainPending sh c b cause).withControl k := by
  simp [State.gainPending]

@[simp] theorem withControl_dropPending (sh : ShelfId) (c : PortId) :
    (s.withControl k).dropPending sh c = (s.dropPending sh c).withControl k := rfl

@[simp] theorem withControl_bridge (sh : ShelfId) (c : PortId) (cause : Cause) :
    (s.withControl k).bridge sh c cause = (s.bridge sh c cause).withControl k := by
  simp [State.bridge]

@[simp] theorem withControl_unbridge (sh : ShelfId) (c : PortId) :
    (s.withControl k).unbridge sh c = (s.unbridge sh c).withControl k := withControl_enterState s k _ _ _ _

@[simp] theorem withControl_loseSteering (sh : ShelfId) :
    (s.withControl k).loseSteering sh = (s.loseSteering sh).withControl k := by
  simp [State.loseSteering]

/-! ## Acting on a ranking -/

@[simp] theorem withControl_applySwitchRule (sh : ShelfId) (c : PortId) :
    (s.withControl k).applySwitchRule sh c = (s.applySwitchRule sh c).withControl k := by
  unfold State.applySwitchRule
  rw [withControl_switchWanted]
  split
  · exact withControl_gainPending s k sh c _ _
  · by_cases h : s.shelves[sh].state.pending?.isSome = true
    · rw [if_pos h, if_pos (show (s.withControl k).shelves[sh].state.pending?.isSome = true from h)]
      exact withControl_dropPending s k sh c
    · rw [if_neg h, if_neg (show ¬ (s.withControl k).shelves[sh].state.pending?.isSome = true from h)]

@[simp] theorem withControl_loseReference (sh : ShelfId) (c : PortId) (x : Ctx) :
    (s.withControl k).loseReference sh c x = (s.loseReference sh c x).withControl k := by
  simp [State.loseReference, withControl_ite]

@[simp] theorem withControl_actQueued (sh : ShelfId) (t : PortId) (x : Ctx) :
    (s.withControl k).actQueued sh t x = (s.actQueued sh t x).withControl k := by
  unfold State.actQueued
  simp only [withControl_choice, withControl_eligible, withControl_failCause]
  split
  · simp
  · cases s.choice sh <;> simp [withControl_ite]

@[simp] theorem withControl_actLocked (sh : ShelfId) (c : PortId) (x : Ctx) :
    (s.withControl k).actLocked sh c x = (s.actLocked sh c x).withControl k := by
  simp [State.actLocked, withControl_ite]

@[simp] theorem withControl_actBridge (sh : ShelfId) (c : PortId) (x : Ctx) :
    (s.withControl k).actBridge sh c x = (s.actBridge sh c x).withControl k := by
  simp [State.actBridge, withControl_ite]

@[simp] theorem withControl_actAuto (sh : ShelfId) (x : Ctx) :
    (s.withControl k).actAuto sh x = (s.actAuto sh x).withControl k := by
  unfold State.actAuto
  simp only [withControl_shelves, withControl_choice]
  cases s.shelves[sh].state <;> cases s.choice sh <;> simp [withControl_ite]

@[simp] theorem withControl_actUnsteered (sh : ShelfId) (x : Ctx) :
    (s.withControl k).actUnsteered sh x = (s.actUnsteered sh x).withControl k := by
  unfold State.actUnsteered
  simp only [withControl_loseSteering, withControl_shelves]
  cases (s.loseSteering sh).shelves[sh].state with
  | locked c pend => cases pend <;> simp only [withControl_dropPending, withControl_actAuto]
  | _ => simp only [withControl_actAuto]

@[simp] theorem withControl_actSteer (sh : ShelfId) (p : PortId) (x : Ctx) :
    (s.withControl k).actSteer sh p x = (s.actSteer sh p x).withControl k := by
  unfold State.actSteer
  simp only [withControl_shelves]
  cases s.shelves[sh].state <;> simp [withControl_ite]

@[simp] theorem withControl_actPinActive (sh : ShelfId) (p : PortId) (x : Ctx) :
    (s.withControl k).actPinActive sh p x = (s.actPinActive sh p x).withControl k := by
  unfold State.actPinActive
  simp only [withControl_shelves]
  cases s.shelves[sh].state <;> simp [withControl_ite]

@[simp] theorem withControl_actPinInactive (sh : ShelfId) (p : PortId) (x : Ctx) :
    (s.withControl k).actPinInactive sh p x = (s.actPinInactive sh p x).withControl k := by
  unfold State.actPinInactive
  simp only [withControl_shelves]
  cases s.shelves[sh].state <;> simp [withControl_ite]

@[simp] theorem withControl_actPin (sh : ShelfId) (p : PortId) (x : Ctx) :
    (s.withControl k).actPin sh p x = (s.actPin sh p x).withControl k := by
  simp [State.actPin, withControl_ite]

@[simp] theorem withControl_act (sh : ShelfId) (x : Ctx) :
    (s.withControl k).act sh x = (s.act sh x).withControl k := by
  unfold State.act
  simp only [withControl_shelves]
  cases s.shelves[sh].steering <;> simp only [withControl_actAuto, withControl_actSteer, withControl_actPin]

@[simp] theorem withControl_meet (old : State) (k' : Control) (sh : ShelfId) (x : Ctx) :
    State.meet (old.withControl k') (s.withControl k) sh x = (State.meet old s sh x).withControl k := by
  simp [State.meet]

/-- Steps that commute with replacing the control fields, one after the other. -/
theorem withControl_foldl {α : Type} (f g : State → α → State)
    (h : ∀ s a, g (s.withControl k) a = (f s a).withControl k) (l : List α) :
    l.foldl g (s.withControl k) = (l.foldl f s).withControl k := by
  induction l generalizing s with
  | nil => rfl
  | cons a l ih => rw [List.foldl_cons, List.foldl_cons, h, ih]

/-- Shelves acting in turn, each by an operation that commutes with replacing the control fields. -/
theorem withControl_inTurn (acting : List ShelfId) (f g : State → ShelfId → State)
    (h : ∀ s sh, g (s.withControl k) sh = (f s sh).withControl k) :
    (s.withControl k).inTurn acting g = (s.inTurn acting f).withControl k := by
  have hc : (s.withControl k).contends g = s.contends f := by
    funext sh
    simp [State.contends, h]
  unfold State.inTurn
  rw [hc]
  split
  · exact withControl_foldl { s with freeCount := s.freeCount + 1 } k f g h _
  · exact withControl_foldl s k f g h _

@[simp] theorem withControl_handedNew (old : State) (k' : Control) :
    State.handedNew (old.withControl k') (s.withControl k) = State.handedNew old s := by
  simp only [State.handedNew, withControl_handed]

@[simp] theorem withControl_rerank (old : State) (k' : Control) (x : Ctx) :
    State.rerank (old.withControl k') (s.withControl k) x = (State.rerank old s x).withControl k := by
  unfold State.rerank
  rw [withControl_handedNew]
  exact withControl_inTurn s k _ _ _ fun s sh => withControl_meet s k old k' sh x

/-! ## Keeping records up to date -/

@[simp] theorem withControl_refreshNominees : (s.withControl k).refreshNominees = s.refreshNominees.withControl k := by
  simp only [State.refreshNominees, withControl_shelves, withControl_nomineeOf]
  rfl

@[simp] theorem withControl_refreshOutputs (old : State) (k' : Control) :
    State.refreshOutputs (old.withControl k') (s.withControl k) = (State.refreshOutputs old s).withControl k := rfl

@[simp] theorem withControl_refresh (old : State) (k' : Control) :
    State.refresh (old.withControl k') (s.withControl k) = (State.refresh old s).withControl k := by
  simp [State.refresh]

@[simp] theorem withControl_commit (old : State) (k' : Control) (x : Ctx) :
    State.commit (old.withControl k') (s.withControl k) x = (State.commit old s x).withControl k := by
  simp [State.commit]

end

end Sys2Proof.Machine
end

section
/-!
PROOFS. The rules of the requests commute with replacing the control fields (continued): ports, grades, the fault latch,
checks, release, partitions, settings, steering, cells and outputs, up to the whole of `State.carryOut`. From it the path
of any request on a ready port (R166, R171, R172).
-/

namespace Sys2Proof.Machine

section
variable (s : State) (k : Control)

/-! ## Ports and grades -/

@[simp] theorem withControl_qualify (p : PortId) (r : Port) : (s.withControl k).qualify p r = s.qualify p r := rfl
@[simp] theorem withControl_leaveUp (p : PortId) (r : Port) : (s.withControl k).leaveUp p r = s.leaveUp p r := rfl
@[simp] theorem withControl_putPort (p : PortId) (r : Port) :
    (s.withControl k).putPort p r = (s.putPort p r).withControl k := by
  simp only [State.putPort, withControl_setPort, withControl_raisePort, withControl_ite, withControl_ports]

@[simp] theorem withControl_distrustPort (p : PortId) :
    (s.withControl k).distrustPort p = (s.distrustPort p).withControl k := withControl_putPort s k p _

@[simp] theorem withControl_putGrade (p : PortId) (g : Grade) :
    (s.withControl k).putGrade p g = (s.putGrade p g).withControl k := by
  simp only [State.putGrade, withControl_setGrade, withControl_raisePort, withControl_ite, withControl_grades]

@[simp] theorem withControl_replaceSetup (p : PortId) (new : PortSetup) :
    (s.withControl k).replaceSetup p new = (s.replaceSetup p new).withControl k := by
  unfold State.replaceSetup
  simp only [withControl_ports, withControl_now, withControl_grades, withControl_mayMeasure, withControl_putPort,
    withControl_setGrade, withControl_raisePort, withControl_ite]
  cases s.ports[p].setup.enabled <;> cases new.enabled <;> rfl

@[simp] theorem withControl_setNodeId (own : NodeId) :
    (s.withControl k).setNodeId own = (s.setNodeId own).withControl k :=
  withControl_foldl { s with nodeId := own } k _ _ (fun s p => withControl_putGrade s k p _) _

/-! ## The fault latch, checks and release -/

@[simp] theorem withControl_distrustShelf (sh : ShelfId) :
    (s.withControl k).distrustShelf sh = (s.distrustShelf sh).withControl k := by
  unfold State.distrustShelf
  simp only [withControl_shelves, withControl_setShelf, withControl_enterState, withControl_ite]

@[simp] theorem withControl_setLatch (source : LatchSource) :
    (s.withControl k).setLatch source = (s.setLatch source).withControl k := by
  unfold State.setLatch
  simp only [withControl_osc, withControl_setOsc, withControl_foldl _ k _ _ (fun s sh => withControl_distrustShelf s k sh),
    withControl_foldl _ k _ _ (fun s p => withControl_distrustPort s k p), withControl_raisePart, withControl_ite]

@[simp] theorem withControl_clearLatch : (s.withControl k).clearLatch = s.clearLatch.withControl k := rfl

@[simp] theorem withControl_releaseShelf (sh : ShelfId) :
    (s.withControl k).releaseShelf sh = (s.releaseShelf sh).withControl k := by
  unfold State.releaseShelf
  simp only [withControl_shelves, withControl_shelfDomain, withControl_enterState, withControl_loseSteering]
  cases s.shelves[sh].state with
  | held nominee =>
    cases s.shelves[sh].steering <;> cases nominee <;>
      simp only [withControl_ite, withControl_enterState, withControl_queue, withControl_setQueue]
  | _ => rfl

@[simp] theorem withControl_releaseShelves : (s.withControl k).releaseShelves = s.releaseShelves.withControl k := by
  unfold State.releaseShelves
  rw [withControl_foldl s k _ _ (fun s sh => withControl_releaseShelf s k sh), withControl_lend]

@[simp] theorem withControl_enterPhase (phase : PartPhase) :
    (s.withControl k).enterPhase phase = (s.enterPhase phase).withControl k := rfl

@[simp] theorem withControl_release : (s.withControl k).release = s.release.withControl k := by
  simp only [State.release, withControl_enterPhase, withControl_releaseShelves]

@[simp] theorem withControl_endInit (outcome : CheckOutcome) :
    (s.withControl k).endInit outcome = (s.endInit outcome).withControl k := by
  simp only [State.endInit, withControl_straps, withControl_release, withControl_enterPhase, withControl_ite]

@[simp] theorem withControl_endCheck (outcome : CheckOutcome) (difference : Option Int) :
    (s.withControl k).endCheck outcome difference = (s.endCheck outcome difference).withControl k := by
  unfold State.endCheck
  rw [withControl_osc, withControl_phase, withControl_setOsc]
  cases outcome with
  | pass =>
    dsimp only
    rw [withControl_clearLatch, withControl_ite, withControl_raisePart, withControl_endInit, withControl_ite]
  | fail =>
    dsimp only
    rw [withControl_setLatch, withControl_raisePart, withControl_endInit, withControl_ite]
  | inconclusive =>
    dsimp only
    rw [withControl_raisePart, withControl_endInit, withControl_ite]

@[simp] theorem withControl_startCheck : (s.withControl k).startCheck = s.startCheck.withControl k := by
  simp only [State.startCheck, withControl_osc, withControl_setOsc, withControl_endCheck, withControl_ite]

/-! ## Partitions -/

@[simp] theorem withControl_moveShelf (old : State) (k' : Control) (sh : ShelfId) :
    State.moveShelf (old.withControl k') (s.withControl k) sh = (State.moveShelf old s sh).withControl k := by
  unfold State.moveShelf
  dsimp only
  rw [withControl_shelves s, withControl_loseSteering, withControl_ite, withControl_shelfDomain old]
  generalize (if s.shelves[sh].steering = .auto then s else s.loseSteering sh) = t
  rw [withControl_shelves, withControl_shelfDomain, withControl_park, withControl_reselect, withControl_reselect,
    withControl_actAuto]
  cases t.shelves[sh].state <;> simp only [withControl_ite]

@[simp] theorem withControl_keepShelf (old : State) (k' : Control) (sh : ShelfId) :
    State.keepShelf (old.withControl k') (s.withControl k) sh = (State.keepShelf old s sh).withControl k := by
  unfold State.keepShelf
  simp only [withControl_shelves, withControl_sameDomain, withControl_meet, withControl_actUnsteered]
  cases s.shelves[sh].steering.port? <;> simp only [withControl_ite]

@[simp] theorem withControl_applyToShelf (old : State) (k' : Control) (sh : ShelfId) :
    State.applyToShelf (old.withControl k') (s.withControl k) sh = (State.applyToShelf old s sh).withControl k := by
  simp only [State.applyToShelf, withControl_shelfDomain, withControl_keepShelf, withControl_moveShelf, withControl_ite]

@[simp] theorem withControl_appliedTo (old : State) (k' : Control) :
    State.appliedTo (old.withControl k') (s.withControl k) = State.appliedTo old s := by
  simp only [State.appliedTo, withControl_shelfDomain, withControl_handed]

@[simp] theorem withControl_judgeShelf (sh : ShelfId) :
    (s.withControl k).judgeShelf sh = (s.judgeShelf sh).withControl k := by
  unfold State.judgeShelf
  simp only [withControl_shelves, withControl_holdoverValid, withControl_enterRest]
  cases s.shelves[sh].state <;> simp only [withControl_ite]

@[simp] theorem withControl_judgeShelves : (s.withControl k).judgeShelves = s.judgeShelves.withControl k :=
  withControl_foldl s k _ _ (fun s sh => withControl_judgeShelf s k sh) _

@[simp] theorem withControl_resetupShelves (old : State) (k' : Control) (d : DomainId) :
    State.resetupShelves (old.withControl k') (s.withControl k) d = State.resetupShelves old s d := by
  simp only [State.resetupShelves, withControl_handed]
  rfl

/-! ## Steering -/

@[simp] theorem withControl_steerTo (sh : ShelfId) (p : PortId) :
    (s.withControl k).steerTo sh p = (s.steerTo sh p).withControl k := by
  unfold State.steerTo
  simp only [withControl_shelves, withControl_dropPending, withControl_gainPending, withControl_toward]
  cases s.shelves[sh].state <;> simp only [withControl_ite]

@[simp] theorem withControl_pinTo (sh : ShelfId) (p : PortId) :
    (s.withControl k).pinTo sh p = (s.pinTo sh p).withControl k := by
  unfold State.pinTo State.pinToLive State.pinToQuiet
  simp only [withControl_shelves, withControl_ports, withControl_dropPending, withControl_gainPending,
    withControl_toward, withControl_unbridge, withControl_rest]
  cases s.shelves[sh].state <;> simp only [withControl_ite]

@[simp] theorem withControl_markCleared (sh : ShelfId) :
    (s.withControl k).markCleared sh = (s.markCleared sh).withControl k := by
  unfold State.markCleared
  rw [withControl_shelves, withControl_setShelf, withControl_ite]

@[simp] theorem withControl_unsteer (sh : ShelfId) :
    (s.withControl k).unsteer sh = (s.unsteer sh).withControl k := by
  unfold State.unsteer
  simp only [withControl_shelves, withControl_dropPending, withControl_actLocked, withControl_markCleared,
    withControl_eligible, withControl_best, withControl_admissible, withControl_reselect, withControl_actAuto]
  cases s.shelves[sh].state <;> simp only [withControl_ite]

/-! ## Cells -/

theorem withControl_writeCells (w : Window) (place : Nat) (cells : List CellValue) :
    (s.withControl k).writeCells w place cells = (s.writeCells w place cells).withControl k := by
  induction cells generalizing s place with
  | nil => rfl
  | cons v rest ih =>
    unfold State.writeCells
    cases w.cellAt place with
    | none => rfl
    | some pair => exact ih (s.setCell pair.1 pair.2 v) (place + 1)

/-! ## The rules of the requests -/

/-- An operation of a request's rule answers the same whatever the control fields hold, and keeps them. -/
def ControlBlind (f : State → State × Reply) : Prop :=
  ∀ (s : State) (k : Control), f (s.withControl k) = ((f s).1.withControl k, (f s).2)

theorem ControlBlind.report {f : State → Reply} (h : ∀ s k, f (s.withControl k) = f s) :
    ControlBlind fun s => (s, f s) := fun s k => by simp only [h]

theorem doNodeIdentifier_blind (i : Nat) : ControlBlind (·.doNodeIdentifier i) := by
  intro s k
  unfold State.doNodeIdentifier
  beta_reduce
  rw [withControl_phase, withControl_setNodeId, withControl_commit]
  split_ifs <;> rfl

theorem doRelease_blind : ControlBlind State.doRelease := by
  intro s k
  unfold State.doRelease
  rw [withControl_phase, withControl_release, withControl_refresh]
  by_cases h : s.phase = .running
  · rw [if_pos h, if_pos h]
  · rw [if_neg h, if_neg h]
    generalize State.refresh s s.release = t
    rfl

theorem doTakeControl_blind (cp : ControlPort) : ControlBlind (·.doTakeControl cp) := by
  intro s k
  unfold State.doTakeControl
  beta_reduce
  rw [withControl_active, withControl_yieldPermission]
  split_ifs <;> rfl

theorem doYieldPermission_blind (v : Nat) : ControlBlind (·.doYieldPermission v) := by
  intro s k
  unfold State.doYieldPermission
  beta_reduce
  rw [withControl_yieldPermission]
  cases flagOf v with
  | none => rfl
  | some b => dsimp only; split_ifs <;> rfl

theorem doPortSetup_blind (n : Nat) (b : PortSetupBody) : ControlBlind (·.doPortSetup n b) := by
  intro s k
  unfold State.doPortSetup
  beta_reduce
  rw [withControl_ports]
  simp only [withControl_replaceSetup, withControl_commit]
  cases portOf n with
  | none => rfl
  | some x =>
    cases portSetupOf b with
    | none => rfl
    | some y =>
      dsimp only
      split_ifs <;> rfl

theorem doPortStatus_blind (cp : ControlPort) (n : Nat) : ControlBlind (·.doPortStatus cp n) := by
  intro s k
  unfold State.doPortStatus
  beta_reduce
  rw [withControl_active]
  cases portOf n with
  | none => rfl
  | some p => dsimp only; split_ifs <;> rfl

theorem doPortGrade_blind (cp : ControlPort) (n : Nat) : ControlBlind (·.doPortGrade cp n) := by
  intro s k
  unfold State.doPortGrade
  beta_reduce
  rw [withControl_active]
  cases portOf n with
  | none => rfl
  | some p => dsimp only; split_ifs <;> rfl

theorem doAssignPort_blind (n v : Nat) : ControlBlind (·.doAssignPort n v) := by
  intro s k
  unfold State.doAssignPort
  beta_reduce
  rw [withControl_pendingPart]
  cases portOf n with
  | none => rfl
  | some x =>
    cases domainValueOf v with
    | none => rfl
    | some y =>
      dsimp only
      split_ifs <;> rfl

theorem doAssignShelf_blind (n v : Nat) : ControlBlind (·.doAssignShelf n v) := by
  intro s k
  unfold State.doAssignShelf
  beta_reduce
  rw [withControl_pendingPart]
  cases shelfOf n with
  | none => rfl
  | some x =>
    cases domainValueOf v with
    | none => rfl
    | some y =>
      dsimp only
      split_ifs <;> rfl

theorem doApplyPartition_blind : ControlBlind State.doApplyPartition := by
  intro s k
  have hturn : ∀ (t : State) (l : List ShelfId),
      (t.withControl k).inTurn l (State.applyToShelf (s.withControl k)) =
        (t.inTurn l (State.applyToShelf s)).withControl k :=
    fun t l => withControl_inTurn t k l _ _ fun t sh => withControl_applyToShelf t k s k sh
  have hrep : ((s.withControl k).repartition.raisePart .applied) = (s.repartition.raisePart .applied).withControl k := rfl
  unfold State.doApplyPartition
  rw [withControl_pendingPart, withControl_current]
  simp only [hrep, withControl_appliedTo, hturn, withControl_judgeShelves, withControl_refresh]
  split_ifs <;> rfl

theorem doDiscardPartition_blind : ControlBlind State.doDiscardPartition := by
  intro s k
  unfold State.doDiscardPartition
  rw [withControl_pendingPart, withControl_current]
  split_ifs <;> rfl

theorem doDomainSetup_blind (n : Nat) (b : DomainSetupBody) : ControlBlind (·.doDomainSetup n b) := by
  intro s k
  have hset : ∀ (d : DomainId) (r : Domain), ({ s.withControl k with domains := s.domains.set d r } : State) =
    ({ s with domains := s.domains.set d r } : State).withControl k := fun _ _ => rfl
  have hturn : ∀ (t : State) (l : List ShelfId),
      (t.withControl k).inTurn l (fun t sh => State.meet (s.withControl k) t sh Ctx.failing) =
        (t.inTurn l fun t sh => State.meet s t sh Ctx.failing).withControl k :=
    fun t l => withControl_inTurn t k l _ _ fun t sh => withControl_meet t k s k sh Ctx.failing
  unfold State.doDomainSetup
  beta_reduce
  rw [withControl_domains]
  simp only [hset, withControl_resetupShelves, hturn, withControl_judgeShelves, withControl_refresh]
  cases domainOf n with
  | none => rfl
  | some x =>
    cases domainRecordOf b with
    | none => rfl
    | some y =>
      dsimp only
      split_ifs <;> rfl

theorem doPriorityList_blind (n : Nat) (ports : List Nat) : ControlBlind (·.doPriorityList n ports) := by
  intro s k
  have hset : ∀ (d : DomainId) (l : List PortId), ({ s.withControl k with lists := s.lists.set d l } : State) =
    ({ s with lists := s.lists.set d l } : State).withControl k := fun _ _ => rfl
  unfold State.doPriorityList
  beta_reduce
  rw [withControl_lists]
  simp only [hset, withControl_commit, withControl_portDomain]
  cases domainOf n with
  | none => rfl
  | some d =>
    cases portsNamed ports with
    | none => rfl
    | some list =>
      dsimp only
      split_ifs <;> rfl

theorem doDomainReport_blind (n : Nat) : ControlBlind (·.doDomainReport n) := by
  intro s k
  unfold State.doDomainReport
  beta_reduce
  cases domainOf n <;> rfl

theorem doEventReport_blind (cp : ControlPort) (n : Nat) : ControlBlind (·.doEventReport cp n) := by
  intro s k
  unfold State.doEventReport
  beta_reduce
  rw [withControl_active]
  cases selectorOf n with
  | none => rfl
  | some sel => cases sel <;> dsimp only <;> split_ifs <;> rfl

theorem doEventMask_blind (n m : Nat) : ControlBlind (·.doEventMask n m) := by
  intro s k
  unfold State.doEventMask
  beta_reduce
  rw [withControl_domainEvents, withControl_partEvents]
  cases selectorOf n with
  | none => rfl
  | some sel => cases sel <;> dsimp only <;> split_ifs <;> rfl

theorem doLineSetup_blind (n v : Nat) : ControlBlind (·.doLineSetup n v) := by
  intro s k
  unfold State.doLineSetup
  beta_reduce
  rw [withControl_lineDrives]
  cases boundedOf n 5 with
  | none => rfl
  | some x =>
    cases lineDriveOf v with
    | none => rfl
    | some y =>
      dsimp only
      split_ifs <;> rfl

theorem rankingReportBody_blind (s : State) (k : Control) (sh : ShelfId) :
    (s.withControl k).rankingReportBody sh = s.rankingReportBody sh := by
  simp only [State.rankingReportBody, withControl_eligibleList, withControl_verdicts]
  rfl

theorem doRankingReport_blind (n : Nat) : ControlBlind (·.doRankingReport n) := by
  intro s k
  unfold State.doRankingReport
  beta_reduce
  simp only [rankingReportBody_blind]
  cases shelfOf n <;> rfl

theorem doShelfReport_blind (n : Nat) : ControlBlind (·.doShelfReport n) := by
  intro s k
  unfold State.doShelfReport
  beta_reduce
  cases shelfOf n <;> rfl

theorem doChangeReport_blind (cp : ControlPort) (n : Nat) : ControlBlind (·.doChangeReport cp n) := by
  intro s k
  unfold State.doChangeReport
  beta_reduce
  rw [withControl_active]
  cases selectorOf n with
  | none => rfl
  | some sel => dsimp only; split_ifs <;> rfl

theorem doPin_blind (n m : Nat) : ControlBlind (·.doPin n m) := by
  intro s k
  unfold State.doPin
  beta_reduce
  rw [withControl_shelves, withControl_ports]
  simp only [withControl_sameDomain, withControl_setSteering, withControl_pinTo, withControl_refresh]
  cases shelfOf n with
  | none => rfl
  | some x =>
    cases portOf m with
    | none => rfl
    | some y =>
      dsimp only
      split_ifs <;> rfl

theorem doSteer_blind (n m : Nat) : ControlBlind (·.doSteer n m) := by
  intro s k
  unfold State.doSteer
  beta_reduce
  rw [withControl_shelves]
  simp only [withControl_eligible, withControl_setSteering, withControl_steerTo, withControl_refresh]
  cases shelfOf n with
  | none => rfl
  | some x =>
    cases portOf m with
    | none => rfl
    | some y =>
      dsimp only
      split_ifs <;> rfl

theorem doClearSteering_blind (n : Nat) : ControlBlind (·.doClearSteering n) := by
  intro s k
  unfold State.doClearSteering
  beta_reduce
  rw [withControl_shelves]
  simp only [withControl_setSteering, withControl_unsteer, withControl_refresh]
  cases shelfOf n with
  | none => rfl
  | some sh =>
    dsimp only
    split_ifs <;> rfl

theorem writeCell_blind (n m : Nat) (v : CellValue) : ControlBlind (·.writeCell n m v) := by
  intro s k
  unfold State.writeCell
  beta_reduce
  cases shelfOf n with
  | none => rfl
  | some sh =>
    cases portOf m with
    | none => rfl
    | some p =>
      dsimp only
      rw [withControl_barred, withControl_setCell, withControl_commit]
      split_ifs <;> rfl

theorem doOpenWindow_blind (a b c d o : Nat) : ControlBlind (·.doOpenWindow a b c d o) := by
  intro s k
  unfold State.doOpenWindow
  beta_reduce
  cases shelfOf a <;> cases shelfOf b <;> cases portOf c <;> cases portOf d <;> cases orderOf o <;>
    first | rfl | (dsimp only; split_ifs <;> rfl)

theorem writeFrom_blind (w : Window) (place : Nat) (cells : List CellValue) :
    ControlBlind (·.writeFrom w place cells) := by
  intro s k
  have hset : ∀ (t : State) (w' : Window), ({ t.withControl k with window := some w' } : State) =
    ({ t with window := some w' } : State).withControl k := fun _ _ => rfl
  simp only [State.writeFrom, withControl_writeCells, hset, withControl_commit]

theorem doWriteWindow_blind (cells : List CellValue) : ControlBlind (·.doWriteWindow cells) := by
  intro s k
  unfold State.doWriteWindow
  beta_reduce
  rw [withControl_window]
  split_ifs
  · rfl
  · cases s.window with
    | none => rfl
    | some w => exact writeFrom_blind w 0 cells s k

theorem doContinueWindow_blind (cells : List CellValue) : ControlBlind (·.doContinueWindow cells) := by
  intro s k
  unfold State.doContinueWindow
  beta_reduce
  rw [withControl_window]
  split_ifs
  · rfl
  · cases s.window with
    | none => rfl
    | some w => exact writeFrom_blind w w.cursor cells s k

theorem doExclusionRow_blind (n : Nat) : ControlBlind (·.doExclusionRow n) := by
  intro s k
  unfold State.doExclusionRow
  beta_reduce
  cases shelfOf n <;> rfl

theorem doOutputSetup_blind (n : Nat) (b : OutputSetupBody) : ControlBlind (·.doOutputSetup n b) := by
  intro s k
  unfold State.doOutputSetup
  beta_reduce
  rw [withControl_outputs]
  simp only [withControl_setOutput, withControl_refresh]
  cases shelfOf n with
  | none => rfl
  | some x =>
    cases outputSetupOf b with
    | none => rfl
    | some y =>
      dsimp only
      split_ifs <;> rfl

theorem doOutputReport_blind (n : Nat) : ControlBlind (·.doOutputReport n) := by
  intro s k
  unfold State.doOutputReport
  beta_reduce
  cases shelfOf n <;> rfl

theorem doOscillatorCheck_blind : ControlBlind State.doOscillatorCheck := by
  intro s k
  unfold State.doOscillatorCheck
  rw [withControl_osc, withControl_startCheck, withControl_commit]
  split_ifs <;> rfl

/-- No request's rule reads or writes the control fields. -/
theorem carryOut_blind (cp : ControlPort) (r : Request) : ControlBlind (·.carryOut cp r) := by
  cases r with
  | nodeIdentifier i => exact doNodeIdentifier_blind i
  | release => exact doRelease_blind
  | takeControl => exact doTakeControl_blind cp
  | yieldPermission v => exact doYieldPermission_blind v
  | portSetup p b => exact doPortSetup_blind p b
  | portStatus p => exact doPortStatus_blind cp p
  | portGrade p => exact doPortGrade_blind cp p
  | assignPort p d => exact doAssignPort_blind p d
  | assignShelf sh d => exact doAssignShelf_blind sh d
  | applyPartition => exact doApplyPartition_blind
  | discardPartition => exact doDiscardPartition_blind
  | domainSetup d b => exact doDomainSetup_blind d b
  | priorityList d ps => exact doPriorityList_blind d ps
  | domainReport d => exact doDomainReport_blind d
  | eventReport e => exact doEventReport_blind cp e
  | eventMask e m => exact doEventMask_blind e m
  | lineSetup l d => exact doLineSetup_blind l d
  | rankingReport sh => exact doRankingReport_blind sh
  | shelfReport sh => exact doShelfReport_blind sh
  | changeReport e => exact doChangeReport_blind cp e
  | pin sh p => exact doPin_blind sh p
  | steer sh p => exact doSteer_blind sh p
  | clearSteering sh => exact doClearSteering_blind sh
  | bar sh p => exact writeCell_blind sh p .bar
  | allow sh p => exact writeCell_blind sh p .allow
  | openWindow a b c d o => exact doOpenWindow_blind a b c d o
  | writeWindow cells => exact doWriteWindow_blind cells
  | continueWindow cells => exact doContinueWindow_blind cells
  | exclusionRow sh => exact doExclusionRow_blind sh
  | outputSetup sh b => exact doOutputSetup_blind sh b
  | outputReport sh => exact doOutputReport_blind sh
  | oscillatorCheck => exact doOscillatorCheck_blind
  | _ => exact fun _ _ => rfl

/-- Nor does the whole answer, with the checks of R172. -/
theorem answer_blind (cp : ControlPort) (r : Request) : ControlBlind (·.answer cp r) := by
  intro s k
  have hchecks : (s.withControl k).precheck cp r = s.precheck cp r := rfl
  simp only [State.answer, hchecks]
  cases s.precheck cp r with
  | some code => rfl
  | none => exact carryOut_blind cp r s k

end

end Sys2Proof.Machine
end

section
/-!
PROOFS. The path of every request: from the frame completing on a ready port to its fixed reply (R166, R171, R172), with
what the executor's own fields then hold. Each clause of a request's statement is then a fact about the request's rule.
-/

namespace Sys2Proof.Machine

/-! ## The executor's fields -/

/-- The control fields as they stand. -/
def State.control (s : State) : Control :=
  { cpa := s.cpa, cpb := s.cpb, carrying := s.carrying, prevSupplier := s.prevSupplier, pending := s.pending }

@[simp] theorem withControl_control (s : State) : s.withControl s.control = s := rfl

/-- An operation that is blind to the control fields keeps them. -/
theorem ControlBlind.keeps {f : State → State × Reply} (h : ControlBlind f) (s : State) :
    (f s).1.control = s.control := by
  have hf := h s s.control
  rw [withControl_control] at hf
  rw [hf]
  rfl

theorem cpi_of_control {s t : State} (h : t.control = s.control) (cp : ControlPort) : t.cpi cp = s.cpi cp := by
  cases cp
  · exact congrArg Control.cpa h
  · exact congrArg Control.cpb h

/-- No request's rule touches a control port. -/
theorem carryOut_cpi (s : State) (q cp : ControlPort) (r : Request) : ((s.carryOut q r).1).cpi cp = s.cpi cp :=
  cpi_of_control ((carryOut_blind q r).keeps s) cp

theorem answer_cpi (s : State) (q cp : ControlPort) (r : Request) : ((s.answer q r).1).cpi cp = s.cpi cp :=
  cpi_of_control ((answer_blind q r).keeps s) cp

/-! ## From the command to the rule -/

/-- A request's row is the completion of its frame on its port. -/
theorem exec_request {i : Instr} {cp : ControlPort} {r : Request} (h : i.request? = some (cp, r)) (s : State) :
    exec i s = s.live fun s => s.complete cp (.request r) := by
  cases i <;> simp only [Instr.request?, Option.some.injEq, Prod.mk.injEq, reduceCtorEq] at h <;>
    (obtain ⟨rfl, rfl⟩ := h; rfl)

/-- The arrival of a request is a change of the control fields. -/
theorem arrived_eq_withControl (s : State) (cp : ControlPort) (r : Request) :
    s.arrived cp r = s.withControl (s.arrived cp r).control := by
  cases cp <;> rfl

theorem blindToArrival (r : Request) : BlindToArrival r := by
  intro s cp
  have hblind : (s.withControl (s.arrived cp r).control).carryOut cp r =
      ((s.carryOut cp r).1.withControl (s.arrived cp r).control, (s.carryOut cp r).2) := carryOut_blind cp r s _
  rw [arrived_eq_withControl, hblind]
  have hk : ∀ t : State, t.control = s.control → t.withControl (s.arrived cp r).control = t.arrived cp r := by
    intro t ht
    obtain ⟨h1, h2, h3, h4, h5⟩ : t.cpa = s.cpa ∧ t.cpb = s.cpb ∧ t.carrying = s.carrying ∧
        t.prevSupplier = s.prevSupplier ∧ t.pending = s.pending := by
      simpa only [State.control, Control.mk.injEq] using ht
    cases cp <;> simp only [State.withControl, State.arrived, State.setCpi, State.control, State.cpi, h1, h2, ← h3, ← h4,
      ← h5]
  rw [hk _ ((carryOut_blind cp r).keeps s)]

/-- A request completing on a ready port is answered at once (R171). -/
theorem exec_answered {i : Instr} {cp : ControlPort} {r : Request} {s t : State} {reply : Reply}
    (hi : i.request? = some (cp, r)) (h : s.ready cp = true) (hr : r ≠ .restart) (ha : s.answer cp r = (t, reply)) :
    exec i s = .next (t.answered cp reply.code reply.body) := by
  rw [exec_request hi, live_complete_of_answer h hr (blindToArrival r) ha]

/-- On a ready active port past INIT every request comes to its own rule (R172). -/
theorem exec_active {i : Instr} {cp : ControlPort} {r : Request} {s t : State} {reply : Reply}
    (hi : i.request? = some (cp, r)) (h : s.readyActive cp = true) (hr : r ≠ .restart)
    (ha : s.carryOut cp r = (t, reply)) : exec i s = .next (t.answered cp reply.code reply.body) := by
  obtain ⟨hready, hphase, hactive⟩ := readyActive_parts h
  exact exec_answered hi hready hr ((answer_carried _ _ _ (precheck_active s cp r hphase hactive)).trans ha)

/-- Past INIT a request outside the changing class comes to its own rule on either port (R172). -/
theorem exec_reading {i : Instr} {cp : ControlPort} {r : Request} {s t : State} {reply : Reply}
    (hi : i.request? = some (cp, r)) (h : s.ready cp = true) (hp : s.phase ≠ .init) (hc : isChanging r = false)
    (ha : s.carryOut cp r = (t, reply)) : exec i s = .next (t.answered cp reply.code reply.body) := by
  refine exec_answered hi h ?_ ((answer_carried _ _ _ (precheck_notChanging cp hp hc)).trans ha)
  rintro rfl
  cases hc

/-! ## What a fixed reply leaves -/

/-- Fixing the reply of a request that touched no control port answers it (R171). -/
theorem answers_answered {s t : State} (cp : ControlPort) (code : ResultCode) (body : List Byte)
    (h : ∀ q, t.cpi q = s.cpi q) : Answers s (t.answered cp code body) cp code body := by
  unfold Answers State.answered
  rw [← h cp, ← h (otherPort cp)]
  refine ⟨by simp, by simp, by simp, ?_⟩
  rw [setCpi_cpi_other]
  cases cp <;> rfl

/-- Fixing the reply changes the executor's fields and the port alone. -/
theorem answered_eq (t : State) (cp : ControlPort) (code : ResultCode) (body : List Byte) :
    t.answered cp code body =
      { t with carrying := (t.answered cp code body).carrying, prevSupplier := (t.answered cp code body).prevSupplier,
               cpa := (t.answered cp code body).cpa, cpb := (t.answered cp code body).cpb } := by
  cases cp <;> rfl

theorem requestConsequences_answered {u t : State} (h : Consequences u t) (cp : ControlPort) (code : ResultCode)
    (body : List Byte) : RequestConsequences u (t.answered cp code body) := by
  unfold Consequences at h
  unfold RequestConsequences
  rw [h]
  cases cp <;> rfl

section
variable (t : State) (cp : ControlPort) (code : ResultCode) (body : List Byte)

@[simp] theorem answered_now : (t.answered cp code body).now = t.now := by rw [answered_eq]
@[simp] theorem answered_phase : (t.answered cp code body).phase = t.phase := by rw [answered_eq]
@[simp] theorem answered_nodeId : (t.answered cp code body).nodeId = t.nodeId := by rw [answered_eq]
@[simp] theorem answered_ports : (t.answered cp code body).ports = t.ports := by rw [answered_eq]
@[simp] theorem answered_grades : (t.answered cp code body).grades = t.grades := by rw [answered_eq]
@[simp] theorem answered_current : (t.answered cp code body).current = t.current := by rw [answered_eq]
@[simp] theorem answered_domains : (t.answered cp code body).domains = t.domains := by rw [answered_eq]
@[simp] theorem answered_lists : (t.answered cp code body).lists = t.lists := by rw [answered_eq]
@[simp] theorem answered_domainEvents : (t.answered cp code body).domainEvents = t.domainEvents := by rw [answered_eq]
@[simp] theorem answered_partEvents : (t.answered cp code body).partEvents = t.partEvents := by rw [answered_eq]
@[simp] theorem answered_shelves : (t.answered cp code body).shelves = t.shelves := by rw [answered_eq]
@[simp] theorem answered_units : (t.answered cp code body).units = t.units := by rw [answered_eq]
@[simp] theorem answered_queue : (t.answered cp code body).queue = t.queue := by rw [answered_eq]
@[simp] theorem answered_cells : (t.answered cp code body).cells = t.cells := by rw [answered_eq]
@[simp] theorem answered_window : (t.answered cp code body).window = t.window := by rw [answered_eq]
@[simp] theorem answered_outputs : (t.answered cp code body).outputs = t.outputs := by rw [answered_eq]
@[simp] theorem answered_osc : (t.answered cp code body).osc = t.osc := by rw [answered_eq]
end

/-- A request that a check refuses is answered with the check's code, RESTART as well (R172). -/
theorem exec_refused {i : Instr} {cp : ControlPort} {r : Request} {s : State} {code : ResultCode}
    (hi : i.request? = some (cp, r)) (h : s.ready cp = true) (hcheck : s.precheck cp r = some code) :
    exec i s = .next (s.answered cp code []) := by
  obtain ⟨hreset, -, -, -⟩ := ready_parts h
  have hans : (s.arrived cp r).answer cp r = (s.arrived cp r, Reply.plain code) := by
    rw [answer_arrived (blindToArrival r), answer_refused s cp r _ hcheck]
  have hnone : ((s.arrived cp r).precheck cp r).isNone = false := by
    rw [precheck_arrived, hcheck]
    rfl
  rw [exec_request hi, live_of_not_inReset _ _ hreset, complete_takes _ _ _ h, State.take, hnone, hans]
  simp only [Bool.and_false, Bool.false_eq_true, if_false]
  exact congrArg _ (arrived_answered s cp r (Reply.plain code))

/-- Settles O4: the two checks of R172 in turn. -/
theorem executorChecksRefuseWithoutEffect : Obligations.ExecutorChecksRefuseWithoutEffect := by
  intro i cp r s hi h
  exact ⟨fun hp hr => exec_refused hi h (precheck_init cp hp hr),
    fun hp hc ha => exec_refused hi h (precheck_standby hp ha hc)⟩

/-- Settles O5: IDENTITY passes both checks in every phase and on either port, and reports. -/
theorem identityReportsThePart : Obligations.IdentityReportsThePart := by
  intro cp s h
  have hchecks : s.precheck cp .identity = none := by simp [State.precheck, isChanging]
  exact exec_answered (reply := Reply.ok (s.identityBody cp)) rfl h (by simp) (answer_carried _ _ _ hchecks)

end Sys2Proof.Machine
end

section
/-!
PROOFS. The requests that report, and those that write one field: PORT STATUS and PORT GRADE (R19, R38), PENDING and
DISCARD PARTITION (R43, R44), EVENT REPORT and EVENT MASK (R56, R59), LINE SETUP (R58), the reports of shelves and outputs
(R72, R102 to R104, R162), OPEN WINDOW and EXCLUSION ROW (R139, R144). Each clause is one branch of the request's rule.
-/

namespace Sys2Proof.Machine

/-! ## Operand fields -/

theorem domainOf_eq_none {n : Nat} (h : 4 ≤ n) : domainOf n = none := boundedOf_eq_none h

@[simp] theorem domainOf_val (d : DomainId) : domainOf d.val = some d := boundedOf_val d

theorem selectorOf_eq_none {n : Nat} (h : 5 ≤ n) : selectorOf n = none := by
  simp [selectorOf, show n ≠ 4 by omega, domainOf_eq_none (show 4 ≤ n by omega)]

@[simp] theorem selectorOf_val (d : DomainId) : selectorOf d.val = some (some d) := by
  simp [selectorOf, show d.val ≠ 4 by omega]

@[simp] theorem selectorOf_four : selectorOf 4 = some none := rfl

theorem orderOf_eq_none {n : Nat} (h : 2 ≤ n) : orderOf n = none := by
  obtain ⟨k, rfl⟩ := Nat.exists_eq_add_of_le' h
  rfl

theorem lineDriveOf_eq_none {n : Nat} (h : 2 ≤ n) : lineDriveOf n = none := by
  obtain ⟨k, rfl⟩ := Nat.exists_eq_add_of_le' h
  rfl

/-! ## Reports of ports and partitions -/

theorem doPortStatus_badField (s : State) (cp : ControlPort) {n : Nat} (h : 24 ≤ n) :
    s.doPortStatus cp n = (s, Reply.plain .badField) := by rw [State.doPortStatus, portOf_eq_none h]

theorem doPortGrade_badField (s : State) (cp : ControlPort) {n : Nat} (h : 24 ≤ n) :
    s.doPortGrade cp n = (s, Reply.plain .badField) := by rw [State.doPortGrade, portOf_eq_none h]

theorem doPortStatus_inRange (s : State) (cp : ControlPort) (p : PortId) :
    s.doPortStatus cp p.val =
      (if s.active = cp then s.clearPortFlags p else s, Reply.ok (s.portStatusBody p)) := by
  rw [State.doPortStatus, portOf_val]

theorem doPortGrade_inRange (s : State) (cp : ControlPort) (p : PortId) :
    s.doPortGrade cp p.val =
      (if s.active = cp then s.clearMalformed p else s, Reply.ok (s.portGradeBody p)) := by
  rw [State.doPortGrade, portOf_val]

/-- Settles O12: each report is its rule's, and only the active port clears (R20, R39). -/
theorem portReportsReportAndClearOnTheActivePort : Obligations.PortReportsReportAndClearOnTheActivePort := by
  intro cp n s h hp
  constructor
  · intro hn
    exact ⟨exec_reading (reply := Reply.plain .badField) rfl h hp rfl (doPortStatus_badField s cp hn),
      exec_reading (reply := Reply.plain .badField) rfl h hp rfl (doPortGrade_badField s cp hn)⟩
  · rintro p rfl
    constructor
    · rw [exec_reading (r := .portStatus p.val) rfl h hp rfl (doPortStatus_inRange s cp p)]
      simp only [Reply.ok, State.clearPortFlags, State.portStatusBody, portSetupBytes, List.append_assoc,
        List.cons_append, List.nil_append]
    · rw [exec_reading (r := .portGrade p.val) rfl h hp rfl (doPortGrade_inRange s cp p)]
      simp only [Reply.ok, State.clearMalformed, State.portGradeBody, traceBytes, List.append_assoc,
        List.cons_append, List.nil_append]

/-- Settles O30: the report is the rule's, and DISCARD PARTITION copies the current partition unless it is the same. -/
theorem pendingPartitionIsReportedAndDiscarded : Obligations.PendingPartitionIsReportedAndDiscarded := by
  intro cp s
  refine ⟨fun h hp => ?report, fun h hsame => ?same, fun h hnew => ?discard⟩
  case report =>
    exact exec_reading (reply := Reply.ok s.pendingPartitionBody) rfl h hp rfl rfl
  case same =>
    exact exec_active (reply := Reply.plain .noChange) (r := .discardPartition) rfl h (by simp) (if_pos hsame)
  case discard =>
    exact exec_active (reply := Reply.ok []) (r := .discardPartition) rfl h (by simp) (if_neg hnew)

/-! ## Event sets and lines -/

theorem doEventMask_badField (s : State) {n m : Nat} (h : 5 ≤ n ∨ (n < 4 ∧ 1024 ≤ m) ∨ (n = 4 ∧ 32 ≤ m)) :
    s.doEventMask n m = (s, Reply.plain .badField) := by
  unfold State.doEventMask
  rcases h with hn | ⟨hn, hm⟩ | ⟨rfl, hm⟩
  · rw [selectorOf_eq_none hn]
  · rw [show n = (⟨n, hn⟩ : DomainId).val from rfl, selectorOf_val]
    exact if_pos hm
  · exact if_pos hm

theorem doEventMask_domain (s : State) (d : DomainId) (mask : BitVec 10) :
    s.doEventMask d.val mask.toNat =
      if mask = s.domainEvents[d].mask then (s, Reply.plain .noChange)
      else ({ s with domainEvents := s.domainEvents.set d (s.domainEvents[d].remask mask) }, Reply.ok []) := by
  unfold State.doEventMask
  rw [selectorOf_val]
  dsimp only
  rw [if_neg (Nat.not_le.mpr mask.isLt), BitVec.ofNat_toNat, BitVec.setWidth_eq]

theorem doEventMask_part (s : State) (mask : BitVec 5) :
    s.doEventMask 4 mask.toNat =
      if mask = s.partEvents.mask then (s, Reply.plain .noChange)
      else ({ s with partEvents := s.partEvents.remask mask }, Reply.ok []) := by
  unfold State.doEventMask
  rw [selectorOf_four]
  dsimp only
  rw [if_neg (Nat.not_le.mpr mask.isLt), BitVec.ofNat_toNat, BitVec.setWidth_eq]

/-- Settles O34: EVENT REPORT returns and, on the active port, clears the set; EVENT MASK is checked, then replaces. -/
theorem eventSetsAreReportedClearedAndMasked : Obligations.EventSetsAreReportedClearedAndMasked := by
  intro cp n s h hp
  refine ⟨fun hn => ?bad, ?domain, ?part, fun m ha => ?mask⟩
  case bad =>
    refine exec_reading (r := .eventReport n) (reply := Reply.plain .badField) rfl h hp rfl ?_
    simp only [State.carryOut, State.doEventReport, selectorOf_eq_none hn]
  case domain =>
    rintro d rfl
    refine exec_reading (r := .eventReport d.val) (reply := Reply.ok (s.eventReportBody (some d))) rfl h hp rfl ?_
    simp only [State.carryOut, State.doEventReport, selectorOf_val, State.clearEvents]
  case part =>
    rintro rfl
    exact exec_reading (r := .eventReport 4) (reply := Reply.ok (s.eventReportBody none)) rfl h hp rfl rfl
  case mask =>
    have hactive : s.readyActive cp = true := by simp [State.readyActive, h, hp, ha]
    refine ⟨fun hbad => ?_, ?_, ?_⟩
    · exact exec_active (r := .eventMask n m) (reply := Reply.plain .badField) rfl hactive (by simp)
        (doEventMask_badField s hbad)
    · rintro d mask rfl rfl
      constructor
      · intro hsame
        exact exec_active (r := .eventMask d.val mask.toNat) (reply := Reply.plain .noChange) rfl hactive (by simp)
          ((doEventMask_domain s d mask).trans (if_pos hsame))
      · intro hnew
        exact exec_active (r := .eventMask d.val mask.toNat) (reply := Reply.ok []) rfl hactive (by simp)
          ((doEventMask_domain s d mask).trans (if_neg hnew))
    · rintro mask rfl rfl
      constructor
      · intro hsame
        exact exec_active (r := .eventMask 4 mask.toNat) (reply := Reply.plain .noChange) rfl hactive (by simp)
          ((doEventMask_part s mask).trans (if_pos hsame))
      · intro hnew
        exact exec_active (r := .eventMask 4 mask.toNat) (reply := Reply.ok []) rfl hactive (by simp)
          ((doEventMask_part s mask).trans (if_neg hnew))

/-- The code of a line drive reads back (R58). -/
theorem lineDriveOf_code (drive : LineDrive) :
    lineDriveOf (match drive with | .activeLowOpenDrain => 0 | .activeHighPushPull => 1) = some drive := by
  cases drive <;> rfl

theorem doLineSetup_inRange (s : State) (l : Fin 5) {v : Nat} {drive : LineDrive} (hv : lineDriveOf v = some drive) :
    s.doLineSetup l.val v =
      if s.lineDrives[l] = drive then (s, Reply.plain .noChange)
      else ({ s with lineDrives := s.lineDrives.set l drive }, Reply.ok []) := by
  unfold State.doLineSetup
  rw [boundedOf_val, hv]

theorem doLineSetup_badField (s : State) {n v : Nat} (h : 5 ≤ n ∨ 2 ≤ v) :
    s.doLineSetup n v = (s, Reply.plain .badField) := by
  unfold State.doLineSetup
  obtain hn | hv := h
  · rw [boundedOf_eq_none hn]
  · rw [lineDriveOf_eq_none hv]
    cases boundedOf n 5 <;> rfl

/-- Settles O35: LINE SETUP by its rule; out of reset a line is asserted exactly while its set holds a latched kind. -/
theorem notifyLinesFollowTheirSetAndDrive : Obligations.NotifyLinesFollowTheirSetAndDrive := by
  intro cp n s
  refine ⟨fun v h hbad => ?bad, fun l drive v h hl hv => ?setup, fun hreset => ⟨fun d => ?domain, ?part⟩⟩
  case bad =>
    exact exec_active (r := .lineSetup n v) (reply := Reply.plain .badField) rfl h (by simp) (doLineSetup_badField s hbad)
  case setup =>
    subst hl
    have hcode : lineDriveOf v = some drive := hv ▸ lineDriveOf_code drive
    constructor
    · intro hsame
      exact exec_active (r := .lineSetup l.val v) (reply := Reply.plain .noChange) rfl h (by simp)
        ((doLineSetup_inRange s l hcode).trans (if_pos hsame))
    · intro hnew
      exact exec_active (r := .lineSetup l.val v) (reply := Reply.ok []) rfl h (by simp)
        ((doLineSetup_inRange s l hcode).trans (if_neg hnew))
  case domain =>
    simp only [State.notifyLine, State.lineAsserted, hreset, Bool.not_false, Bool.true_and]
    by_cases he : s.domainEvents[d].latched = 0
    · rw [he]
      cases s.lineDrives[d.castSucc] <;> rfl
    · rw [bne_iff_ne.mpr he, decide_eq_false he]
      cases s.lineDrives[d.castSucc] <;> rfl
  case part =>
    simp only [State.notifyLine, State.lineAsserted, hreset, Bool.not_false, Bool.true_and]
    by_cases he : s.partEvents.latched = 0
    · rw [he]
      cases s.lineDrives[(4 : Fin 5)] <;> rfl
    · rw [bne_iff_ne.mpr he, decide_eq_false he]
      cases s.lineDrives[(4 : Fin 5)] <;> rfl

end Sys2Proof.Machine
end

section
/-!
PROOFS. The reports of shelves and outputs (R72, R102 to R104, R162), OPEN WINDOW and EXCLUSION ROW (R139, R144): each
clause is one branch of the request's rule.
-/

namespace Sys2Proof.Machine

/-! ## Reports of shelves and outputs -/

/-- A report past INIT is answered on either port and changes nothing (R172). -/
theorem exec_report {i : Instr} {cp : ControlPort} {r : Request} {s : State} {body body' : List Byte}
    (hi : i.request? = some (cp, r)) (h : s.ready cp = true) (hp : s.phase ≠ .init) (hc : isChanging r = false)
    (ha : s.carryOut cp r = (s, Reply.ok body)) (hbody : body = body') :
    exec i s = .next (s.answered cp .ok body') :=
  hbody ▸ exec_reading hi h hp hc ha

theorem doRankingReport_badField (s : State) {n : Nat} (h : 48 ≤ n) :
    s.doRankingReport n = (s, Reply.plain .badField) := by rw [State.doRankingReport, shelfOf_eq_none h]

theorem doShelfReport_badField (s : State) {n : Nat} (h : 48 ≤ n) :
    s.doShelfReport n = (s, Reply.plain .badField) := by rw [State.doShelfReport, shelfOf_eq_none h]

theorem doOutputReport_badField (s : State) {n : Nat} (h : 48 ≤ n) :
    s.doOutputReport n = (s, Reply.plain .badField) := by rw [State.doOutputReport, shelfOf_eq_none h]

theorem doRankingReport_inRange (s : State) (sh : ShelfId) :
    s.doRankingReport sh.val = (s, Reply.ok (s.rankingReportBody sh)) := by rw [State.doRankingReport, shelfOf_val]

theorem doShelfReport_inRange (s : State) (sh : ShelfId) :
    s.doShelfReport sh.val = (s, Reply.ok (s.shelfReportBody sh)) := by rw [State.doShelfReport, shelfOf_val]

theorem doOutputReport_inRange (s : State) (sh : ShelfId) :
    s.doOutputReport sh.val = (s, Reply.ok (s.outputReportBody sh)) := by rw [State.doOutputReport, shelfOf_val]

theorem holdOffLeft_eq (st : ShelfState) :
    st.holdOffLeft? = match st with | .bridge _ left => some left | _ => none := by cases st <;> rfl

theorem settleLeft_eq (st : ShelfState) :
    st.settleLeft? = match st with | .acquire _ left => some left | _ => none := by cases st <;> rfl

theorem limitLeft_eq (st : ShelfState) :
    st.limitLeft? = match st with | .holdover left => some left | _ => none := by cases st <;> rfl

/-- Settles O36: the four reports answer what their rules list. -/
theorem shelfReportsChangeNothing : Obligations.ShelfReportsChangeNothing := by
  intro cp n s h hp
  refine ⟨fun hn => ⟨?_, ?_, ?_⟩, ?reports, ?queue⟩
  · exact exec_reading (r := .rankingReport n) (reply := Reply.plain .badField) rfl h hp rfl (doRankingReport_badField s hn)
  · exact exec_reading (r := .shelfReport n) (reply := Reply.plain .badField) rfl h hp rfl (doShelfReport_badField s hn)
  · exact exec_reading (r := .outputReport n) (reply := Reply.plain .badField) rfl h hp rfl (doOutputReport_badField s hn)
  case reports =>
    rintro sh rfl
    refine ⟨?ranking, ?shelf, ?output⟩
    case ranking => exact exec_report (r := .rankingReport sh.val) rfl h hp rfl (doRankingReport_inRange s sh) rfl
    case shelf =>
      refine exec_report (r := .shelfReport sh.val) rfl h hp rfl (doShelfReport_inRange s sh) ?_
      simp only [State.shelfReportBody, holdOffLeft_eq, settleLeft_eq, limitLeft_eq, State.unitOf, State.queuePlace]
      cases s.queue.idxOf? sh <;> rfl
    case output =>
      refine exec_report (r := .outputReport sh.val) rfl h hp rfl (doOutputReport_inRange s sh) ?_
      simp only [State.outputReportBody, Output.untilDue, Output.dueAt, Option.map_map, Function.comp_def]
      cases s.outputs[sh].outgoing <;> cases s.outputs[sh].pendingSetup <;>
        simp only [outgoingBytes, traceBytes, List.append_assoc, List.cons_append, List.nil_append, List.flatMap_nil,
          List.length_nil] <;> rfl
  case queue =>
    refine exec_report (r := .queueReport) rfl h hp rfl (State.doQueueReport.eq_1 s) ?_
    simp only [State.queueReportBody, settleLeft_eq]
    rfl

/-! ## CHANGE REPORT -/

/-- The selector of a change report as the number it comes as (R103, R190). -/
theorem listsChange_eq (s : State) {n : Nat} {sel : Option DomainId} (hsel : selectorOf n = some sel) (sh : ShelfId) :
    s.listsChange sel sh = (s.shelves[sh].changed && (n == 4 || (s.shelfDomain sh).map (·.val) == some n)) := by
  unfold selectorOf at hsel
  by_cases h4 : n = 4
  · rw [if_pos h4] at hsel
    cases hsel
    simp [State.listsChange, h4]
  · rw [if_neg h4] at hsel
    obtain ⟨d, hd, rfl⟩ := Option.map_eq_some_iff.mp hsel
    have hlt : n < 4 := by
      by_contra hge
      rw [domainOf_eq_none (by omega)] at hd
      cases hd
    obtain rfl : (⟨n, hlt⟩ : DomainId) = d := by
      have := domainOf_val ⟨n, hlt⟩
      rw [hd] at this
      exact (Option.some.inj this).symm
    cases hs : s.shelfDomain sh with
    | none => simp [State.listsChange, h4, hs]
    | some e => simp [State.listsChange, h4, hs, Fin.ext_iff, Bool.beq_eq_decide_eq]

/-- Settles O37: the report lists the changed shelves of its selector and, on the active port, clears their flags. -/
theorem changeReportListsAndClearsChangedShelves : Obligations.ChangeReportListsAndClearsChangedShelves := by
  intro cp n s h hp
  constructor
  · intro hn
    refine exec_reading (r := .changeReport n) (reply := Reply.plain .badField) rfl h hp rfl ?_
    simp only [State.carryOut, State.doChangeReport, selectorOf_eq_none hn]
  · rintro hn listed rfl
    obtain ⟨sel, hsel⟩ : ∃ sel, selectorOf n = some sel := by
      by_cases h4 : n = 4
      · exact ⟨none, by rw [h4]; rfl⟩
      · exact ⟨_, selectorOf_val ⟨n, by omega⟩⟩
    have hlists : s.listsChange sel =
        fun sh => (s.shelves[sh].changed && (n == 4 || (s.shelfDomain sh).map (·.val) == some n)) :=
      funext (listsChange_eq s hsel)
    have hrule : s.carryOut cp (.changeReport n) =
        (if s.active = cp then s.clearChanged sel else s, Reply.ok (s.changeReportBody sel)) := by
      rw [State.carryOut, State.doChangeReport, hsel]
    rw [exec_reading (r := .changeReport n) rfl h hp rfl hrule]
    simp only [State.clearChanged, State.changeReportBody, hlists, Reply.ok, ShelfState.named?, List.mem_filter,
      List.mem_finRange, true_and]

/-! ## OPEN WINDOW and EXCLUSION ROW -/

theorem doOpenWindow_badField (s : State) {a b c d o : Nat}
    (h : 48 ≤ a ∨ 48 ≤ b ∨ 24 ≤ c ∨ 24 ≤ d ∨ b < a ∨ d < c ∨ 2 ≤ o) :
    s.doOpenWindow a b c d o = (s, Reply.plain .badField) := by
  unfold State.doOpenWindow
  split
  · rename_i fs ls fp lp ord hfs hls hfp hlp hord
    have ha : a < 48 := by by_contra hge; rw [shelfOf_eq_none (by omega)] at hfs; cases hfs
    have hb : b < 48 := by by_contra hge; rw [shelfOf_eq_none (by omega)] at hls; cases hls
    have hc : c < 24 := by by_contra hge; rw [portOf_eq_none (by omega)] at hfp; cases hfp
    have hd : d < 24 := by by_contra hge; rw [portOf_eq_none (by omega)] at hlp; cases hlp
    have ho : o < 2 := by by_contra hge; rw [orderOf_eq_none (by omega)] at hord; cases hord
    rw [show a = (⟨a, ha⟩ : ShelfId).val from rfl, shelfOf_val] at hfs
    rw [show b = (⟨b, hb⟩ : ShelfId).val from rfl, shelfOf_val] at hls
    rw [show c = (⟨c, hc⟩ : PortId).val from rfl, portOf_val] at hfp
    rw [show d = (⟨d, hd⟩ : PortId).val from rfl, portOf_val] at hlp
    cases hfs; cases hls; cases hfp; cases hlp
    refine if_pos ?_
    simp only [Bool.or_eq_true, decide_eq_true_eq, Fin.mk_lt_mk]
    omega
  · rfl

theorem orderOf_code (order : ScanOrder) : orderOf (match order with | .byShelf => 0 | .byPort => 1) = some order := by
  cases order <;> rfl

theorem doOpenWindow_inRange (s : State) (w : Window) (hs : w.firstShelf ≤ w.lastShelf) (hp : w.firstPort ≤ w.lastPort)
    (hc : w.cursor = 0) :
    s.doOpenWindow w.firstShelf.val w.lastShelf.val w.firstPort.val w.lastPort.val
        (match w.order with | .byShelf => 0 | .byPort => 1) =
      ({ s with window := some w }, Reply.ok (be16 w.count)) := by
  unfold State.doOpenWindow
  simp only [shelfOf_val, portOf_val, orderOf_code, not_lt.mpr hs, not_lt.mpr hp, decide_false, Bool.or_self,
    Bool.false_eq_true, if_false]
  rw [← hc]

/-- Settles O42: OPEN WINDOW and EXCLUSION ROW by their rules. -/
theorem openWindowPlacesTheCursorFirst : Obligations.OpenWindowPlacesTheCursorFirst := by
  intro cp s
  refine ⟨fun a b c d o h hbad => ?bad, fun w h hs hp hc => ?opened, fun n h hp => ⟨fun hn => ?badRow, ?row⟩⟩
  case bad =>
    exact exec_active (r := .openWindow a b c d o) (reply := Reply.plain .badField) rfl h (by simp)
      (doOpenWindow_badField s hbad)
  case opened => exact exec_active (r := .openWindow _ _ _ _ _) rfl h (by simp) (doOpenWindow_inRange s w hs hp hc)
  case badRow =>
    refine exec_reading (r := .exclusionRow n) (reply := Reply.plain .badField) rfl h hp rfl ?_
    rw [State.carryOut, State.doExclusionRow, shelfOf_eq_none hn]
  case row =>
    rintro sh rfl
    refine exec_report (r := .exclusionRow sh.val) (body := s.exclusionRowBody sh) rfl h hp rfl ?_ ?_
    · rw [State.carryOut, State.doExclusionRow, shelfOf_val]
    · unfold State.exclusionRowBody
      cases s.window <;> rfl

end Sys2Proof.Machine
end

section
/-!
PROOFS. What a committed change and a refresh leave as it was, and what they keep of shelves when no ranking input has
changed (R68): the layer under every statement about a change. With it PRIORITY LIST, the exclusion cells and windows, the
oscillator requests, and the passing of time.
-/

namespace Sys2Proof.Machine

/-! ## What consequences leave as it was -/

theorem Consequences.refl (s : State) : Consequences s s := rfl

theorem Consequences.trans {s t u : State} (h : Consequences s t) (k : Consequences t u) : Consequences s u := by
  unfold Consequences at h k ⊢
  rw [k, h]

theorem ShelfOnly.consequences {s t : State} (h : ShelfOnly s t) : Consequences s t := by
  unfold ShelfOnly at h
  unfold Consequences
  rw [h]

theorem Moves.consequences {s t : State} (h : Moves s t) : Consequences s t := h.shelfOnly.consequences

theorem refresh_consequences (old s : State) : Consequences s (State.refresh old s) := by
  unfold Consequences
  rw [refresh_only]

theorem commit_consequences (old s : State) (x : Ctx) : Consequences s (State.commit old s x) :=
  (moves_rerank old s x).consequences.trans (refresh_consequences old _)

section
variable {s t : State}

theorem Consequences.resetPin (h : Consequences s t) : t.resetPin = s.resetPin := by rw [h]
theorem Consequences.internalReset (h : Consequences s t) : t.internalReset = s.internalReset := by rw [h]
theorem Consequences.now (h : Consequences s t) : t.now = s.now := by rw [h]
theorem Consequences.phase (h : Consequences s t) : t.phase = s.phase := by rw [h]
theorem Consequences.straps (h : Consequences s t) : t.straps = s.straps := by rw [h]
theorem Consequences.nodeId (h : Consequences s t) : t.nodeId = s.nodeId := by rw [h]
theorem Consequences.ports (h : Consequences s t) : t.ports = s.ports := by rw [h]
theorem Consequences.grades (h : Consequences s t) : t.grades = s.grades := by rw [h]
theorem Consequences.current (h : Consequences s t) : t.current = s.current := by rw [h]
theorem Consequences.pendingPart (h : Consequences s t) : t.pendingPart = s.pendingPart := by rw [h]
theorem Consequences.domains (h : Consequences s t) : t.domains = s.domains := by rw [h]
theorem Consequences.lists (h : Consequences s t) : t.lists = s.lists := by rw [h]
theorem Consequences.partEvents (h : Consequences s t) : t.partEvents = s.partEvents := by rw [h]
theorem Consequences.lineDrives (h : Consequences s t) : t.lineDrives = s.lineDrives := by rw [h]
theorem Consequences.cells (h : Consequences s t) : t.cells = s.cells := by rw [h]
theorem Consequences.window (h : Consequences s t) : t.window = s.window := by rw [h]
theorem Consequences.osc (h : Consequences s t) : t.osc = s.osc := by rw [h]
theorem Consequences.active (h : Consequences s t) : t.active = s.active := by rw [h]
theorem Consequences.yieldPermission (h : Consequences s t) : t.yieldPermission = s.yieldPermission := by rw [h]
theorem Consequences.prevSupplier (h : Consequences s t) : t.prevSupplier = s.prevSupplier := by rw [h]
theorem Consequences.carrying (h : Consequences s t) : t.carrying = s.carrying := by rw [h]
theorem Consequences.cpa (h : Consequences s t) : t.cpa = s.cpa := by rw [h]
theorem Consequences.cpb (h : Consequences s t) : t.cpb = s.cpb := by rw [h]
theorem Consequences.pending (h : Consequences s t) : t.pending = s.pending := by rw [h]

theorem Consequences.inReset (h : Consequences s t) : t.inReset = s.inReset := by
  rw [State.inReset, h.resetPin, h.internalReset, State.inReset]

theorem Consequences.shelfDomain (h : Consequences s t) (sh : ShelfId) : t.shelfDomain sh = s.shelfDomain sh := by
  rw [State.shelfDomain, h.current, State.shelfDomain]

theorem Consequences.portDomain (h : Consequences s t) (p : PortId) : t.portDomain p = s.portDomain p := by
  rw [State.portDomain, h.current, State.portDomain]

theorem Consequences.shelfRecord (h : Consequences s t) (sh : ShelfId) : t.shelfRecord sh = s.shelfRecord sh := by
  rw [State.shelfRecord, h.shelfDomain, h.domains, State.shelfRecord]

theorem Consequences.settleMs (h : Consequences s t) (sh : ShelfId) : t.settleMs sh = s.settleMs sh := by
  rw [State.settleMs, h.shelfRecord, State.settleMs]

theorem Consequences.limitMs (h : Consequences s t) (sh : ShelfId) : t.limitMs sh = s.limitMs sh := by
  rw [State.limitMs, h.shelfRecord, State.limitMs]

theorem Consequences.shelfHoldOff (h : Consequences s t) (sh : ShelfId) : t.shelfHoldOff sh = s.shelfHoldOff sh := by
  rw [State.shelfHoldOff, h.shelfRecord, State.shelfHoldOff]

theorem Consequences.barred (h : Consequences s t) (sh : ShelfId) (p : PortId) : t.barred sh p = s.barred sh p := by
  rw [State.barred, h.cells, State.barred]

theorem Consequences.sameInputs (h : Consequences s t) : SameInputs s t :=
  ⟨h.ports, h.grades, h.current, h.domains, h.lists, h.cells⟩

/-- Validity is the same condition where the latch, the settings and the learned time are (R105). -/
theorem Consequences.holdoverValid (h : Consequences s t) {sh : ShelfId}
    (hl : t.shelves[sh].learned = s.shelves[sh].learned) : t.holdoverValid sh = s.holdoverValid sh := by
  rw [State.holdoverValid, h.shelfRecord, h.osc, hl, State.holdoverValid]

end

/-! ## A change that alters no ranking input -/

/-- With the same inputs and steering no shelf is handed anything new (R67, R68). -/
theorem handedNew_sameInputs {s t : State} (h : SameInputs s t) (hs : t.shelves = s.shelves) :
    State.handedNew s t = [] := by
  have hh : ∀ sh : ShelfId, t.handed sh = s.handed sh := fun sh => h.handed sh (by rw [hs])
  simp only [State.handedNew, hh, bne_self_eq_false, List.filter_false]

/-- With the same inputs no shelf acts: the kept records are brought up to date and nothing else (R68). -/
theorem commit_sameInputs {s t : State} (h : SameInputs s t) (hs : t.shelves = s.shelves) (x : Ctx) :
    State.commit s t x = State.refresh s t := by
  rw [State.commit, State.rerank, handedNew_sameInputs h hs]
  rfl

/-! ## A request that changes the part -/

/-- A request's rule that commits a change on the active port: its answer and what it leaves. -/
theorem exec_changed {i : Instr} {cp : ControlPort} {r : Request} {s u t : State} {body : List Byte}
    (hi : i.request? = some (cp, r)) (h : s.readyActive cp = true) (hr : r ≠ .restart)
    (ha : s.carryOut cp r = (t, Reply.ok body)) (hc : Consequences u t) :
    exec i s = .next (t.answered cp .ok body) ∧ Answers s (t.answered cp .ok body) cp .ok body ∧
      RequestConsequences u (t.answered cp .ok body) := by
  refine ⟨exec_active hi h hr ha, answers_answered _ _ _ fun q => ?_, requestConsequences_answered hc _ _ _⟩
  have hcpi := carryOut_cpi s cp q r
  rwa [ha] at hcpi

/-! ## PRIORITY LIST -/

theorem portsNamed_map_val (list : List PortId) : portsNamed (list.map (·.val)) = some list := by
  induction list with
  | nil => rfl
  | cons p rest ih => rw [List.map_cons, portsNamed, portOf_val, ih]

theorem portsNamed_eq_none {ports : List Nat} {q : Nat} (hq : q ∈ ports) (h : 24 ≤ q) : portsNamed ports = none := by
  induction ports with
  | nil => cases hq
  | cons n rest ih =>
    rw [portsNamed]
    rcases List.mem_cons.mp hq with rfl | hq
    · rw [portOf_eq_none h]
    · rw [ih hq]
      cases portOf n <;> rfl

theorem hasDuplicate_eq_false {list : List PortId} : hasDuplicate list = false ↔ list.Nodup := by
  induction list with
  | nil => simp [hasDuplicate]
  | cons p rest ih => simp [hasDuplicate, ih]

theorem doPriorityList_badField (s : State) {n : Nat} {ports : List Nat}
    (h : 4 ≤ n ∨ 24 < ports.length ∨ ∃ q ∈ ports, 24 ≤ q) : s.doPriorityList n ports = (s, Reply.plain .badField) := by
  unfold State.doPriorityList
  obtain hn | hlong | ⟨q, hq, hbig⟩ := h
  · rw [domainOf_eq_none hn]
  · split
    · exact if_pos hlong
    · rfl
  · rw [portsNamed_eq_none hq hbig]
    cases domainOf n <;> rfl

theorem doPriorityList_inRange (s : State) (d : DomainId) {list : List PortId} (hlen : list.length ≤ 24) :
    s.doPriorityList d.val (list.map (·.val)) =
      if hasDuplicate list then (s, Reply.plain .conflict)
      else if list.any (fun p => s.portDomain p != some d) then (s, Reply.plain .notInDomain)
      else if list = s.lists[d] then (s, Reply.plain .noChange)
      else (State.commit s { s with lists := s.lists.set d list } Ctx.failing, Reply.ok []) := by
  unfold State.doPriorityList
  rw [domainOf_val, portsNamed_map_val]
  exact if_neg (by rw [List.length_map]; omega)

/-- Settles O33: the checks of PRIORITY LIST in their order, then the list. -/
theorem priorityListIsCheckedAndReplaced : Obligations.PriorityListIsCheckedAndReplaced := by
  intro cp n ports s h
  refine ⟨fun hbad => ?bad, ?list⟩
  case bad =>
    exact exec_active (r := .priorityList n ports) (reply := Reply.plain .badField) rfl h (by simp)
      (doPriorityList_badField s hbad)
  case list =>
    rintro d list rfl rfl hlen
    have hrule := doPriorityList_inRange s d hlen
    have hdomain : (∀ p ∈ list, s.portDomain p = some d) ↔ list.any (fun p => s.portDomain p != some d) = false := by
      simp
    refine ⟨fun hdup => ?_, fun hnd hout => ?_, fun hnd hin hsame => ?_, fun hnd hin hnew => ?_⟩
    · rw [if_pos (by rwa [← Bool.not_eq_false, hasDuplicate_eq_false])] at hrule
      exact exec_active (r := .priorityList _ _) (reply := Reply.plain .conflict) rfl h (by simp) hrule
    · have hany : list.any (fun p => s.portDomain p != some d) = true := by simpa using hout
      rw [hasDuplicate_eq_false.mpr hnd, if_neg Bool.false_ne_true, if_pos hany] at hrule
      exact exec_active (r := .priorityList _ _) (reply := Reply.plain .notInDomain) rfl h (by simp) hrule
    · rw [hasDuplicate_eq_false.mpr hnd, hdomain.mp hin, if_neg Bool.false_ne_true, if_neg Bool.false_ne_true,
        if_pos hsame] at hrule
      exact exec_active (r := .priorityList _ _) (reply := Reply.plain .noChange) rfl h (by simp) hrule
    · rw [hasDuplicate_eq_false.mpr hnd, hdomain.mp hin, if_neg Bool.false_ne_true, if_neg Bool.false_ne_true,
        if_neg hnew] at hrule
      exact ⟨_, exec_changed (r := .priorityList _ _) rfl h (by simp) hrule (commit_consequences _ _ _)⟩

/-! ## Exclusion cells -/

/-- Writing a cell writes that cell alone (R134). -/
theorem setCell_barred (s : State) (sh sh' : ShelfId) (p p' : PortId) (v : CellValue) :
    (s.setCell sh p v).barred sh' p' = if sh' = sh ∧ p' = p then v == .bar else s.barred sh' p' := by
  have hbit : (1#24 <<< p.val).getLsbD p'.val = decide (p' = p) := by
    rw [← BitVec.twoPow_eq, BitVec.getLsbD_twoPow]
    simp [Fin.ext_iff, eq_comm, p.isLt]
  by_cases hs : sh' = sh
  · subst hs
    by_cases hp : p' = p
    · subst hp
      cases v <;>
        simp only [State.barred, State.setCell, Fin.getElem_fin, Vector.getElem_set_self, BitVec.getLsbD_or,
          BitVec.getLsbD_and, BitVec.getLsbD_not, hbit, decide_true, Bool.or_true, Bool.not_true, Bool.and_false, and_self,
          if_true] <;> rfl
    · cases v <;>
        simp only [State.barred, State.setCell, Fin.getElem_fin, Vector.getElem_set_self, BitVec.getLsbD_or,
          BitVec.getLsbD_and, BitVec.getLsbD_not, hbit, hp, decide_false, Bool.or_false, Bool.not_false, Bool.and_true,
          and_false, if_false, p'.isLt, decide_true]
  · have hne : sh.val ≠ sh'.val := fun h => hs (Fin.ext h.symm)
    simp only [State.barred, State.setCell, Fin.getElem_fin, Vector.getElem_set_ne _ _ hne, hs, false_and, if_false]

theorem writeCell_badField (s : State) {n m : Nat} (v : CellValue) (h : 48 ≤ n ∨ 24 ≤ m) :
    s.writeCell n m v = (s, Reply.plain .badField) := by
  unfold State.writeCell
  obtain hn | hm := h
  · rw [shelfOf_eq_none hn]
  · rw [portOf_eq_none hm]
    cases shelfOf n <;> rfl

theorem writeCell_inRange (s : State) (sh : ShelfId) (p : PortId) (v : CellValue) :
    s.writeCell sh.val p.val v =
      if s.barred sh p = (v == .bar) then (s, Reply.plain .noChange)
      else (State.commit s (s.setCell sh p v) Ctx.ranking, Reply.ok []) := by
  rw [State.writeCell, shelfOf_val, portOf_val]

/-- A cell write that changes the cell: its answer, what it leaves, and every cell after it (R135). -/
theorem exec_writeCell {i : Instr} {cp : ControlPort} {r : Request} {s : State} {sh : ShelfId} {p : PortId}
    {v : CellValue} (hi : i.request? = some (cp, r)) (h : s.readyActive cp = true) (hr : r ≠ .restart)
    (ha : s.carryOut cp r = s.writeCell sh.val p.val v) (hnew : s.barred sh p ≠ (v == .bar)) :
    ∃ t, exec i s = .next t ∧ Answers s t cp .ok [] ∧ RequestConsequences { s with cells := t.cells } t ∧
      ∀ (sh' : ShelfId) (p' : PortId), t.barred sh' p' = if sh' = sh ∧ p' = p then v == .bar else s.barred sh' p' := by
  rw [writeCell_inRange, if_neg hnew] at ha
  have hc := commit_consequences s (s.setCell sh p v) Ctx.ranking
  obtain ⟨hexec, hanswers, hcons⟩ := exec_changed hi h hr ha hc
  have hcells : ((State.commit s (s.setCell sh p v) Ctx.ranking).answered cp .ok []).cells = (s.setCell sh p v).cells := by
    rw [answered_cells, hc.cells]
  refine ⟨_, hexec, hanswers, by rw [hcells]; exact hcons, fun sh' p' => ?_⟩
  rw [← setCell_barred, State.barred, hcells, State.barred]

/-- Settles O41: BAR and ALLOW write one cell, unless it already holds the value. -/
theorem barAndAllowWriteOneCell : Obligations.BarAndAllowWriteOneCell := by
  intro cp n m s h
  refine ⟨fun hbad => ⟨?_, ?_⟩, ?inRange⟩
  · exact exec_active (r := .bar n m) (reply := Reply.plain .badField) rfl h (by simp) (writeCell_badField s _ hbad)
  · exact exec_active (r := .allow n m) (reply := Reply.plain .badField) rfl h (by simp) (writeCell_badField s _ hbad)
  case inRange =>
    rintro sh p rfl rfl
    refine ⟨fun hb => ?_, fun hb => ?_, fun hb => ?_, fun hb => ?_⟩
    · exact exec_active (r := .bar _ _) (reply := Reply.plain .noChange) rfl h (by simp)
        ((writeCell_inRange s sh p .bar).trans (if_pos hb))
    · exact exec_active (r := .allow _ _) (reply := Reply.plain .noChange) rfl h (by simp)
        ((writeCell_inRange s sh p .allow).trans (if_pos hb))
    · exact exec_writeCell (r := .bar sh.val p.val) (v := .bar) rfl h (by simp) rfl (by rw [hb]; decide)
    · exact exec_writeCell (r := .allow sh.val p.val) (v := .allow) rfl h (by simp) rfl (by rw [hb]; decide)

end Sys2Proof.Machine
end

section
/-!
PROOFS. WRITE WINDOW and CONTINUE WINDOW (R138, R140 to R142), the oscillator requests (R118 to R120), a step and the time
that an idle one lets pass (R10, R31, R75, R105, R106, R110, R113, R118).
-/

namespace Sys2Proof.Machine

/-! ## The scan sequence of a window (R138) -/

theorem shelfOf_eq_some {n : Nat} (h : n < 48) : shelfOf n = some ⟨n, h⟩ := shelfOf_val ⟨n, h⟩

theorem portOf_eq_some {n : Nat} (h : n < 24) : portOf n = some ⟨n, h⟩ := portOf_val ⟨n, h⟩

/-- The shelf and the port at a place of the scan sequence, as offsets from the window's first (R138). -/
def Window.offsetsAt (w : Window) (place : Nat) : Nat × Nat :=
  match w.order with
  | .byShelf => (place / w.portSpan, place % w.portSpan)
  | .byPort => (place % w.shelfSpan, place / w.shelfSpan)

theorem portSpan_pos (w : Window) : 0 < w.portSpan := Nat.succ_pos _

theorem shelfSpan_pos (w : Window) : 0 < w.shelfSpan := Nat.succ_pos _

/-- Places of the sequence stay in the window. -/
theorem offsetsAt_lt {w : Window} {place : Nat} (h : place < w.count) :
    (w.offsetsAt place).1 < w.shelfSpan ∧ (w.offsetsAt place).2 < w.portSpan := by
  unfold Window.offsetsAt
  unfold Window.count at h
  cases w.order with
  | byShelf => exact ⟨Nat.div_lt_of_lt_mul (by rwa [Nat.mul_comm]), Nat.mod_lt _ (portSpan_pos w)⟩
  | byPort => exact ⟨Nat.mod_lt _ (shelfSpan_pos w), Nat.div_lt_of_lt_mul h⟩

/-- Two places with the same offsets are one. -/
theorem offsetsAt_injective {w : Window} {a b : Nat} (h : w.offsetsAt a = w.offsetsAt b) : a = b := by
  unfold Window.offsetsAt at h
  cases ho : w.order with
  | byShelf =>
    rw [ho] at h
    obtain ⟨hdiv, hmod⟩ := Prod.mk.inj h
    rw [← Nat.div_add_mod a w.portSpan, hdiv, hmod, Nat.div_add_mod]
  | byPort =>
    rw [ho] at h
    obtain ⟨hmod, hdiv⟩ := Prod.mk.inj h
    rw [← Nat.div_add_mod a w.shelfSpan, hdiv, hmod, Nat.div_add_mod]

/-- Every place below the count is a cell of the window. -/
theorem cellAt_lt {w : Window} {place : Nat} (h : place < w.count) :
    ∃ (sh : ShelfId) (p : PortId), w.cellAt place = some (sh, p) ∧ sh.val = w.firstShelf.val + (w.offsetsAt place).1 ∧
      p.val = w.firstPort.val + (w.offsetsAt place).2 := by
  obtain ⟨hs, hp⟩ := offsetsAt_lt h
  unfold Window.shelfSpan at hs
  unfold Window.portSpan at hp
  have hs' : w.firstShelf.val + (w.offsetsAt place).1 < 48 := by
    have h1 := w.firstShelf.isLt
    have h2 := w.lastShelf.isLt
    omega
  have hp' : w.firstPort.val + (w.offsetsAt place).2 < 24 := by
    have h1 := w.firstPort.isLt
    have h2 := w.lastPort.isLt
    omega
  refine ⟨⟨_, hs'⟩, ⟨_, hp'⟩, ?_, rfl, rfl⟩
  have hpair : w.cellAt place =
      if place < w.count then
        match shelfOf (w.firstShelf.val + (w.offsetsAt place).1), portOf (w.firstPort.val + (w.offsetsAt place).2) with
        | some sh, some p => some (sh, p)
        | _, _ => none
      else none := by
    unfold Window.cellAt Window.offsetsAt
    cases w.order <;> rfl
  rw [hpair, if_pos h, shelfOf_eq_some hs', portOf_eq_some hp']

theorem cellAt_eq_none {w : Window} {place : Nat} (h : w.count ≤ place) : w.cellAt place = none := by
  unfold Window.cellAt
  exact if_neg (by omega)

/-- A cell stands at one place of the sequence. -/
theorem cellAt_injective {w : Window} {a b : Nat} {cell : ShelfId × PortId} (ha : w.cellAt a = some cell)
    (hb : w.cellAt b = some cell) : a = b := by
  have lt_of_some : ∀ {c : Nat}, w.cellAt c = some cell → c < w.count := fun {c} hc => by
    by_contra hge
    rw [cellAt_eq_none (by omega)] at hc
    cases hc
  obtain ⟨sh, p, ha', hsa, hpa⟩ := cellAt_lt (lt_of_some ha)
  obtain ⟨sh', p', hb', hsb, hpb⟩ := cellAt_lt (lt_of_some hb)
  have hcell : (sh, p) = (sh', p') := Option.some.inj ((ha'.symm.trans (ha.trans hb.symm)).trans hb')
  obtain ⟨rfl, rfl⟩ := Prod.mk.inj hcell
  exact offsetsAt_injective (w := w) (Prod.ext (by omega) (by omega))

/-! ## Writing the cells of a window -/

/-- Writing cells changes cells alone. -/
theorem writeCells_only (s : State) (w : Window) (place : Nat) (cells : List CellValue) :
    s.writeCells w place cells = { s with cells := (s.writeCells w place cells).cells } := by
  induction cells generalizing s place with
  | nil => rfl
  | cons v rest ih =>
    unfold State.writeCells
    cases w.cellAt place with
    | none => rfl
    | some cell =>
      dsimp only
      rw [ih]
      rfl

/-- A cell of the window that no value reaches keeps its value. -/
theorem writeCells_barred_other (s : State) (w : Window) (place : Nat) (cells : List CellValue) {sh : ShelfId}
    {p : PortId} (h : ∀ k, k < min cells.length (w.count - place) → w.cellAt (place + k) ≠ some (sh, p)) :
    (s.writeCells w place cells).barred sh p = s.barred sh p := by
  induction cells generalizing s place with
  | nil => rfl
  | cons v rest ih =>
    unfold State.writeCells
    by_cases hlt : place < w.count
    · obtain ⟨sh', p', hcell, -, -⟩ := cellAt_lt hlt
      rw [hcell]
      dsimp only
      rw [ih, setCell_barred, if_neg]
      · rintro ⟨rfl, rfl⟩
        exact h 0 (by simp only [List.length_cons]; omega) hcell
      · intro k hk
        rw [show place + 1 + k = place + (k + 1) by omega]
        exact h (k + 1) (by simp only [List.length_cons]; omega)
    · rw [cellAt_eq_none (by omega)]

/-- Every value taken is written to the cell at its place. -/
theorem writeCells_barred_taken (s : State) (w : Window) (place : Nat) (cells : List CellValue) {k : Nat}
    {sh : ShelfId} {p : PortId} (hk : k < min cells.length (w.count - place))
    (hcell : w.cellAt (place + k) = some (sh, p)) :
    (s.writeCells w place cells).barred sh p = (cells[k]? == some .bar) := by
  induction cells generalizing s place k with
  | nil => simp at hk
  | cons v rest ih =>
    unfold State.writeCells
    obtain ⟨sh', p', hfirst, -, -⟩ := cellAt_lt (w := w) (place := place) (by omega)
    rw [hfirst]
    dsimp only
    cases k with
    | zero =>
      obtain ⟨rfl, rfl⟩ := Prod.mk.inj (Option.some.inj (hfirst.symm.trans hcell))
      rw [writeCells_barred_other, setCell_barred, if_pos ⟨rfl, rfl⟩]
      · rfl
      · intro j _ hj
        have := cellAt_injective hj hfirst
        omega
    | succ k =>
      rw [List.getElem?_cons_succ]
      refine ih _ _ ?_ ?_
      · simp only [List.length_cons] at hk
        omega
      · rw [← hcell, show place + 1 + k = place + (k + 1) by omega]

/-- A write of cells from a place on: its answer, what it leaves and every cell after it (R140 to R142). -/
theorem exec_writeFrom {i : Instr} {cp : ControlPort} {r : Request} {s : State} {w : Window} {place taken : Nat}
    {cells : List CellValue} (hi : i.request? = some (cp, r)) (h : s.readyActive cp = true) (hr : r ≠ .restart)
    (ha : s.carryOut cp r = s.writeFrom w place cells) (htaken : taken = min cells.length (w.count - place)) :
    ∃ t, exec i s = .next t ∧
      Answers s t cp .ok (be16 taken ++ be16 (cells.length - taken) ++
        ({ w with cursor := place + taken } : Window).cursorBytes) ∧
      RequestConsequences { s with cells := t.cells, window := some { w with cursor := place + taken } } t ∧
      (∀ (k : Nat) (sh : ShelfId) (p : PortId), k < taken → w.cellAt (place + k) = some (sh, p) →
        t.barred sh p = (cells[k]? == some .bar)) ∧
      (∀ (sh : ShelfId) (p : PortId), (∀ k, k < taken → w.cellAt (place + k) ≠ some (sh, p)) →
        t.barred sh p = s.barred sh p) := by
  subst htaken
  rw [State.writeFrom] at ha
  set w' : Window := { w with cursor := place + min cells.length (w.count - place) } with hw'
  have hc := commit_consequences s { s.writeCells w place cells with window := some w' } Ctx.ranking
  obtain ⟨hexec, hanswers, hcons⟩ := exec_changed hi h hr ha hc
  refine ⟨_, hexec, hanswers, ?_, fun k sh p hk hcell => ?_, fun sh p hout => ?_⟩
  · rw [answered_cells, hc.cells]
    rw [writeCells_only] at hcons ⊢
    exact hcons
  · rw [State.barred, answered_cells, hc.cells]
    exact writeCells_barred_taken s w place cells hk hcell
  · rw [State.barred, answered_cells, hc.cells]
    exact writeCells_barred_other s w place cells hout

/-- A count outside 1 to 1152 (R140, R141). -/
theorem cellCount_refused {cells : List CellValue} (h : cells.length = 0 ∨ 1152 < cells.length) :
    (decide (cells.length = 0) || decide (1152 < cells.length)) = true := by simpa using h

theorem cellCount_accepted {cells : List CellValue} (h1 : 1 ≤ cells.length) (h2 : cells.length ≤ 1152) :
    ¬ (decide (cells.length = 0) || decide (1152 < cells.length)) = true := by
  simp only [Bool.or_eq_true, decide_eq_true_eq]
  omega

/-- Settles O43: both write the cells from their place on, until the values or the cells run out. -/
theorem windowWritesFillCellsInScanOrder : Obligations.WindowWritesFillCellsInScanOrder := by
  intro cp cells s h
  refine ⟨fun hbad => ⟨?_, ?_⟩, fun h1 h2 hw => ⟨?_, ?_⟩, ?write⟩
  · exact exec_active (r := .writeWindow cells) (reply := Reply.plain .badField) rfl h (by simp)
      (if_pos (cellCount_refused hbad))
  · exact exec_active (r := .continueWindow cells) (reply := Reply.plain .badField) rfl h (by simp)
      (if_pos (cellCount_refused hbad))
  · refine exec_active (r := .writeWindow cells) (reply := Reply.plain .noWindow) rfl h (by simp) ?_
    rw [State.carryOut, State.doWriteWindow, if_neg (cellCount_accepted h1 h2), hw]
  · refine exec_active (r := .continueWindow cells) (reply := Reply.plain .noWindow) rfl h (by simp) ?_
    rw [State.carryOut, State.doContinueWindow, if_neg (cellCount_accepted h1 h2), hw]
  case write =>
    rintro w place taken i h1 h2 hw (⟨rfl, rfl⟩ | ⟨rfl, rfl⟩) htaken
    · refine exec_writeFrom (r := .writeWindow cells) rfl h (by simp) ?_ htaken
      rw [State.carryOut, State.doWriteWindow, if_neg (cellCount_accepted h1 h2), hw]
    · refine exec_writeFrom (r := .continueWindow cells) rfl h (by simp) ?_ htaken
      rw [State.carryOut, State.doContinueWindow, if_neg (cellCount_accepted h1 h2), hw]

/-! ## Oscillator requests -/

/-- A change of no ranking input, committed, moves no shelf (R68). -/
theorem commit_shelvesKept {s t : State} (h : SameInputs s t) (hs : t.shelves = s.shelves) (hu : t.units = s.units)
    (hq : t.queue = s.queue) (he : t.domainEvents = s.domainEvents) (x : Ctx) :
    ShelvesKept s (State.commit s t x) := by
  rw [commit_sameInputs h hs]
  obtain ⟨hu', hq', he', hk⟩ := refresh_shelvesKept s t
  refine ⟨hu'.trans hu, hq'.trans hq, he'.trans he, fun sh => ?_⟩
  have hk := hk sh
  unfold ShelfKept at hk ⊢
  rwa [hs] at hk

theorem shelvesKept_answered {s t : State} (h : ShelvesKept s t) (cp : ControlPort) (code : ResultCode)
    (body : List Byte) : ShelvesKept s (t.answered cp code body) := by
  unfold ShelvesKept ShelfKept at *
  simpa only [answered_units, answered_queue, answered_domainEvents, answered_shelves] using h

/-- Past INIT a check that ends INCONCLUSIVE is recorded and reported, and nothing else (R118). -/
theorem endCheck_inconclusive (s : State) (h : s.phase ≠ .init) :
    s.endCheck .inconclusive none =
      { s with osc := { s.osc with check := none, lastOutcome := some .inconclusive, lastCheckDiff := none },
               partEvents := s.partEvents.raise .checkDone } := by
  rw [State.endCheck, if_neg h]
  rfl

/-- Settles O28: OSCILLATOR CHECK answers BUSY or starts a check, which ends at once where the guard is absent. -/
theorem oscillatorRequestsStartAndReportChecks : Obligations.OscillatorRequestsStartAndReportChecks := by
  intro cp s
  have start : ∀ u : State, s.readyActive cp = true → s.osc.check = none → s.startCheck = u → SameInputs s u →
      u.shelves = s.shelves → u.units = s.units → u.queue = s.queue → u.domainEvents = s.domainEvents →
      ∃ t, exec (.oscillatorCheck cp) s = .next t ∧ Answers s t cp .ok [] ∧ ShelvesKept s t ∧ RequestConsequences u t := by
    rintro u h hcheck rfl hin hs hu hq he
    have hrule : s.carryOut cp .oscillatorCheck = (State.commit s s.startCheck Ctx.ranking, Reply.ok []) := by
      rw [State.carryOut, State.doOscillatorCheck, hcheck]
      rfl
    obtain ⟨hexec, hanswers, hcons⟩ := exec_changed (i := .oscillatorCheck cp) rfl h (by simp) hrule (commit_consequences _ _ _)
    exact ⟨_, hexec, hanswers, shelvesKept_answered (commit_shelvesKept hin hs hu hq he _) _ _ _, hcons⟩
  refine ⟨fun h hcheck => ?busy, fun h hcheck hguard => ?present, fun h hcheck hguard => ?absent, fun h hp => ?report⟩
  case busy =>
    refine exec_active (r := .oscillatorCheck) (reply := Reply.plain .busy) rfl h (by simp) ?_
    rw [State.carryOut, State.doOscillatorCheck, if_pos (Option.isSome_iff_ne_none.mpr hcheck)]
  case present =>
    refine start _ h hcheck ?_ ⟨rfl, rfl, rfl, rfl, rfl, rfl⟩ rfl rfl rfl rfl
    rw [State.startCheck, hguard]
    rfl
  case absent =>
    obtain ⟨-, hphase, -⟩ := readyActive_parts h
    refine start _ h hcheck ?_ ⟨rfl, rfl, rfl, rfl, rfl, rfl⟩ rfl rfl rfl rfl
    rw [State.startCheck, hguard, if_neg Bool.false_ne_true, endCheck_inconclusive s hphase, ← hcheck]
  case report => exact exec_reading (r := .oscillatorReport) (reply := Reply.ok s.oscillatorReportBody) rfl h hp rfl rfl

/-! ## Steps and time -/

/-- Settles O1: a step takes the command at the front of the queue. -/
theorem stepRunsTheFrontCommand : Obligations.StepRunsTheFrontCommand := by
  intro c rest s h
  simp only [step, h]

/-- With no command waiting a step out of reset lets 1 ms pass. -/
theorem step_idle {s : State} (h : s.pending = []) (hr : s.inReset = false) : step s = .next (s.elapse 1) := by
  simp only [step, h, live_of_not_inReset s _ hr]

/-- The records after some time (R10, R31, R75, R106, R110, R113, R118). -/
theorem elapse_ports_get (s : State) {d : Nat} (hd : 0 < d) (p : PortId) :
    (s.elapse d).ports[p] = s.ports[p].elapse d := by
  rw [State.elapse, if_neg (by omega)]
  simp [State.syncValid]

theorem elapse_grades_get (s : State) {d : Nat} (hd : 0 < d) (p : PortId) :
    (s.elapse d).grades[p] = s.grades[p].elapse d := by
  rw [State.elapse, if_neg (by omega)]
  simp [State.syncValid]

theorem elapse_osc (s : State) {d : Nat} (hd : 0 < d) : (s.elapse d).osc = s.osc.elapse d := by
  rw [State.elapse, if_neg (by omega)]
  rfl

theorem elapse_shelves_get (s : State) {d : Nat} (hd : 0 < d) (sh : ShelfId) :
    (s.elapse d).shelves[sh] =
      { s.shelves[sh].elapse s.osc.latch d with valid := (s.elapse d).holdoverValid sh } := by
  rw [State.elapse, if_neg (by omega), syncValid_shelf, syncValid_holdoverValid]
  simp

/-- The condition of R105 in words. -/
theorem holdoverValid_iff (s : State) (sh : ShelfId) :
    s.holdoverValid sh = true ↔ ∃ e, s.shelfDomain sh = some e ∧ s.osc.latch = false ∧
      s.domains[e].learnTime * 1000 ≤ s.shelves[sh].learned := by
  unfold State.holdoverValid State.shelfRecord
  cases s.shelfDomain sh <;> simp

/-- Settles O2: an idle step and the time it lets pass. -/
theorem stepOnAnEmptyQueuePassesOneMillisecond : Obligations.StepOnAnEmptyQueuePassesOneMillisecond := by
  intro s h
  refine ⟨fun hr => ?idle, fun hr => ?reset, elapse_zero s, ?time⟩
  case idle => exact ⟨_, step_idle h hr, elapse_now s 1, elapse_only s 1, rfl⟩
  case reset => simp only [step, h, live_of_inReset s _ hr]
  case time =>
    rintro d u hd rfl
    refine ⟨?_, fun p => ⟨elapse_ports_get s hd p, elapse_grades_get s hd p⟩, fun sh => ⟨?_, holdoverValid_iff _ sh⟩,
      elapse_osc s hd⟩
    · rw [← elapse_now]
      exact elapse_only s d
    · have hlearned : (if (s.shelves[sh].state.isLocked && !s.osc.latch) = true then
            min 3600000 (s.shelves[sh].learned + d) else s.shelves[sh].learned) =
          if s.shelves[sh].state.isLocked = true ∧ s.osc.latch = false then
            min 3600000 (s.shelves[sh].learned + d) else s.shelves[sh].learned :=
        if_congr (by simp only [Bool.and_eq_true, Bool.not_eq_true']) rfl rfl
      rw [elapse_shelves_get s hd, Shelf.elapse, hlearned]
      cases s.shelves[sh].state <;> rfl

end Sys2Proof.Machine
end

section
/-!
PROOFS. A change of the part: the one thing a command can do to it beyond time and the executor's own fields. Every command
is time that passes, one change, and a write of the control fields (`exec_outcome`); a statement that every step keeps a
condition is then a case split over the changes.
-/

namespace Sys2Proof.Machine

/-! ## The changes -/

/-- What bookkeeping requests and events write: masks, latched flags that a report clears, the pending partition, lines, the
window, the active port, a waiver deadline, a grade receiver, the guard. No ranking input and no shelf's place changes. -/
structure Housekeeping (s t : State) : Prop where
  rest : t = { s with ports := t.ports, grades := t.grades, shelves := t.shelves, osc := t.osc,
                      pendingPart := t.pendingPart, domainEvents := t.domainEvents, partEvents := t.partEvents,
                      lineDrives := t.lineDrives, window := t.window, active := t.active,
                      yieldPermission := t.yieldPermission }
  ports : ∀ p : PortId, t.ports[p] =
    { s.ports[p] with dropped := t.ports[p].dropped, faulted := t.ports[p].faulted, waiver := t.ports[p].waiver }
  grades : ∀ p : PortId, t.grades[p] =
      { s.grades[p] with receiver := t.grades[p].receiver, malformed := t.grades[p].malformed } ∧
    (s.grades[p].malformed ≤ 255 → t.grades[p].malformed ≤ 255)
  shelves : ∀ sh : ShelfId, t.shelves[sh] = { s.shelves[sh] with changed := t.shelves[sh].changed }
  osc : t.osc = { s.osc with guardPresent := t.osc.guardPresent, guardSince := t.osc.guardSince,
                             bgWindow := t.osc.bgWindow }

/-- A change of ranking inputs or of the oscillator monitor, before the shelves act on it (R67, R113, R118). -/
inductive InputChange (s : State) : State → Prop where
  | confirm (p : PortId) : s.ports[p].state = .down → s.ports[p].activity = false → InputChange s (s.confirmActivity p)
  | lose (p : PortId) : s.ports[p].activity = true → InputChange s (s.loseActivity p)
  | window (p : PortId) (measured : Int) : s.ports[p].window ≠ none → InputChange s (s.completeWindow p measured)
  | restore (p : PortId) : s.ports[p].state = .qualifying → InputChange s (s.expireRestore p)
  | setup (p : PortId) (new : PortSetup) : new.sound = true → InputChange s (s.replaceSetup p new)
  | message (p : PortId) (bytes : List Byte) (bad : Bool) : InputChange s (s.completeMessage p bytes bad)
  | byte (p : PortId) (b : Byte) (bad : Bool) : InputChange s (s.receiveByte p b bad)
  | gradeExpiry (p : PortId) : InputChange s (s.putGrade p s.grades[p].expire)
  | nodeId (own : NodeId) : InputChange s (s.setNodeId own)
  | cell (sh : ShelfId) (p : PortId) (v : CellValue) : InputChange s (s.setCell sh p v)
  | cells (w w' : Window) (place : Nat) (values : List CellValue) :
      InputChange s { s.writeCells w place values with window := some w' }
  | list (d : DomainId) (list : List PortId) : list.Nodup → list.length ≤ 24 →
      (∀ p ∈ list, s.portDomain p = some d) → InputChange s { s with lists := s.lists.set d list }
  | background (measured : Int) : InputChange s (s.completeBackground measured)
  | check (measured : Int) : InputChange s (s.completeCheck measured)
  | startCheck : s.phase ≠ .init → InputChange s s.startCheck

/-- One shelf's own move: a steering request, the end of one of its times, or a judgement of its record (R92, R100, R105,
R111, R125, R129, R132). -/
inductive ShelfChange (s : State) : State → Prop where
  | steer (sh : ShelfId) (p : PortId) : s.eligible sh p = true →
      ShelfChange s ((s.setSteering sh (.steer p)).steerTo sh p)
  | pin (sh : ShelfId) (p : PortId) : s.sameDomain sh p = true → s.ports[p].state ≠ .off →
      ShelfChange s ((s.setSteering sh (.pin p)).pinTo sh p)
  | clear (sh : ShelfId) : s.shelves[sh].steering ≠ .auto → ShelfChange s ((s.setSteering sh .auto).unsteer sh)
  | holdOff (sh : ShelfId) (c : PortId) (left : Nat) : s.shelves[sh].state = .bridge c left →
      ShelfChange s (s.endHoldOff sh)
  | settle (sh : ShelfId) (t : PortId) (left : Nat) : s.shelves[sh].state = .acquire t left →
      ShelfChange s (s.completeSettle sh t)
  | limit (sh : ShelfId) (left : Nat) : s.shelves[sh].state = .holdover (some left) → ShelfChange s (s.expireLimit sh)
  | learned : ShelfChange s s

/-- The one change that a command makes of the part. -/
inductive Change (s : State) : State → Prop where
  | idle : Change s s
  | housekeeping {t : State} : Housekeeping s t → Change s t
  | input {u : State} (x : Ctx) : InputChange s u → x = Ctx.ranking ∨ x = Ctx.failing →
      Change s (State.commit s u x)
  | shelf {v : State} : ShelfChange s v → Change s (State.refresh s v)
  | release : s.phase ≠ .running → Change s (State.refresh s s.release)
  | loseGuard : Change s (State.refresh s s.loseGuard)
  | apply : s.pendingPart ≠ s.current → Change s s.doApplyPartition.1
  | domainSetup (n : Nat) (b : DomainSetupBody) : Change s (s.doDomainSetup n b).1
  | restart (cp : ControlPort) (reply : List Byte) : s.phase ≠ .init → Change s (s.restartPart cp reply)
  | outputSetup (sh : ShelfId) (new : OutputSetup) : Change s
      (State.refresh s (s.setOutput sh { s.outputs[sh] with pendingSetup := some new }))
  | seam (sh : ShelfId) (setup : OutputSetup) : s.outputs[sh].pendingSetup = some setup →
      Change s (State.refresh s (s.takeSetup sh setup))
  | send (sh : ShelfId) : s.outputs[sh].active.enabled = true →
      Change s (s.setOutput sh (s.outputs[sh].sendNow s.now))
  | sendEnd (sh : ShelfId) : Change s (s.setOutput sh (s.outputs[sh].endMessage s.now))
  | rise (pins : Straps) : Change s (s.rise pins)
  | pinUp : s.internalReset = true → Change s { s with resetPin := true }
  | silence (pins : Straps) (b : Bool) :
      Change s { (s.rise pins).silenced with resetPin := false, internalReset := b }

/-! ## Housekeeping -/

theorem Housekeeping.of_records {s t : State}
    (rest : t = { s with pendingPart := t.pendingPart, domainEvents := t.domainEvents, partEvents := t.partEvents,
                         lineDrives := t.lineDrives, window := t.window, active := t.active,
                         yieldPermission := t.yieldPermission }) : Housekeeping s t where
  rest := by rw [rest]
  ports := fun p => by rw [rest]
  grades := fun p => by rw [rest]; exact ⟨rfl, id⟩
  shelves := fun sh => by rw [rest]
  osc := by rw [rest]

theorem housekeeping_setPort (s : State) (p : PortId) {r : Port}
    (h : r = { s.ports[p] with dropped := r.dropped, faulted := r.faulted, waiver := r.waiver }) :
    Housekeeping s (s.setPort p r) where
  rest := rfl
  ports := fun q => by
    rw [setPort_get]
    split
    · next hq => rw [← hq]; exact h
    · rfl
  grades := fun _ => ⟨rfl, id⟩
  shelves := fun _ => rfl
  osc := rfl

theorem housekeeping_setGrade (s : State) (p : PortId) {g : Grade}
    (h : g = { s.grades[p] with receiver := g.receiver, malformed := g.malformed })
    (hm : s.grades[p].malformed ≤ 255 → g.malformed ≤ 255) : Housekeeping s (s.setGrade p g) where
  rest := rfl
  ports := fun _ => rfl
  grades := fun q => by
    rw [setGrade_get]
    split
    · next hq => rw [← hq]; exact ⟨h, hm⟩
    · exact ⟨rfl, id⟩
  shelves := fun _ => rfl
  osc := rfl

/-- The changed flags after a CHANGE REPORT (R103). -/
theorem clearChanged_get (s : State) (selector : Option DomainId) (sh : ShelfId) :
    (s.clearChanged selector).shelves[sh] =
      { s.shelves[sh] with changed := s.shelves[sh].changed && !s.listsChange selector sh } := by
  simp only [State.clearChanged, Fin.getElem_fin, Vector.getElem_ofFn]
  cases s.listsChange selector sh
  · simp only [Bool.false_eq_true, if_false, Bool.not_false, Bool.and_true]
  · simp only [if_true, Bool.not_true, Bool.and_false]

theorem housekeeping_clearChanged (s : State) (selector : Option DomainId) :
    Housekeeping s (s.clearChanged selector) where
  rest := by simp only [State.clearChanged]
  ports := fun _ => by simp only [State.clearChanged]
  grades := fun _ => by simp only [State.clearChanged, true_and]; exact id
  shelves := fun sh => by rw [clearChanged_get]
  osc := by simp only [State.clearChanged]

theorem housekeeping_clearEvents (s : State) (selector : Option DomainId) :
    Housekeeping s (s.clearEvents selector) := by
  cases selector <;> exact .of_records rfl

theorem housekeeping_findGuard (s : State) : Housekeeping s s.findGuard where
  rest := rfl
  ports := fun _ => rfl
  grades := fun _ => ⟨rfl, id⟩
  shelves := fun _ => rfl
  osc := rfl

theorem housekeeping_gapTimeout (s : State) (p : PortId) : Housekeeping s (s.gapTimeout p) := by
  unfold State.gapTimeout
  split
  · exact .of_records rfl
  · exact housekeeping_setGrade s p rfl fun _ => min_le_left _ _

/-! ## Requests -/

/-- A rule that leaves the part alone where it refuses, and makes the change otherwise. -/
theorem Change.ite {s : State} {c : Prop} [Decidable c] {a b : State × Reply}
    (ha : c → Change s a.1) (hb : ¬ c → Change s b.1) : Change s (if c then a else b).1 := by
  split
  · next h => exact ha h
  · next h => exact hb h

theorem portSetupOf_sound {b : PortSetupBody} {new : PortSetup} (h : portSetupOf b = some new) : new.sound = true := by
  unfold portSetupOf at h
  split at h
  · split at h
    · next hr =>
      obtain rfl := Option.some.inj h
      exact hr
    · cases h
  · cases h

theorem change_doPortSetup (s : State) (n : Nat) (b : PortSetupBody) : Change s (s.doPortSetup n b).1 := by
  unfold State.doPortSetup
  split
  · next hp hnew => exact .ite (fun _ => .idle) fun _ => .input _ (.setup _ _ (portSetupOf_sound hnew)) (.inl rfl)
  · exact .idle

theorem change_doPortStatus (s : State) (cp : ControlPort) (n : Nat) : Change s (s.doPortStatus cp n).1 := by
  unfold State.doPortStatus
  split
  · dsimp only
    split
    · exact .housekeeping (housekeeping_setPort s _ rfl)
    · exact .idle
  · exact .idle

theorem change_doPortGrade (s : State) (cp : ControlPort) (n : Nat) : Change s (s.doPortGrade cp n).1 := by
  unfold State.doPortGrade
  split
  · dsimp only
    split
    · exact .housekeeping (housekeeping_setGrade s _ rfl fun _ => Nat.zero_le _)
    · exact .idle
  · exact .idle

theorem change_doNodeIdentifier (s : State) (i : Nat) : Change s (s.doNodeIdentifier i).1 := by
  unfold State.doNodeIdentifier
  exact .ite (fun _ => .idle) fun _ => .ite (fun _ => .idle) fun _ => .input _ (.nodeId _) (.inl rfl)

theorem change_doTakeControl (s : State) (cp : ControlPort) : Change s (s.doTakeControl cp).1 := by
  unfold State.doTakeControl
  exact .ite (fun _ => .idle) fun _ => .ite (fun _ => .housekeeping (.of_records rfl)) fun _ => .idle

theorem change_doYieldPermission (s : State) (v : Nat) : Change s (s.doYieldPermission v).1 := by
  unfold State.doYieldPermission
  split
  · exact .idle
  · exact .ite (fun _ => .idle) fun _ => .housekeeping (.of_records rfl)

theorem change_doAssignPort (s : State) (n v : Nat) : Change s (s.doAssignPort n v).1 := by
  unfold State.doAssignPort
  split
  · exact .ite (fun _ => .idle) fun _ => .housekeeping (.of_records rfl)
  · exact .idle

theorem change_doAssignShelf (s : State) (n v : Nat) : Change s (s.doAssignShelf n v).1 := by
  unfold State.doAssignShelf
  split
  · exact .ite (fun _ => .idle) fun _ => .housekeeping (.of_records rfl)
  · exact .idle

theorem change_doDiscardPartition (s : State) : Change s s.doDiscardPartition.1 := by
  unfold State.doDiscardPartition
  exact .ite (fun _ => .idle) fun _ => .housekeeping (.of_records rfl)

theorem change_doApplyPartition (s : State) : Change s s.doApplyPartition.1 := by
  by_cases h : s.pendingPart = s.current
  · rw [State.doApplyPartition, if_pos h]
    exact .idle
  · exact .apply h

theorem portsNamed_length {ports : List Nat} {list : List PortId} (h : portsNamed ports = some list) :
    list.length = ports.length := by
  induction ports generalizing list with
  | nil =>
    obtain rfl := Option.some.inj h
    rfl
  | cons n rest ih =>
    rw [portsNamed] at h
    split at h
    · next hrest =>
      obtain rfl := Option.some.inj h
      rw [List.length_cons, List.length_cons, ih hrest]
    · cases h

theorem change_doPriorityList (s : State) (n : Nat) (ports : List Nat) : Change s (s.doPriorityList n ports).1 := by
  unfold State.doPriorityList
  split
  · next d list _ hlist =>
    refine .ite (fun _ => .idle) fun hlen => .ite (fun _ => .idle) fun hdup => .ite (fun _ => .idle) fun hin =>
      .ite (fun _ => .idle) fun _ => .input _ (.list d list ?_ ?_ ?_) (.inr rfl)
    · exact hasDuplicate_eq_false.mp (Bool.not_eq_true _ ▸ hdup)
    · rw [portsNamed_length hlist]
      omega
    · simpa using hin
  · exact .idle

theorem change_doEventReport (s : State) (cp : ControlPort) (n : Nat) : Change s (s.doEventReport cp n).1 := by
  unfold State.doEventReport
  split
  · dsimp only
    split
    · exact .housekeeping (housekeeping_clearEvents s _)
    · exact .idle
  · exact .idle

theorem change_doEventMask (s : State) (n m : Nat) : Change s (s.doEventMask n m).1 := by
  unfold State.doEventMask
  split
  · exact .ite (fun _ => .idle) fun _ => .ite (fun _ => .idle) fun _ => .housekeeping (.of_records rfl)
  · exact .ite (fun _ => .idle) fun _ => .ite (fun _ => .idle) fun _ => .housekeeping (.of_records rfl)
  · exact .idle

theorem change_doLineSetup (s : State) (n v : Nat) : Change s (s.doLineSetup n v).1 := by
  unfold State.doLineSetup
  split
  · exact .ite (fun _ => .idle) fun _ => .housekeeping (.of_records rfl)
  · exact .idle

theorem change_doChangeReport (s : State) (cp : ControlPort) (n : Nat) : Change s (s.doChangeReport cp n).1 := by
  unfold State.doChangeReport
  split
  · dsimp only
    split
    · exact .housekeeping (housekeeping_clearChanged s _)
    · exact .idle
  · exact .idle

theorem change_doSteer (s : State) (n m : Nat) : Change s (s.doSteer n m).1 := by
  unfold State.doSteer
  split
  · exact .ite (fun _ => .idle) fun _ => .ite (fun h => .shelf (.steer _ _ h)) fun _ => .idle
  · exact .idle

theorem change_doPin (s : State) (n m : Nat) : Change s (s.doPin n m).1 := by
  unfold State.doPin
  split
  · refine .ite (fun _ => .idle) fun _ => .ite (fun _ => .idle) fun hd => .ite (fun _ => .idle) fun ho =>
      .shelf (.pin _ _ ?_ ho)
    simpa using hd
  · exact .idle

theorem change_doClearSteering (s : State) (n : Nat) : Change s (s.doClearSteering n).1 := by
  unfold State.doClearSteering
  split
  · exact .ite (fun _ => .idle) fun h => .shelf (.clear _ h)
  · exact .idle

theorem change_writeCell (s : State) (n m : Nat) (v : CellValue) : Change s (s.writeCell n m v).1 := by
  unfold State.writeCell
  split
  · exact .ite (fun _ => .idle) fun _ => .input _ (.cell _ _ _) (.inl rfl)
  · exact .idle

theorem change_doOpenWindow (s : State) (a b c d o : Nat) : Change s (s.doOpenWindow a b c d o).1 := by
  unfold State.doOpenWindow
  split
  · exact .ite (fun _ => .idle) fun _ => .housekeeping (.of_records rfl)
  · exact .idle

theorem change_writeFrom (s : State) (w : Window) (place : Nat) (cells : List CellValue) :
    Change s (s.writeFrom w place cells).1 := .input _ (.cells _ _ _ _) (.inl rfl)

theorem change_doWriteWindow (s : State) (cells : List CellValue) : Change s (s.doWriteWindow cells).1 := by
  unfold State.doWriteWindow
  refine .ite (fun _ => .idle) fun _ => ?_
  split
  · exact change_writeFrom _ _ _ _
  · exact .idle

theorem change_doContinueWindow (s : State) (cells : List CellValue) : Change s (s.doContinueWindow cells).1 := by
  unfold State.doContinueWindow
  refine .ite (fun _ => .idle) fun _ => ?_
  split
  · exact change_writeFrom _ _ _ _
  · exact .idle

theorem change_doRelease (s : State) : Change s s.doRelease.1 := by
  unfold State.doRelease
  exact .ite (fun _ => .idle) fun h => .release h

theorem change_doOscillatorCheck (s : State) (h : s.phase ≠ .init) : Change s s.doOscillatorCheck.1 := by
  unfold State.doOscillatorCheck
  exact .ite (fun _ => .idle) fun _ => .input _ (.startCheck h) (.inl rfl)

theorem shelfOf_some {n : Nat} {sh : ShelfId} (h : shelfOf n = some sh) : sh.val = n := by
  by_cases hn : n < 48
  · rw [shelfOf_eq_some hn] at h
    obtain rfl := Option.some.inj h
    rfl
  · rw [shelfOf_eq_none (by omega)] at h
    cases h

theorem change_doOutputSetup (s : State) (n : Nat) (b : OutputSetupBody) : Change s (s.doOutputSetup n b).1 := by
  unfold State.doOutputSetup
  split
  · exact .ite (fun _ => .idle) fun _ => .outputSetup _ _
  · exact .idle

theorem doDomainReport_fst (s : State) (n : Nat) : (s.doDomainReport n).1 = s := by
  unfold State.doDomainReport
  split <;> rfl

theorem doRankingReport_fst (s : State) (n : Nat) : (s.doRankingReport n).1 = s := by
  unfold State.doRankingReport
  split <;> rfl

theorem doShelfReport_fst (s : State) (n : Nat) : (s.doShelfReport n).1 = s := by
  unfold State.doShelfReport
  split <;> rfl

theorem doExclusionRow_fst (s : State) (n : Nat) : (s.doExclusionRow n).1 = s := by
  unfold State.doExclusionRow
  split <;> rfl

theorem doOutputReport_fst (s : State) (n : Nat) : (s.doOutputReport n).1 = s := by
  unfold State.doOutputReport
  split <;> rfl

/-- A request's own rule makes one change (R172). -/
theorem carryOut_change (s : State) (cp : ControlPort) (r : Request) (h : s.phase ≠ .init ∨ r = .identity) :
    Change s (s.carryOut cp r).1 := by
  have report : ∀ {t : State}, t = s → Change s t := by
    rintro _ rfl
    exact .idle
  cases r
  case identity => exact .idle
  case nodeIdentifier i => exact change_doNodeIdentifier s i
  case release => exact change_doRelease s
  case restart => exact .idle
  case takeControl => exact change_doTakeControl s cp
  case yieldControl => exact .housekeeping (.of_records rfl)
  case yieldPermission v => exact change_doYieldPermission s v
  case portSetup p b => exact change_doPortSetup s p b
  case portStatus p => exact change_doPortStatus s cp p
  case portGrade p => exact change_doPortGrade s cp p
  case assignPort p d => exact change_doAssignPort s p d
  case assignShelf sh d => exact change_doAssignShelf s sh d
  case pendingPartition => exact .idle
  case applyPartition => exact change_doApplyPartition s
  case discardPartition => exact change_doDiscardPartition s
  case domainSetup d b => exact .domainSetup d b
  case priorityList d ps => exact change_doPriorityList s d ps
  case domainReport d => exact report (doDomainReport_fst s d)
  case eventReport e => exact change_doEventReport s cp e
  case eventMask e m => exact change_doEventMask s e m
  case lineSetup l d => exact change_doLineSetup s l d
  case rankingReport sh => exact report (doRankingReport_fst s sh)
  case shelfReport sh => exact report (doShelfReport_fst s sh)
  case changeReport e => exact change_doChangeReport s cp e
  case queueReport => exact .idle
  case pin sh p => exact change_doPin s sh p
  case steer sh p => exact change_doSteer s sh p
  case clearSteering sh => exact change_doClearSteering s sh
  case bar sh p => exact change_writeCell s sh p .bar
  case allow sh p => exact change_writeCell s sh p .allow
  case openWindow a b c d o => exact change_doOpenWindow s a b c d o
  case writeWindow cells => exact change_doWriteWindow s cells
  case continueWindow cells => exact change_doContinueWindow s cells
  case exclusionRow sh => exact report (doExclusionRow_fst s sh)
  case outputSetup sh b => exact change_doOutputSetup s sh b
  case outputReport sh => exact report (doOutputReport_fst s sh)
  case oscillatorCheck => exact change_doOscillatorCheck s (h.resolve_right (by simp))
  case oscillatorReport => exact .idle

end Sys2Proof.Machine
end

section
/-!
PROOFS. Every command answers a next state, reached by time, one change and the control fields (`exec_outcome`), through the
executor's path of a request and each event in turn; and no command touches the queue of commands.
-/

namespace Sys2Proof.Machine

/-! ## Writes of the control fields -/

/-- Only control fields are written, and the queue of commands not. -/
def ControlWrite (s t : State) : Prop := ∃ k : Control, t = s.withControl k ∧ k.pending = s.pending

theorem ControlWrite.refl (s : State) : ControlWrite s s := ⟨s.control, rfl, rfl⟩

theorem ControlWrite.trans {s t u : State} (h : ControlWrite s t) (k : ControlWrite t u) : ControlWrite s u := by
  obtain ⟨a, rfl, ha⟩ := h
  obtain ⟨b, rfl, hb⟩ := k
  exact ⟨b, rfl, hb.trans ha⟩

theorem ControlWrite.pending {s t : State} (h : ControlWrite s t) : t.pending = s.pending := by
  obtain ⟨k, rfl, hk⟩ := h
  exact hk

theorem ControlWrite.phase {s t : State} (h : ControlWrite s t) : t.phase = s.phase := by
  obtain ⟨k, rfl, -⟩ := h
  rfl

theorem controlWrite_setCpi (s : State) (cp : ControlPort) (c : Cpi) : ControlWrite s (s.setCpi cp c) := by
  cases cp
  · exact ⟨(s.setCpi .cpa c).control, rfl, rfl⟩
  · exact ⟨(s.setCpi .cpb c).control, rfl, rfl⟩

theorem controlWrite_carrying (s : State) (c : Option (ControlPort × List Byte)) (q : Option ControlPort) :
    ControlWrite s { s with carrying := c, prevSupplier := q } :=
  ⟨({ s with carrying := c, prevSupplier := q } : State).control, rfl, rfl⟩

theorem controlWrite_setStage (s : State) (cp : ControlPort) (st : PortStage) : ControlWrite s (s.setStage cp st) :=
  controlWrite_setCpi s cp _

theorem controlWrite_shift (s : State) (cp : ControlPort) (bytes : List Byte) (n : Nat) :
    ControlWrite s (s.shift cp bytes n) := controlWrite_setCpi s cp _

/-! ## The executor's path -/

/-- At the moment it happens, one change of the part and a write of the control fields. -/
def Does (s t : State) : Prop := ∃ u : State, Change s u ∧ ControlWrite u t

theorem Does.write {s t u : State} (h : Does s t) (k : ControlWrite t u) : Does s u := by
  obtain ⟨v, hc, hw⟩ := h
  exact ⟨v, hc, hw.trans k⟩

theorem ControlWrite.does {s t : State} (h : ControlWrite s t) : Does s t := ⟨s, .idle, h⟩

theorem Change.does {s t : State} (h : Change s t) : Does s t := ⟨t, h, .refl t⟩

/-- A request that is answered makes the change of its rule, or none. -/
theorem answer_does (s : State) (cp : ControlPort) (r : Request) : Does s (s.answer cp r).1 := by
  cases hcheck : s.precheck cp r with
  | some code =>
    rw [answer_refused s cp r code hcheck]
    exact (ControlWrite.refl s).does
  | none =>
    rw [answer_carried s cp r hcheck]
    have hphase : s.phase ≠ .init ∨ r = .identity := by
      by_contra hno
      obtain ⟨h1, h2⟩ := not_or.mp hno
      rw [precheck_init cp (not_not.mp h1) h2] at hcheck
      cases hcheck
    exact (carryOut_change s cp r hphase).does

theorem answer_pending (s : State) (cp : ControlPort) (r : Request) : (s.answer cp r).1.pending = s.pending :=
  congrArg Control.pending ((answer_blind cp r).keeps s)

theorem precheck_withControl (s : State) (k : Control) (cp : ControlPort) (r : Request) :
    (s.withControl k).precheck cp r = s.precheck cp r := rfl

/-- A RESTART that is carried out resets the part, whatever the control fields hold. -/
theorem restartPart_withControl (s : State) {k : Control} (hk : k.pending = s.pending) (cp : ControlPort)
    (reply : List Byte) : ControlWrite (s.restartPart cp reply) ((s.withControl k).restartPart cp reply) := by
  refine ⟨((s.withControl k).restartPart cp reply).control, ?_, ?_⟩
  · unfold State.restartPart State.rise State.atReset
    cases cp <;> simp only [withControl_straps, withControl_now, withControl_freeCount, withControl_active] <;> rfl
  · cases cp <;> exact hk

/-- Taking a request makes its change and fixes its reply (R171). -/
theorem take_does {s t : State} (h : ControlWrite s t) (cp : ControlPort) (r : Request) :
    Does s (t.take cp r) := by
  obtain ⟨k, rfl, hk⟩ := h
  unfold State.take
  split
  · next hrestart =>
    simp only [Bool.and_eq_true, decide_eq_true_eq, precheck_withControl] at hrestart
    obtain ⟨rfl, hcheck⟩ := hrestart
    have hphase : s.phase ≠ .init := by
      intro hp
      rw [precheck_init cp hp (by simp)] at hcheck
      cases hcheck
    exact (Change.restart cp _ hphase).does.write (restartPart_withControl s hk cp _)
  · dsimp only
    have hblind : (s.withControl k).answer cp r = ((s.answer cp r).1.withControl k, (s.answer cp r).2) :=
      answer_blind cp r s k
    rw [hblind]
    have hw : ControlWrite (s.answer cp r).1 ((s.answer cp r).1.withControl k) :=
      ⟨k, rfl, hk.trans (answer_pending s cp r).symm⟩
    exact ((answer_does s cp r).write hw).write ((controlWrite_carrying _ _ _).trans (controlWrite_setStage _ _ _))

/-- In INIT a request is answered without effect (R172). -/
theorem take_init (s : State) (hp : s.phase = .init) (cp : ControlPort) (r : Request) : ControlWrite s (s.take cp r) := by
  have hnone : (r = .restart && (s.precheck cp r).isNone) = false := by
    by_cases hr : r = .restart
    · rw [hr, precheck_init cp hp (by simp)]
      rfl
    · simp [hr]
  have hsame : (s.answer cp r).1 = s := by
    by_cases hr : r = .identity
    · rw [hr]
      unfold State.answer
      split <;> rfl
    · rw [answer_refused s cp r _ (precheck_init cp hp hr)]
  unfold State.take
  rw [hnone, if_neg Bool.false_ne_true]
  dsimp only
  rw [hsame]
  exact (controlWrite_carrying _ _ _).trans (controlWrite_setStage _ _ _)

/-- What the executor takes was waiting (R171). -/
theorem serve_cases (s : State) :
    s.serve = s ∨ ∃ (cp : ControlPort) (r : Request), s.waiting cp = some r ∧ s.serve = s.take cp r := by
  unfold State.serve
  split
  · exact .inl rfl
  · split
    · next h => exact .inr ⟨_, _, h, rfl⟩
    · next h => exact .inr ⟨_, _, h, rfl⟩
    · exact .inl rfl

theorem serve_does {s t : State} (h : ControlWrite s t) : Does s t.serve := by
  rcases serve_cases t with he | ⟨cp, r, -, he⟩
  · rw [he]
    exact h.does
  · rw [he]
    exact take_does h cp r

theorem serve_init (s : State) (hp : s.phase = .init) : ControlWrite s s.serve := by
  rcases serve_cases s with he | ⟨cp, r, -, he⟩ <;> rw [he]
  · exact .refl s
  · exact take_init s hp cp r

/-- A completed frame on a port: the part of a command that brings frames (R165 to R167). -/
theorem complete_does {s t : State} (h : ControlWrite s t) (cp : ControlPort)
    (checked : Checked) : Does s (t.complete cp checked) := by
  have accepts : Does s (t.accept cp checked) := by
    cases checked with
    | request r => exact serve_does (h.trans (controlWrite_setCpi t cp _))
    | answer code => exact (h.trans (controlWrite_setCpi t cp _)).does
  unfold State.complete
  split
  · exact (h.trans (controlWrite_setCpi t cp _)).does
  · exact accepts
  · exact accepts

theorem complete_init (s : State) (hp : s.phase = .init) (cp : ControlPort) (checked : Checked) :
    ControlWrite s (s.complete cp checked) := by
  have accepts : ControlWrite s (s.accept cp checked) := by
    cases checked with
    | request r =>
      have hw : ControlWrite s (s.arrived cp r) := controlWrite_setCpi s cp _
      exact hw.trans (serve_init _ (hw.phase.trans hp))
    | answer code => exact controlWrite_setCpi s cp _
  unfold State.complete
  split
  · exact controlWrite_setCpi s cp _
  · exact accepts
  · exact accepts

theorem receive_does {s t : State} (h : ControlWrite s t) (cp : ControlPort)
    (bytes : List Byte) : Does s (t.receive cp bytes) := by
  unfold State.receive
  split
  · exact complete_does h cp _
  · exact (h.trans (controlWrite_setCpi t cp _)).does

theorem receive_init (s : State) (hp : s.phase = .init) (cp : ControlPort) (bytes : List Byte) :
    ControlWrite s (s.receive cp bytes) := by
  unfold State.receive
  split
  · exact complete_init s hp cp _
  · exact controlWrite_setCpi s cp _

/-- A port that stands in REPLY when a request has been taken stood there before, or a RESTART has put it there. -/
theorem take_reply {s : State} {q cp : ControlPort} {r : Request} {f : List Byte}
    (h : ((s.take q r).cpi cp).stage = .reply f) : (s.take q r).phase = .init ∨ (s.cpi cp).stage = .reply f := by
  unfold State.take at h ⊢
  split at h
  · next hr =>
    rw [if_pos hr]
    left
    cases q <;> rfl
  · refine .inr ?_
    dsimp only at h
    rw [← answer_cpi s q cp r]
    generalize s.answer q r = done at h ⊢
    cases cp <;> cases q
    · nomatch h
    · exact h
    · exact h
    · nomatch h

/-- Bytes are left over only after a RESTART that has put the part in INIT (R179). -/
theorem afterRestart_init {s : State} {cp : ControlPort} {bytes : List Byte} (h : s.afterRestart cp bytes ≠ []) :
    (s.receive cp bytes).phase = .init := by
  unfold State.afterRestart at h
  split at h
  · next got frame hframe =>
    split at h
    · next f hcheck hstage =>
      have hreceive : s.receive cp bytes = s.complete cp (.request .restart) := by
        simp only [State.receive, hframe, hcheck]
      rw [hreceive] at hstage ⊢
      have arrives : ((s.arrived cp .restart).serve.cpi cp).stage = .reply f →
          (s.arrived cp .restart).serve.phase = .init := by
        intro hf
        have hworking : ((s.arrived cp .restart).cpi cp).stage = .working (some .restart) := by
          rw [State.arrived, setCpi_cpi_self]
        rcases serve_cases (s.arrived cp .restart) with he | ⟨q, r, -, he⟩
        · rw [he, hworking] at hf
          cases hf
        · rw [he] at hf ⊢
          refine (take_reply hf).resolve_right fun hr => ?_
          rw [hworking] at hr
          cases hr
      unfold State.complete at hstage ⊢
      split at hstage
      · next w hw =>
        rw [setCpi_cpi_self] at hstage
        rw [hw] at hstage
        cases hstage
      · exact arrives hstage
      · exact arrives hstage
    · exact absurd rfl h
  · exact absurd rfl h

/-- A FRAME WRITE makes one change, whatever follows a RESTART in it (R165, R179). -/
theorem frameWrite_does (s : State) (cp : ControlPort) (bytes : List Byte) :
    Does s (s.frameWrite cp bytes) := by
  unfold State.frameWrite
  dsimp only
  have hfirst := receive_does (controlWrite_shift s cp [] bytes.length) cp bytes
  by_cases hrest : (s.shift cp [] bytes.length).afterRestart cp bytes = []
  · rw [hrest, receive_nil]
    exact hfirst
  · exact hfirst.write (receive_init _ (afterRestart_init hrest) cp _)

theorem replyRead_write (s : State) (cp : ControlPort) (n : Nat) : ControlWrite s (s.replyRead cp n) := by
  unfold State.replyRead
  split <;> exact (controlWrite_shift s cp _ _).trans (controlWrite_setCpi _ cp _)

theorem resync_write (s : State) (cp : ControlPort) (n : Nat) : ControlWrite s (s.resync cp n) :=
  (controlWrite_shift s cp _ _).trans (controlWrite_setCpi _ cp _)

theorem transaction_does (s : State) (cp : ControlPort) (o : Byte)
    (bytes : List Byte) : Does s (s.transaction cp o bytes) := by
  unfold State.transaction
  split
  · exact frameWrite_does s cp bytes
  · exact (replyRead_write s cp _).does
  · exact (resync_write s cp _).does
  · exact (controlWrite_shift s cp _ _).does

theorem placeReply_does (s : State) : Does s s.placeReply := by
  unfold State.placeReply
  split
  · exact serve_does ((controlWrite_carrying s none s.prevSupplier).trans (controlWrite_setStage _ _ _))
  · exact (ControlWrite.refl s).does

/-! ## The outcome of every command -/

/-- What a command does: time passes, one change is made, and the control fields are written. -/
def Outcome (s t : State) : Prop := ∃ (d : Nat) (u : State), Change (s.elapse d) u ∧ ControlWrite u t

theorem Does.outcome {s t : State} (h : Does s t) : Outcome s t := by
  obtain ⟨u, hchange, hw⟩ := h
  exact ⟨0, u, by rwa [elapse_zero], hw⟩

theorem Change.outcome {s t : State} (d : Nat) (h : Change (s.elapse d) t) : Outcome s t := ⟨d, t, h, .refl t⟩

theorem outcome_idle (s : State) : Outcome s s := (ControlWrite.refl s).does.outcome

/-- A live command has the outcome of its effect, and none in reset (R163, R181). -/
theorem outcome_live {s t : State} {f : State → State} (h : s.live f = .next t) (hf : Outcome s (f s)) :
    Outcome s t := by
  cases hr : s.inReset with
  | true =>
    rw [live_of_inReset s f hr] at h
    injection h with h
    exact h ▸ outcome_idle s
  | false =>
    rw [live_of_not_inReset s f hr] at h
    injection h with h
    exact h ▸ hf

/-! ### What time leaves of the records that events ask about -/

/-- Time leaves a port's record but for its window and its restore timer (R4, R10). -/
theorem elapse_port_fields (s : State) (d : Nat) (p : PortId) :
    (s.elapse d).ports[p] = { s.ports[p] with window := (s.elapse d).ports[p].window,
                                              restoreLeft := (s.elapse d).ports[p].restoreLeft } := by
  rcases Nat.eq_zero_or_pos d with rfl | hd
  · rw [elapse_zero]
  · rw [elapse_ports_get s hd]
    rfl

theorem elapse_window_none (s : State) (d : Nat) (p : PortId) :
    (s.elapse d).ports[p].window = none ↔ s.ports[p].window = none := by
  rcases Nat.eq_zero_or_pos d with rfl | hd
  · rw [elapse_zero]
  · rw [elapse_ports_get s hd]
    exact Option.map_eq_none_iff

/-- A shelf's state after some time (R75, R110). -/
theorem elapse_shelf_state (s : State) {d : Nat} (hd : 0 < d) (sh : ShelfId) :
    (s.elapse d).shelves[sh].state = s.shelves[sh].state.elapse d := by
  rw [elapse_shelves_get s hd]
  rfl

theorem elapse_bridge {s : State} (d : Nat) {sh : ShelfId} {c : PortId} {left : Nat}
    (h : s.shelves[sh].state = .bridge c left) : (s.elapse d).shelves[sh].state = .bridge c (left - d) := by
  rcases Nat.eq_zero_or_pos d with rfl | hd
  · rw [elapse_zero]
    exact h
  · rw [elapse_shelf_state s hd, h]
    rfl

theorem elapse_acquire {s : State} (d : Nat) {sh : ShelfId} {t : PortId} {left : Nat}
    (h : s.shelves[sh].state = .acquire t left) : (s.elapse d).shelves[sh].state = .acquire t (left - d) := by
  rcases Nat.eq_zero_or_pos d with rfl | hd
  · rw [elapse_zero]
    exact h
  · rw [elapse_shelf_state s hd, h]
    rfl

theorem elapse_holdover {s : State} (d : Nat) {sh : ShelfId} {left : Nat}
    (h : s.shelves[sh].state = .holdover (some left)) :
    (s.elapse d).shelves[sh].state = .holdover (some (left - d)) := by
  rcases Nat.eq_zero_or_pos d with rfl | hd
  · rw [elapse_zero]
    exact h
  · rw [elapse_shelf_state s hd, h]
    rfl

/-! ### Each command -/

/-- A change of ranking inputs after some time. -/
theorem outcome_after {s : State} (d : Nat) {f : State → State} (h : InputChange (s.elapse d) (f (s.elapse d))) :
    Outcome s (s.after d f) := (Change.input Ctx.ranking h (.inl rfl)).outcome d

/-- A shelf's own move after some time. -/
theorem outcome_shelf {s v : State} (d : Nat) (h : ShelfChange (s.elapse d) v) :
    Outcome s (State.refresh (s.elapse d) v) := (Change.shelf h).outcome d

section
variable {s t : State}

theorem outcome_activityConfirmation (p : PortId) (h : execActivityConfirmation p s = .next t) : Outcome s t := by
  refine outcome_live h ?_
  split
  · next hp =>
    simp only [Bool.and_eq_true, beq_iff_eq, Bool.not_eq_true'] at hp
    obtain ⟨hdown, hactivity⟩ := hp
    refine outcome_after _ (.confirm p ?_ ?_)
    · rw [elapse_port_fields]; exact hdown
    · rw [elapse_port_fields]; exact hactivity
  · exact outcome_idle s

theorem outcome_activityLoss (p : PortId) (h : execActivityLoss p s = .next t) : Outcome s t := by
  refine outcome_live h ?_
  split
  · next hp => exact outcome_after _ (.lose p (by rw [elapse_port_fields]; exact hp))
  · exact outcome_idle s

theorem outcome_measurementWindowComplete (p : PortId) (m : Int) (h : execMeasurementWindowComplete p m s = .next t) :
    Outcome s t := by
  refine outcome_live h ?_
  split
  · next e hw => exact outcome_after _ (.window p m ((elapse_window_none s _ p).not.mpr (by rw [hw]; exact Option.some_ne_none e)))
  · exact outcome_idle s

theorem outcome_restoreTimerExpiry (p : PortId) (h : execRestoreTimerExpiry p s = .next t) : Outcome s t := by
  refine outcome_live h ?_
  split
  · split
    · next hq => exact outcome_after _ (.restore p (by rw [elapse_port_fields]; exact beq_iff_eq.mp hq))
    · exact outcome_idle s
  · exact outcome_idle s

theorem outcome_waiverDeadlinePasses (p : PortId) (h : execWaiverDeadlinePasses p s = .next t) : Outcome s t := by
  refine outcome_live h ?_
  split
  · exact (Change.housekeeping (housekeeping_setPort _ p rfl)).outcome _
  · exact outcome_idle s

theorem outcome_gradeMessage (p : PortId) (bytes : List Byte) (bad : Bool) (h : execGradeMessage p bytes bad s = .next t) :
    Outcome s t := by
  refine outcome_live h ?_
  split
  · exact outcome_idle s
  · exact outcome_after 0 (.message p bytes bad)

theorem outcome_gradeTimerExpiry (p : PortId) (h : execGradeTimerExpiry p s = .next t) : Outcome s t := by
  refine outcome_live h ?_
  split
  · exact outcome_after _ (.gradeExpiry p)
  · exact outcome_idle s

theorem outcome_holdOffExpiry (sh : ShelfId) (h : execHoldOffExpiry sh s = .next t) : Outcome s t := by
  refine outcome_live h ?_
  split
  · next hb => exact outcome_shelf _ (.holdOff sh _ _ (elapse_bridge _ hb))
  · exact outcome_idle s

theorem outcome_settleComplete (sh : ShelfId) (h : execSettleComplete sh s = .next t) : Outcome s t := by
  refine outcome_live h ?_
  split
  · next ha => exact outcome_shelf _ (.settle sh _ _ (elapse_acquire _ ha))
  · exact outcome_idle s

theorem outcome_holdoverLimitExpiry (sh : ShelfId) (h : execHoldoverLimitExpiry sh s = .next t) : Outcome s t := by
  refine outcome_live h ?_
  split
  · next hh => exact outcome_shelf _ (.limit sh _ (elapse_holdover _ hh))
  · exact outcome_idle s

theorem outcome_learnTimeReached (sh : ShelfId) (h : execLearnTimeReached sh s = .next t) : Outcome s t := by
  refine outcome_live h ?_
  split
  · exact outcome_shelf _ .learned
  · exact outcome_idle s

theorem outcome_guardAbsent (h : execGuardAbsent s = .next t) : Outcome s t := by
  refine outcome_live h ?_
  split
  · exact Change.loseGuard.outcome _
  · exact outcome_idle s

theorem outcome_guardPresent (h : execGuardPresent s = .next t) : Outcome s t := by
  refine outcome_live h ?_
  split
  · exact outcome_idle s
  · exact (Change.housekeeping (housekeeping_findGuard _)).outcome _

theorem outcome_backgroundWindowComplete (m : Int) (h : execBackgroundWindowComplete m s = .next t) : Outcome s t := by
  refine outcome_live h ?_
  split
  · exact outcome_after _ (.background m)
  · exact outcome_idle s

theorem outcome_checkComplete (m : Int) (h : execCheckComplete m s = .next t) : Outcome s t := by
  refine outcome_live h ?_
  split
  · exact outcome_after _ (.check m)
  · exact outcome_idle s

theorem outcome_outputSeam (sh : ShelfId) (h : execOutputSeam sh s = .next t) : Outcome s t := by
  refine outcome_live h ?_
  split
  · next hp => exact (Change.seam sh _ hp).does.outcome
  · exact outcome_idle s

theorem outcome_gradeMessageSend (sh : ShelfId) (h : execGradeMessageSend sh s = .next t) : Outcome s t := by
  refine outcome_live h ?_
  split
  · dsimp only
    split
    · next he => exact (Change.send sh he).outcome _
    · exact Change.idle.outcome _
  · exact outcome_idle s

theorem outcome_resetRelease (pins : Straps) (h : execResetRelease pins s = .next t) : Outcome s t := by
  injection h with h
  rw [← h, State.riseOfPin]
  split
  · exact outcome_idle s
  · next hpin =>
    split
    · next hi => exact (Change.pinUp hi).does.outcome
    · exact (Change.rise pins).does.outcome

theorem outcome_powerOn (pins : Straps) (h : execPowerOn pins s = .next t) : Outcome s t := by
  injection h with h
  rw [← h, State.powerUp]
  split
  · exact (Change.rise pins).does.outcome
  · exact (Change.silence s.straps false).does.outcome

end

/-- Every command is time, one change, and a write of the control fields. -/
theorem exec_outcome {c : Instr} {s t : State} (h : exec c s = .next t) : Outcome s t := by
  cases hc : c.request? with
  | some request =>
    obtain ⟨cp, r⟩ := request
    rw [exec_request hc] at h
    exact outcome_live h (complete_does (.refl s) cp _).outcome
  | none =>
    cases c <;> simp only [Instr.request?, reduceCtorEq] at hc
    case frameWrite cp bytes =>
      exact outcome_live (show execFrameWrite cp bytes s = .next t from h) (transaction_does s cp _ _).outcome
    case replyRead cp n =>
      exact outcome_live (show execReplyRead cp n s = .next t from h) (transaction_does s cp _ _).outcome
    case resync cp n =>
      exact outcome_live (show execResync cp n s = .next t from h) (transaction_does s cp _ _).outcome
    case statusOnlyTransaction cp o bytes =>
      exact outcome_live (show execStatusOnlyTransaction cp o bytes s = .next t from h) (transaction_does s cp _ _).outcome
    case voidTransaction cp n =>
      exact outcome_live (show execVoidTransaction cp n s = .next t from h) (controlWrite_setCpi s cp _).does.outcome
    case resetAssert =>
      injection h with h
      exact h ▸ (Change.silence s.straps s.internalReset).does.outcome
    case resetRelease pins => exact outcome_resetRelease pins h
    case powerOn pins => exact outcome_powerOn pins h
    case activityConfirmation p => exact outcome_activityConfirmation p h
    case activityLoss p => exact outcome_activityLoss p h
    case measurementWindowComplete p m => exact outcome_measurementWindowComplete p m h
    case restoreTimerExpiry p => exact outcome_restoreTimerExpiry p h
    case waiverDeadlinePasses p => exact outcome_waiverDeadlinePasses p h
    case gradeMessage p bytes bad => exact outcome_gradeMessage p bytes bad h
    case gradeTimerExpiry p => exact outcome_gradeTimerExpiry p h
    case gradeLineByteReceived p b bad =>
      exact outcome_live (show execGradeLineByteReceived p b bad s = .next t from h) (outcome_after 0 (.byte p b bad))
    case collectingGapTimeout p =>
      exact outcome_live (show execCollectingGapTimeout p s = .next t from h) (Change.housekeeping (housekeeping_gapTimeout s p)).does.outcome
    case holdOffExpiry sh => exact outcome_holdOffExpiry sh h
    case settleComplete sh => exact outcome_settleComplete sh h
    case holdoverLimitExpiry sh => exact outcome_holdoverLimitExpiry sh h
    case learnTimeReached sh => exact outcome_learnTimeReached sh h
    case guardAbsent => exact outcome_guardAbsent h
    case guardPresent => exact outcome_guardPresent h
    case backgroundWindowComplete m => exact outcome_backgroundWindowComplete m h
    case checkComplete m => exact outcome_checkComplete m h
    case outputSeam sh => exact outcome_outputSeam sh h
    case gradeMessageSend sh => exact outcome_gradeMessageSend sh h
    case gradeMessageSendEnd sh =>
      exact outcome_live (show execGradeMessageSendEnd sh s = .next t from h) (Change.sendEnd sh).does.outcome
    case requestReplyPlaced =>
      exact outcome_live (show execRequestReplyPlaced s = .next t from h) (placeReply_does s).outcome

/-- A step is time, one change, and a write of the control fields, from a state that differs in the queue of commands. -/
theorem step_outcome {s t : State} (h : step s = .next t) :
    ∃ k : Control, Outcome (s.withControl k) t := by
  cases hp : s.pending with
  | nil =>
    refine ⟨s.control, ?_⟩
    rw [withControl_control]
    simp only [step, hp] at h
    exact outcome_live h (Change.idle.outcome 1)
  | cons c rest =>
    simp only [step, hp] at h
    exact ⟨{ s.control with pending := rest }, exec_outcome h⟩

/-- A condition that time, every change, and writes of the control fields keep is kept by every step. -/
theorem step_keeps {P : State → Prop} (hcontrol : ∀ s k, P s → P (s.withControl k)) (htime : ∀ s d, P s → P (s.elapse d))
    (hchange : ∀ s t, P s → Change s t → P t) {s t : State} (hs : P s) (h : step s = .next t) : P t := by
  obtain ⟨k, d, u, hu, k', rfl, -⟩ := step_outcome h
  exact hcontrol _ _ (hchange _ _ (htime _ _ (hcontrol _ _ hs)) hu)

end Sys2Proof.Machine
end

section
/-!
PROOFS. What each change of ranking inputs and of the oscillator monitor can write, operation by operation; then that no
command touches the queue of commands.
-/

namespace Sys2Proof.Machine

/-! ## Port and grade records -/

/-- From `s` to `t` only port records and domain events may differ. -/
def PortsOnly (s t : State) : Prop := t = { s with ports := t.ports, domainEvents := t.domainEvents }

/-- From `s` to `t` only grade records, the node identifier and domain events may differ. -/
def GradesOnly (s t : State) : Prop := t = { s with grades := t.grades, nodeId := t.nodeId, domainEvents := t.domainEvents }

theorem PortsOnly.trans {s t u : State} (h : PortsOnly s t) (k : PortsOnly t u) : PortsOnly s u := by
  unfold PortsOnly at h k ⊢
  rw [k, h]

theorem GradesOnly.trans {s t u : State} (h : GradesOnly s t) (k : GradesOnly t u) : GradesOnly s u := by
  unfold GradesOnly at h k ⊢
  rw [k, h]

theorem portsOnly_putPort (s : State) (p : PortId) (r : Port) : PortsOnly s (s.putPort p r) := putPort_only s p r

theorem gradesOnly_putGrade (s : State) (p : PortId) (g : Grade) : GradesOnly s (s.putGrade p g) := by
  unfold GradesOnly
  rw [putGrade_only]

theorem gradesOnly_completeMessage (s : State) (p : PortId) (bytes : List Byte) (bad : Bool) :
    GradesOnly s (s.completeMessage p bytes bad) := by
  unfold State.completeMessage
  split
  · exact gradesOnly_putGrade s p _
  · rfl

theorem gradesOnly_receiveByte (s : State) (p : PortId) (b : Byte) (bad : Bool) :
    GradesOnly s (s.receiveByte p b bad) := by
  unfold State.receiveByte
  split
  · rfl
  · split
    · split <;> rfl
    · split <;> rfl
    · split
      · rfl
      · exact gradesOnly_completeMessage s p _ _

theorem gradesOnly_foldl {f : State → PortId → State} (h : ∀ s p, GradesOnly s (f s p)) (l : List PortId) (s : State) :
    GradesOnly s (l.foldl f s) := by
  induction l generalizing s with
  | nil => rfl
  | cons p rest ih => exact (h s p).trans (ih _)

theorem gradesOnly_setNodeId (s : State) (own : NodeId) : GradesOnly s (s.setNodeId own) :=
  GradesOnly.trans (t := { s with nodeId := own }) rfl (gradesOnly_foldl (fun t p => gradesOnly_putGrade t p _) _ _)

/-- A new setup writes the port's record and its grade record (R18, R35). -/
theorem replaceSetup_only (s : State) (p : PortId) (new : PortSetup) :
    s.replaceSetup p new = { s with ports := (s.replaceSetup p new).ports, grades := (s.replaceSetup p new).grades,
                                    domainEvents := (s.replaceSetup p new).domainEvents } := by
  have hput : ∀ r, s.putPort p r = { s with ports := (s.putPort p r).ports, domainEvents := (s.putPort p r).domainEvents } :=
    putPort_only s p
  have hraise : ∀ (t : State) (k : DomainEvent), t.raisePort p k = { t with domainEvents := (t.raisePort p k).domainEvents } := by
    intro t k
    unfold State.raisePort State.raiseIn
    split <;> rfl
  unfold State.replaceSetup
  dsimp only
  split
  · split
    · rw [hput]
      rfl
    · rw [hraise, hput]
      rfl
  · rw [hput]
    rfl
  · rw [hput]
  · rw [hput]

/-! ## The oscillator monitor and the phase -/

/-- From `s` to `t` only what the fault latch, a check and a change of phase reach may differ (R14, R15, R87, R114 to R118). -/
def MonitorOnly (s t : State) : Prop :=
  t = { s with osc := t.osc, phase := t.phase, ports := t.ports, partEvents := t.partEvents, shelves := t.shelves,
               units := t.units, queue := t.queue, domainEvents := t.domainEvents, freeCount := t.freeCount }

theorem MonitorOnly.trans {s t u : State} (h : MonitorOnly s t) (k : MonitorOnly t u) : MonitorOnly s u := by
  unfold MonitorOnly at h k ⊢
  rw [k, h]

theorem Moves.monitorOnly {s t : State} (h : Moves s t) : MonitorOnly s t := by
  have hs := h.shelfOnly
  unfold ShelfOnly at hs
  unfold MonitorOnly
  rw [hs]

theorem PortsOnly.monitorOnly {s t : State} (h : PortsOnly s t) : MonitorOnly s t := by
  unfold PortsOnly at h
  unfold MonitorOnly
  rw [h]

theorem monitorOnly_foldl {α : Type} {f : State → α → State} (h : ∀ s a, MonitorOnly s (f s a)) (l : List α) (s : State) :
    MonitorOnly s (l.foldl f s) := by
  induction l generalizing s with
  | nil => rfl
  | cons a rest ih => exact (h s a).trans (ih _)

theorem portsOnly_distrustPort (s : State) (p : PortId) : PortsOnly s (s.distrustPort p) := portsOnly_putPort s p _

theorem monitorOnly_setOsc (s : State) (o : Oscillator) : MonitorOnly s (s.setOsc o) := rfl

theorem monitorOnly_raisePart (s : State) (k : PartEvent) : MonitorOnly s (s.raisePart k) := rfl

theorem monitorOnly_setLatch (s : State) (source : LatchSource) : MonitorOnly s (s.setLatch source) := by
  unfold State.setLatch
  dsimp only
  have hosc := monitorOnly_setOsc s { s.osc with latch := true, source := some source }
  split
  · exact hosc
  · exact ((hosc.trans (monitorOnly_foldl (fun t sh => (moves_distrustShelf t sh).monitorOnly) _ _)).trans
      (monitorOnly_foldl (fun t p => (portsOnly_distrustPort t p).monitorOnly) _ _)).trans (monitorOnly_raisePart _ _)

theorem monitorOnly_clearLatch (s : State) : MonitorOnly s s.clearLatch := rfl

theorem monitorOnly_enterPhase (s : State) (phase : PartPhase) : MonitorOnly s (s.enterPhase phase) := rfl

theorem monitorOnly_release (s : State) : MonitorOnly s s.release :=
  (monitorOnly_enterPhase s .running).trans (moves_releaseShelves _).monitorOnly

theorem monitorOnly_endInit (s : State) (outcome : CheckOutcome) : MonitorOnly s (s.endInit outcome) := by
  unfold State.endInit
  split
  · exact monitorOnly_release s
  · exact monitorOnly_enterPhase s _

theorem monitorOnly_endCheck (s : State) (outcome : CheckOutcome) (difference : Option Int) :
    MonitorOnly s (s.endCheck outcome difference) := by
  have hosc := monitorOnly_setOsc s { s.osc with check := none, lastOutcome := some outcome, lastCheckDiff := difference }
  have ends : ∀ t : State, MonitorOnly s t →
      MonitorOnly s (if s.phase = .init then (t.raisePart .checkDone).endInit outcome else t.raisePart .checkDone) := by
    intro t ht
    have hraise := ht.trans (monitorOnly_raisePart t .checkDone)
    split
    · exact hraise.trans (monitorOnly_endInit _ _)
    · exact hraise
  cases outcome with
  | pass =>
    refine ends (if s.osc.latch then State.clearLatch _ else _) ?_
    split
    · exact hosc.trans (monitorOnly_clearLatch _)
    · exact hosc
  | fail => exact ends _ (hosc.trans (monitorOnly_setLatch _ _))
  | inconclusive => exact ends _ hosc

theorem monitorOnly_completeBackground (s : State) (m : Int) : MonitorOnly s (s.completeBackground m) := by
  unfold State.completeBackground
  dsimp only
  split
  · rfl
  · exact (monitorOnly_setOsc s _).trans (monitorOnly_setLatch _ _)

theorem monitorOnly_loseGuard (s : State) : MonitorOnly s s.loseGuard := by
  unfold State.loseGuard
  dsimp only
  split
  · exact (monitorOnly_setOsc s _).trans (monitorOnly_endCheck _ _ _)
  · rfl

theorem monitorOnly_startCheck (s : State) : MonitorOnly s s.startCheck := by
  unfold State.startCheck
  split
  · rfl
  · exact monitorOnly_endCheck _ _ _

/-! ## Every change of inputs -/

/-- From `s` to `t` only what a change of ranking inputs or of the monitor may write differs. -/
def InputOnly (s t : State) : Prop :=
  t = { s with ports := t.ports, grades := t.grades, nodeId := t.nodeId, cells := t.cells, window := t.window,
               lists := t.lists, osc := t.osc, phase := t.phase, partEvents := t.partEvents,
               domainEvents := t.domainEvents, shelves := t.shelves, units := t.units, queue := t.queue,
               freeCount := t.freeCount }

theorem PortsOnly.inputOnly {s t : State} (h : PortsOnly s t) : InputOnly s t := by
  unfold PortsOnly at h
  unfold InputOnly
  rw [h]

theorem GradesOnly.inputOnly {s t : State} (h : GradesOnly s t) : InputOnly s t := by
  unfold GradesOnly at h
  unfold InputOnly
  rw [h]

theorem MonitorOnly.inputOnly {s t : State} (h : MonitorOnly s t) : InputOnly s t := by
  unfold MonitorOnly at h
  unfold InputOnly
  rw [h]

theorem InputChange.inputOnly {s u : State} (h : InputChange s u) : InputOnly s u := by
  cases h with
  | confirm p _ _ => exact (portsOnly_putPort s p _).inputOnly
  | lose p _ => exact (portsOnly_putPort s p _).inputOnly
  | window p m _ => exact (portsOnly_putPort s p _).inputOnly
  | restore p _ => exact (portsOnly_putPort s p _).inputOnly
  | setup p new _ =>
    unfold InputOnly
    rw [replaceSetup_only]
  | message p bytes bad => exact (gradesOnly_completeMessage s p bytes bad).inputOnly
  | byte p b bad => exact (gradesOnly_receiveByte s p b bad).inputOnly
  | gradeExpiry p => exact (gradesOnly_putGrade s p _).inputOnly
  | nodeId own => exact (gradesOnly_setNodeId s own).inputOnly
  | cell sh p v => rfl
  | cells w w' place values =>
    unfold InputOnly
    rw [writeCells_only]
  | list d list _ _ _ => rfl
  | background m => exact (monitorOnly_completeBackground s m).inputOnly
  | check m => exact (monitorOnly_endCheck s _ _).inputOnly
  | startCheck _ => exact (monitorOnly_startCheck s).inputOnly

theorem ShelfChange.moves {s v : State} (h : ShelfChange s v) : Moves s v := by
  cases h with
  | steer sh p _ => exact (moves_setSteering s sh _).trans (moves_steerTo _ sh p)
  | pin sh p _ _ => exact (moves_setSteering s sh _).trans (moves_pinTo _ sh p)
  | clear sh _ => exact (moves_setSteering s sh _).trans (moves_unsteer _ sh)
  | holdOff sh _ _ _ => exact moves_endHoldOff s sh
  | settle sh t _ _ => exact moves_completeSettle s sh t
  | limit sh _ _ => exact moves_expireLimit s sh
  | learned => exact .refl s

/-! ## The queue of commands -/

theorem elapse_pending (s : State) (d : Nat) : (s.elapse d).pending = s.pending := by rw [elapse_only]

/-- No change touches the queue of commands. -/
theorem Change.pending {s t : State} (h : Change s t) : t.pending = s.pending := by
  cases h with
  | idle => rfl
  | housekeeping h => rw [h.rest]
  | input x h _ => rw [(commit_consequences s _ x).pending, h.inputOnly]
  | shelf h => rw [(refresh_consequences s _).pending, h.moves.consequences.pending]
  | release _ => rw [(refresh_consequences s _).pending, monitorOnly_release]
  | loseGuard => rw [(refresh_consequences s _).pending, monitorOnly_loseGuard]
  | apply _ => exact congrArg Control.pending (doApplyPartition_blind.keeps s)
  | domainSetup n b => exact congrArg Control.pending ((doDomainSetup_blind n b).keeps s)
  | restart cp reply _ => cases cp <;> rfl
  | outputSetup sh new => rw [(refresh_consequences s _).pending]; rfl
  | seam sh setup _ => rw [(refresh_consequences s _).pending]; rfl
  | send sh _ => rfl
  | sendEnd sh => rfl
  | rise pins => rfl
  | pinUp _ => rfl
  | silence pins b => rfl

/-- Settles O3: every command answers a next state, and none touches the queue of commands. -/
theorem everyCommandAnswersANextState : Obligations.EveryCommandAnswersANextState := by
  intro c s
  obtain ⟨t, ht⟩ := exec_next c s
  obtain ⟨d, u, hchange, hwrite⟩ := exec_outcome ht
  exact ⟨t, ht, by rw [hwrite.pending, hchange.pending, elapse_pending]⟩

end Sys2Proof.Machine
end

section
/-!
PROOFS. The table of port states holds after every step, and no port is QUALIFYING outside RUNNING (R2, R4, R15): each port
operation leaves a sound record, and no other change touches ports, phase or latch.
-/

namespace Sys2Proof.Machine

/-! ## A sound port record -/

/-- The conditions of the table but for the one on windows. -/
def Port.stands (r : Port) : Prop :=
  (r.fault = true ↔ r.state = .suspect) ∧ (r.setup.enabled = true ↔ r.state ≠ .off) ∧
  (r.restoreLeft.isSome = true ↔ r.state = .qualifying) ∧
  (r.activity = true ↔ r.state = .suspect ∨ r.state = .qualifying ∨ r.state = .up)

theorem Port.sound_iff (r : Port) (may : Bool) :
    r.sound may = true ↔ r.stands ∧
      (r.window.isSome = true ↔ r.setup.enabled = true ∧ r.activity = true ∧ may = true) := by
  simp only [Port.sound, Port.stands, Bool.and_eq_true, beq_iff_eq, and_assoc]
  refine and_congr ?_ (and_congr ?_ (and_congr ?_ (and_congr ?_ ?_))) <;> rw [Bool.eq_iff_iff] <;> simp [and_assoc, or_assoc]

/-- A record whose window has been started or discarded is sound as soon as the rest of it stands. -/
theorem syncWindow_sound {r : Port} (h : r.stands) (may : Bool) : (r.syncWindow may).sound may = true := by
  refine (Port.sound_iff _ _).mpr ⟨h, ?_⟩
  rw [syncWindow_window]
  simp [Port.syncWindow, and_assoc]

/-- The record of a port in the part `s`: sound, and not QUALIFYING outside RUNNING. -/
def State.portFine (s : State) (r : Port) : Prop :=
  r.sound s.mayMeasure = true ∧ (s.phase ≠ .running → r.state ≠ .qualifying)

/-- Every port's record is. -/
def State.portsFine (s : State) : Prop := ∀ p : PortId, s.portFine s.ports[p]

theorem portsFine_iff (s : State) : s.portsFine ↔ s.portsSound ∧ s.noneQualifies :=
  ⟨fun h => ⟨fun p => (h p).1, fun hp p => (h p).2 hp⟩, fun h p => ⟨h.1 p, fun hp => h.2 hp p⟩⟩

/-- The condition speaks of ports, phase and latch alone. -/
theorem portsFine_congr {s t : State} (h : s.portsFine) (hports : t.ports = s.ports) (hphase : t.phase = s.phase)
    (hlatch : t.osc.latch = s.osc.latch) : t.portsFine := by
  intro p
  unfold State.portFine State.mayMeasure
  rw [hports, hphase, hlatch]
  exact h p

/-- A record is fine where one with the same fields of the table is. -/
theorem portFine_congr {s : State} {r r' : Port} (h : s.portFine r) (hsetup : r'.setup.enabled = r.setup.enabled)
    (hstate : r'.state = r.state) (hfault : r'.fault = r.fault) (hactivity : r'.activity = r.activity)
    (hrestore : r'.restoreLeft.isSome = r.restoreLeft.isSome) (hwindow : r'.window.isSome = r.window.isSome) :
    s.portFine r' := by
  unfold State.portFine Port.sound at *
  rwa [hsetup, hstate, hfault, hactivity, hrestore, hwindow]

/-! ## Each operation on a record -/

/-- A qualification decision on an active port without a fault leaves a record that stands (R9, R15). -/
theorem qualify_stands (s : State) (p : PortId) {r : Port} (henabled : r.setup.enabled = true) (hfault : r.fault = false)
    (hactivity : r.activity = true) :
    (s.qualify p r).stands ∧ (s.phase ≠ .running → (s.qualify p r).state ≠ .qualifying) ∧
      (s.qualify p r).setup = r.setup ∧ (s.qualify p r).activity = true ∧ (s.qualify p r).window = r.window := by
  rcases qualify_cases s p r with h | ⟨d, -, hrun, -, -, h⟩
  · rw [h]
    exact ⟨by simp [Port.stands, henabled, hfault, hactivity], fun _ => by simp, rfl, hactivity, rfl⟩
  · rw [h]
    exact ⟨by simp [Port.stands, henabled, hfault, hactivity], fun hne => absurd hrun hne, rfl, hactivity, rfl⟩

theorem portFine_qualify (s : State) (p : PortId) {r : Port} (henabled : r.setup.enabled = true) (hfault : r.fault = false)
    (hactivity : r.activity = true) (hwindow : r.window.isSome = true ↔ s.mayMeasure = true) :
    s.portFine (s.qualify p r) := by
  obtain ⟨hstands, hphase, hsetup, hact, hwin⟩ := qualify_stands s p henabled hfault hactivity
  refine ⟨(Port.sound_iff _ _).mpr ⟨hstands, ?_⟩, hphase⟩
  simp [hsetup, hact, hwin, henabled, hwindow]

section
variable {s : State} {r : Port}

/-- An activity confirmation in DOWN (R3, R9). -/
theorem portFine_confirm (h : s.portFine r) (hdown : r.state = .down) (p : PortId) :
    s.portFine ((s.qualify p { r with activity := true, since := s.now }).syncWindow s.mayMeasure) := by
  obtain ⟨⟨hfault, henabled, -, -⟩, -⟩ := (Port.sound_iff _ _).mp h.1
  have he : r.setup.enabled = true := henabled.mpr (by rw [hdown]; decide)
  have hf : r.fault = false := by simpa [hdown] using hfault
  obtain ⟨hstands, hphase, -⟩ := qualify_stands s p (r := { r with activity := true, since := s.now }) he hf rfl
  exact ⟨syncWindow_sound hstands _, hphase⟩

/-- An activity loss (R8). -/
theorem portFine_lose (h : s.portFine r) (hactivity : r.activity = true) (p : PortId) :
    s.portFine ((s.leaveUp p r).enterDown s.now) := by
  obtain ⟨⟨-, henabled, -, hact⟩, -⟩ := (Port.sound_iff _ _).mp h.1
  have he : r.setup.enabled = true := by
    refine henabled.mpr fun hoff => ?_
    rw [hoff] at hact
    simp [hactivity] at hact
  rw [leaveUp_only]
  refine ⟨(Port.sound_iff _ _).mpr ?_, fun _ => by simp [Port.enterDown]⟩
  simp [Port.stands, Port.enterDown, he]

/-- A verdict on a complete window (R6, R11). -/
theorem portFine_verdict (h : s.portFine r) (hwindow : r.window ≠ none) (p : PortId) (offset : Option Int) (inBand : Prop)
    [Decidable inBand] :
    s.portFine (if inBand then s.inBand p { r with offset := offset, window := some 0 }
      else s.outOfBand p { r with offset := offset, window := some 0 }) := by
  obtain ⟨hstands, hwin⟩ := (Port.sound_iff _ _).mp h.1
  obtain ⟨henabled, hactivity, hmay⟩ := hwin.mp (Option.isSome_iff_ne_none.mpr hwindow)
  have hsome : r.window.isSome = true := Option.isSome_iff_ne_none.mpr hwindow
  have hstays : s.portFine { r with offset := offset, window := some 0 } := portFine_congr h rfl rfl rfl rfl rfl hsome.symm
  split
  · unfold State.inBand
    dsimp only
    split
    · exact portFine_qualify s p henabled rfl hactivity (by simp [hmay])
    · exact portFine_congr hstays rfl rfl rfl rfl rfl rfl
  · unfold State.outOfBand
    dsimp only
    split
    · rw [leaveUp_only]
      refine ⟨(Port.sound_iff _ _).mpr ?_, fun _ => by simp⟩
      simp [Port.stands, henabled, hactivity, hmay]
    · exact portFine_congr hstays rfl rfl rfl rfl rfl rfl

/-- The end of the restore time (R10). -/
theorem portFine_restore (h : s.portFine r) (hq : r.state = .qualifying) :
    s.portFine { r with state := .up, restoreLeft := none } := by
  obtain ⟨⟨hfault, henabled, -, hactivity⟩, hwin⟩ := (Port.sound_iff _ _).mp h.1
  rw [hq] at hfault henabled hactivity
  refine ⟨(Port.sound_iff _ _).mpr ⟨?_, hwin⟩, fun _ => by simp⟩
  simp_all [Port.stands]

/-- A disabled port has nothing confirmed, declared or running. -/
theorem disabled_fields (h : s.portFine r) (hdisabled : r.setup.enabled = false) :
    r.state = .off ∧ r.fault = false ∧ r.restoreLeft = none ∧ r.activity = false ∧ r.window = none := by
  obtain ⟨⟨hfault, henabled, hrestore, hactivity⟩, hwin⟩ := (Port.sound_iff _ _).mp h.1
  have hoff : r.state = .off := by
    by_contra hne
    rw [henabled.mpr hne] at hdisabled
    cases hdisabled
  rw [hoff] at hfault hrestore hactivity
  rw [hdisabled] at hwin
  simp_all

/-- A port that is disabled (R7). -/
theorem portFine_disable (r : Port) {new : PortSetup} (hnew : new.enabled = false) (now : Nat) :
    s.portFine { r.disable now with setup := new } := by
  refine ⟨(Port.sound_iff _ _).mpr ?_, fun _ => by simp [Port.disable]⟩
  simp [Port.stands, Port.disable, hnew]

/-- A port that is enabled goes DOWN (R7). -/
theorem portFine_enable (h : s.portFine r) (hold : r.setup.enabled = false) {new : PortSetup} (hnew : new.enabled = true)
    (now : Nat) : s.portFine { r with setup := new, state := .down, since := now } := by
  obtain ⟨-, hfault, hrestore, hactivity, hwindow⟩ := disabled_fields h hold
  refine ⟨(Port.sound_iff _ _).mpr ?_, fun _ => by simp⟩
  simp [Port.stands, hnew, hfault, hrestore, hactivity, hwindow]

/-- A new setup of an enabled port (R18). -/
theorem portFine_resetup (h : s.portFine r) (hold : r.setup.enabled = true) {new : PortSetup} (hnew : new.enabled = true)
    (now : Nat) : s.portFine (r.resetup new now s.mayMeasure) := by
  obtain ⟨⟨hfault, henabled, hrestore, hactivity⟩, -⟩ := (Port.sound_iff _ _).mp h.1
  refine ⟨?_, h.2⟩
  unfold Port.resetup
  dsimp only
  refine syncWindow_sound ?_ _
  refine ⟨hfault, ?_, hrestore, hactivity⟩
  rw [← henabled, hold]
  exact iff_of_true hnew rfl

end

/-! ## Each change of a port -/

theorem putPort_get (s : State) (p q : PortId) (r : Port) :
    (s.putPort p r).ports[q] = if p = q then r else s.ports[q] := by
  rw [← setPort_get]
  exact congrArg (fun ports : Vector Port 24 => ports[q]) (putPort_ports s p r)

/-- Writing a fine record keeps every port fine. -/
theorem portsFine_putPort {s : State} (h : s.portsFine) {p : PortId} {r : Port} (hr : s.portFine r) :
    (s.putPort p r).portsFine := by
  intro q
  have hsame : ∀ r', (s.putPort p r).portFine r' ↔ s.portFine r' := by
    intro r'
    rw [putPort_only]
    rfl
  rw [hsame, putPort_get]
  split
  · exact hr
  · exact h q

/-- The record that a new setup leaves of a port (R7, R18). -/
def State.setupRecord (s : State) (p : PortId) (new : PortSetup) : Port :=
  match s.ports[p].setup.enabled, new.enabled with
  | true, false => { s.ports[p].disable s.now with setup := new }
  | false, true => { s.ports[p] with setup := new, state := .down, since := s.now }
  | false, false => { s.ports[p] with setup := new }
  | true, true => s.ports[p].resetup new s.now s.mayMeasure

theorem replaceSetup_ports (s : State) (p : PortId) (new : PortSetup) :
    (s.replaceSetup p new).ports = s.ports.set p (s.setupRecord p new) := by
  unfold State.replaceSetup
  dsimp only
  split
  · next ho hn =>
    simp only [State.setupRecord, ho, hn]
    split <;> simp only [raisePort_ports, setGrade_ports, putPort_ports]
  · next ho hn => simp only [State.setupRecord, ho, hn, setGrade_ports, putPort_ports]
  · next ho hn => simp only [State.setupRecord, ho, hn, putPort_ports]
  · next ho hn => simp only [State.setupRecord, ho, hn, putPort_ports]

theorem portFine_setupRecord {s : State} (h : s.portsFine) (p : PortId) (new : PortSetup) :
    s.portFine (s.setupRecord p new) := by
  unfold State.setupRecord
  split
  · next hnew => exact portFine_disable _ hnew _
  · next hold hnew => exact portFine_enable (h p) hold hnew _
  · next hold hnew => exact portFine_congr (h p) (hnew.trans hold.symm) rfl rfl rfl rfl rfl
  · next hold hnew => exact portFine_resetup (h p) hold hnew _

theorem portsFine_replaceSetup {s : State} (h : s.portsFine) (p : PortId) (new : PortSetup) :
    (s.replaceSetup p new).portsFine := by
  have hkept := replaceSetup_only s p new
  refine portsFine_congr (portsFine_putPort (p := p) h (portFine_setupRecord h p new)) ?_ ?_ ?_
  · rw [replaceSetup_ports, putPort_ports]
  · rw [hkept, putPort_only]
  · rw [hkept, putPort_only]

/-- The condition is kept by a change that leaves ports, phase and latch alone. -/
theorem portsFine_of_consequences {s t : State} (h : s.portsFine) (hc : Consequences s t) : t.portsFine :=
  portsFine_congr h hc.ports hc.phase (by rw [hc.osc])

theorem portsFine_gradesOnly {s t : State} (h : s.portsFine) (hg : GradesOnly s t) : t.portsFine := by
  unfold GradesOnly at hg
  rw [hg]
  exact h

theorem portsFine_moves {s t : State} (h : s.portsFine) (hm : Moves s t) : t.portsFine :=
  portsFine_of_consequences h hm.consequences

theorem portsFine_raisePart {s : State} (h : s.portsFine) (k : PartEvent) : (s.raisePart k).portsFine :=
  portsFine_congr h rfl rfl rfl

theorem portsFine_setOutput {s : State} (h : s.portsFine) (sh : ShelfId) (o : Output) : (s.setOutput sh o).portsFine :=
  portsFine_congr h rfl rfl rfl

theorem portsFine_setOsc {s : State} (h : s.portsFine) {o : Oscillator} (ho : o.latch = s.osc.latch) :
    (s.setOsc o).portsFine := portsFine_congr h rfl rfl ho

/-! ## The latch, checks and the phase -/

/-- Every record of the part stands, and none is QUALIFYING outside RUNNING: what is left of the condition while windows
have yet to follow a change of phase or latch (R4). -/
def State.portsStand (s : State) : Prop :=
  ∀ p : PortId, s.ports[p].stands ∧ (s.phase ≠ .running → s.ports[p].state ≠ .qualifying)

theorem State.portsFine.stand {s : State} (h : s.portsFine) : s.portsStand :=
  fun p => ⟨((Port.sound_iff _ _).mp (h p).1).1, (h p).2⟩

theorem syncWindows_get (s : State) (p : PortId) : s.syncWindows.ports[p] = s.ports[p].syncWindow s.mayMeasure := by
  simp only [State.syncWindows, Fin.getElem_fin, Vector.getElem_map]

/-- Windows that follow make the condition whole again. -/
theorem portsFine_syncWindows {s : State} (h : s.portsStand) : s.syncWindows.portsFine := by
  intro p
  rw [syncWindows_get]
  exact ⟨syncWindow_sound (h p).1 _, (h p).2⟩

/-- A change of phase (R15, R182): into RUNNING, or from a phase in which nothing qualifies. -/
theorem portsFine_enterPhase {s : State} (h : s.portsFine) (phase : PartPhase) (hp : phase = .running ∨ s.phase ≠ .running) :
    (s.enterPhase phase).portsFine := by
  refine portsFine_syncWindows (s := { s with phase := phase }) fun p => ⟨(h.stand p).1, fun hne => ?_⟩
  exact (h.stand p).2 (hp.resolve_left hne)

theorem portsFine_release {s : State} (h : s.portsFine) : s.release.portsFine :=
  portsFine_moves (portsFine_enterPhase h .running (.inl rfl)) (moves_releaseShelves _)

theorem portsFine_endInit {s : State} (h : s.portsFine) (hp : s.phase = .init) (outcome : CheckOutcome) :
    (s.endInit outcome).portsFine := by
  unfold State.endInit
  split
  · exact portsFine_release h
  · exact portsFine_enterPhase h _ (.inr (by rw [hp]; decide))

/-- The record that the setting of the latch leaves of a port (R14). -/
def State.distrusted (s : State) (p : PortId) (r : Port) : Port :=
  if r.state == .suspect then s.qualify p { r with window := none, outRun := 0, inRun := 0, fault := false }
  else { r with window := none, outRun := 0, inRun := 0 }

theorem distrustPort_get (s : State) (p q : PortId) :
    (s.distrustPort p).ports[q] = if p = q then s.distrusted p s.ports[p] else s.ports[q] := putPort_get s p q _

theorem PortsOnly.phase {s t : State} (h : PortsOnly s t) : t.phase = s.phase := by
  unfold PortsOnly at h
  rw [h]

theorem portFine_portsOnly {s t : State} (h : PortsOnly s t) (r : Port) : t.portFine r ↔ s.portFine r := by
  unfold PortsOnly at h
  rw [h]
  rfl

/-- What a qualification decision depends on (R9). -/
theorem qualify_portsOnly {s t : State} (h : PortsOnly s t) (p : PortId) (r : Port) : t.qualify p r = s.qualify p r := by
  unfold PortsOnly at h
  rw [h]
  rfl

theorem distrusted_portsOnly {s t : State} (h : PortsOnly s t) (p : PortId) (r : Port) :
    t.distrusted p r = s.distrusted p r := by
  unfold State.distrusted
  rw [qualify_portsOnly h]

theorem portsOnly_distrustPorts (s : State) (l : List PortId) : PortsOnly s (l.foldl State.distrustPort s) := by
  induction l generalizing s with
  | nil => rfl
  | cons p rest ih => exact (portsOnly_distrustPort s p).trans (ih _)

/-- Ports distrusted in turn, each once. -/
theorem distrustPorts_get (s : State) (l : List PortId) (hl : l.Nodup) (q : PortId) :
    (l.foldl State.distrustPort s).ports[q] = if q ∈ l then s.distrusted q s.ports[q] else s.ports[q] := by
  induction l generalizing s with
  | nil => rfl
  | cons p rest ih =>
    obtain ⟨hp, hrest⟩ := List.nodup_cons.mp hl
    rw [List.foldl_cons, ih _ hrest, distrustPort_get, distrusted_portsOnly (portsOnly_distrustPort s p)]
    by_cases hq : p = q
    · subst hq
      simp [hp]
    · simp [hq, Ne.symm hq]

theorem portFine_distrusted {s : State} (hmay : s.mayMeasure = false) {r : Port} (h : r.stands)
    (hq : s.phase ≠ .running → r.state ≠ .qualifying) (p : PortId) : s.portFine (s.distrusted p r) := by
  unfold State.distrusted
  split
  · next hsuspect =>
    obtain ⟨-, henabled, -, hactivity⟩ := h
    rw [beq_iff_eq] at hsuspect
    refine portFine_qualify s p (henabled.mpr ?_) rfl (hactivity.mpr (.inl hsuspect)) ?_
    · rw [hsuspect]
      decide
    · simp [hmay]
  · exact ⟨(Port.sound_iff _ _).mpr ⟨h, by simp [hmay]⟩, hq⟩

/-- The latch is set (R14, R115). -/
theorem portsFine_setLatch {s : State} (h : s.portsFine) (source : LatchSource) : (s.setLatch source).portsFine := by
  unfold State.setLatch
  dsimp only
  split
  · next hl => exact portsFine_congr h rfl rfl hl.symm
  · set t := (List.finRange 48).foldl State.distrustShelf (s.setOsc { s.osc with latch := true, source := some source })
      with ht
    have hmoves : Moves (s.setOsc { s.osc with latch := true, source := some source }) t :=
      moves_foldl _ moves_distrustShelf _ _
    have hlatch : t.osc.latch = true := by rw [hmoves.consequences.osc]; rfl
    have hstand : t.portsStand := by
      intro p
      rw [hmoves.consequences.ports, hmoves.consequences.phase]
      exact h.stand p
    have hports := portsOnly_distrustPorts t (List.finRange 24)
    have hmay : t.mayMeasure = false := by simp [State.mayMeasure, hlatch]
    refine portsFine_raisePart (fun p => ?_) _
    rw [distrustPorts_get _ _ (List.nodup_finRange 24), if_pos (List.mem_finRange p)]
    exact (portFine_portsOnly hports _).mpr (portFine_distrusted hmay (hstand p).1 (hstand p).2 p)

theorem portsFine_clearLatch {s : State} (h : s.portsFine) : s.clearLatch.portsFine :=
  portsFine_syncWindows (s := s.setOsc { s.osc with latch := false }) h.stand

theorem endCheck_cases (s : State) (outcome : CheckOutcome) (difference : Option Int) :
    ∃ t, (t = s.setOsc { s.osc with check := none, lastOutcome := some outcome, lastCheckDiff := difference } ∨
      s.osc.latch = true ∧
        t = (s.setOsc { s.osc with check := none, lastOutcome := some outcome, lastCheckDiff := difference }).clearLatch ∨
      t = (s.setOsc { s.osc with check := none, lastOutcome := some outcome, lastCheckDiff := difference }).setLatch
        .check) ∧
      s.endCheck outcome difference =
        if s.phase = .init then (t.raisePart .checkDone).endInit outcome else t.raisePart .checkDone := by
  cases outcome with
  | pass =>
    by_cases hl : s.osc.latch = true
    · refine ⟨_, .inr (.inl ⟨hl, rfl⟩), ?_⟩
      simp only [State.endCheck, hl, if_true]
    · refine ⟨_, .inl rfl, ?_⟩
      simp only [State.endCheck, hl, if_false, Bool.false_eq_true]
  | fail => exact ⟨_, .inr (.inr rfl), rfl⟩
  | inconclusive => exact ⟨_, .inl rfl, rfl⟩

theorem setLatch_phase (s : State) (source : LatchSource) : (s.setLatch source).phase = s.phase := by
  unfold State.setLatch
  dsimp only
  split
  · rfl
  · rw [raisePart_phase]
    have hports := portsOnly_distrustPorts ((List.finRange 48).foldl State.distrustShelf
      (s.setOsc { s.osc with latch := true, source := some source })) (List.finRange 24)
    rw [hports.phase]
    exact (moves_foldl _ moves_distrustShelf _ _).consequences.phase

theorem portsFine_endCheck {s : State} (h : s.portsFine) (outcome : CheckOutcome) (difference : Option Int) :
    (s.endCheck outcome difference).portsFine := by
  obtain ⟨t, ht, he⟩ := endCheck_cases s outcome difference
  have hosc : (s.setOsc { s.osc with check := none, lastOutcome := some outcome,
                                     lastCheckDiff := difference }).portsFine := portsFine_setOsc h rfl
  have hfine : t.portsFine ∧ t.phase = s.phase := by
    rcases ht with rfl | ⟨-, rfl⟩ | rfl
    · exact ⟨hosc, rfl⟩
    · exact ⟨portsFine_clearLatch hosc, rfl⟩
    · exact ⟨portsFine_setLatch hosc _, setLatch_phase _ _⟩
  have hraise := portsFine_raisePart hfine.1 .checkDone
  rw [he]
  split
  · next hp => exact portsFine_endInit hraise (hfine.2.trans hp) _
  · exact hraise

/-! ## Every change -/

theorem portsFine_input {s u : State} (h : s.portsFine) (hu : InputChange s u) : u.portsFine := by
  cases hu with
  | confirm p hdown _ => exact portsFine_putPort h (portFine_confirm (h p) hdown p)
  | lose p hactivity => exact portsFine_putPort h (portFine_lose (h p) hactivity p)
  | window p m hw => exact portsFine_putPort h (portFine_verdict (h p) hw p _ _)
  | restore p hq => exact portsFine_putPort h (portFine_restore (h p) hq)
  | setup p new _ => exact portsFine_replaceSetup h p new
  | message p bytes bad => exact portsFine_gradesOnly h (gradesOnly_completeMessage s p bytes bad)
  | byte p b bad => exact portsFine_gradesOnly h (gradesOnly_receiveByte s p b bad)
  | gradeExpiry p => exact portsFine_gradesOnly h (gradesOnly_putGrade s p _)
  | nodeId own => exact portsFine_gradesOnly h (gradesOnly_setNodeId s own)
  | cell sh p v => exact portsFine_congr h rfl rfl rfl
  | cells w w' place values =>
    rw [writeCells_only]
    exact portsFine_congr h rfl rfl rfl
  | list d list _ _ _ => exact portsFine_congr h rfl rfl rfl
  | background m =>
    unfold State.completeBackground
    dsimp only
    split
    · exact portsFine_setOsc h rfl
    · refine portsFine_setLatch ?_ _
      exact portsFine_setOsc h rfl
  | check m =>
    unfold State.completeCheck
    exact portsFine_endCheck h _ _
  | startCheck _ =>
    unfold State.startCheck
    split
    · exact portsFine_setOsc h rfl
    · exact portsFine_endCheck h _ _

theorem portsFine_loseGuard {s : State} (h : s.portsFine) : s.loseGuard.portsFine := by
  unfold State.loseGuard
  dsimp only
  split
  · refine portsFine_endCheck ?_ _ _
    exact portsFine_setOsc h rfl
  · exact portsFine_setOsc h rfl

/-- From `s` an apply or a new domain record leaves ports, phase, latch, grades, cells, node identifier and clock alone. -/
theorem doApplyPartition_kept (s : State) :
    s.doApplyPartition.1 = { s with
      current := s.doApplyPartition.1.current, lists := s.doApplyPartition.1.lists,
      partEvents := s.doApplyPartition.1.partEvents, shelves := s.doApplyPartition.1.shelves,
      units := s.doApplyPartition.1.units, queue := s.doApplyPartition.1.queue,
      domainEvents := s.doApplyPartition.1.domainEvents, freeCount := s.doApplyPartition.1.freeCount,
      outputs := s.doApplyPartition.1.outputs } := by
  unfold State.doApplyPartition
  split
  · rfl
  · dsimp only
    have hc : Consequences (s.repartition.raisePart .applied)
        (State.refresh s (((s.repartition.raisePart .applied).inTurn
          (State.appliedTo s (s.repartition.raisePart .applied)) (State.applyToShelf s)).judgeShelves)) :=
      ((moves_inTurn _ _ _ (moves_applyToShelf s)).trans (moves_judgeShelves _)).consequences.trans
        (refresh_consequences s _)
    generalize State.refresh s _ = t at hc ⊢
    unfold Consequences at hc
    rw [hc]
    rfl

theorem doDomainSetup_kept (s : State) (n : Nat) (b : DomainSetupBody) :
    (s.doDomainSetup n b).1 = { s with
      domains := (s.doDomainSetup n b).1.domains, shelves := (s.doDomainSetup n b).1.shelves,
      units := (s.doDomainSetup n b).1.units, queue := (s.doDomainSetup n b).1.queue,
      domainEvents := (s.doDomainSetup n b).1.domainEvents, freeCount := (s.doDomainSetup n b).1.freeCount,
      outputs := (s.doDomainSetup n b).1.outputs } := by
  unfold State.doDomainSetup
  split
  · next d record _ _ =>
    split
    · rfl
    · dsimp only
      have hc : Consequences { s with domains := s.domains.set d record }
          (State.refresh s ((({ s with domains := s.domains.set d record } : State).inTurn
            (State.resetupShelves s { s with domains := s.domains.set d record } d)
            fun t sh => State.meet s t sh Ctx.failing).judgeShelves)) :=
        ((moves_inTurn _ _ _ fun _ _ => moves_meet _ _ _ _).trans (moves_judgeShelves _)).consequences.trans
          (refresh_consequences s _)
      generalize State.refresh s _ = t at hc ⊢
      unfold Consequences at hc
      rw [hc]
  · rfl

theorem portsFine_atReset (straps : Straps) (bytes : List Byte) (now count : Nat) (pending : List Instr) :
    (State.atReset straps bytes now count pending).portsFine := by
  intro p
  have hp : (State.atReset straps bytes now count pending).ports[p] = Port.atReset now := by
    simp only [State.atReset, Fin.getElem_fin, Vector.getElem_replicate]
  rw [hp]
  exact ⟨rfl, fun _ => by simp [Port.atReset]⟩

theorem portsFine_change {s t : State} (h : s.portsFine) (ht : Change s t) : t.portsFine := by
  cases ht with
  | idle => exact h
  | housekeeping hk =>
    intro p
    have hmay : t.mayMeasure = s.mayMeasure := by
      unfold State.mayMeasure
      rw [hk.rest, hk.osc]
    have hphase : t.phase = s.phase := by rw [hk.rest]
    unfold State.portFine
    rw [hk.ports p, hmay, hphase]
    exact h p
  | input x hu _ => exact portsFine_of_consequences (portsFine_input h hu) (commit_consequences _ _ _)
  | shelf hv => exact portsFine_of_consequences (portsFine_moves h hv.moves) (refresh_consequences _ _)
  | release _ => exact portsFine_of_consequences (portsFine_release h) (refresh_consequences _ _)
  | loseGuard => exact portsFine_of_consequences (portsFine_loseGuard h) (refresh_consequences _ _)
  | apply _ =>
    rw [doApplyPartition_kept]
    exact portsFine_congr h rfl rfl rfl
  | domainSetup n b =>
    rw [doDomainSetup_kept]
    exact portsFine_congr h rfl rfl rfl
  | restart cp reply _ =>
    refine portsFine_congr (portsFine_atReset s.straps (shunMsg (nodeIdOf s.straps)).bytes s.now s.freeCount s.pending) ?_ ?_ ?_
    all_goals cases cp <;> rfl
  | outputSetup sh new => exact portsFine_of_consequences (portsFine_setOutput h sh _) (refresh_consequences _ _)
  | seam sh setup _ => exact portsFine_of_consequences (portsFine_setOutput h sh _) (refresh_consequences _ _)
  | send sh _ => exact portsFine_setOutput h sh _
  | sendEnd sh => exact portsFine_setOutput h sh _
  | rise pins => exact portsFine_atReset _ _ _ _ _
  | pinUp _ => exact portsFine_congr h rfl rfl rfl
  | silence pins b =>
    exact portsFine_congr (portsFine_atReset pins (shunMsg (nodeIdOf pins)).bytes s.now s.freeCount s.pending) rfl rfl rfl

theorem elapse_phase (s : State) (d : Nat) : (s.elapse d).phase = s.phase := by rw [elapse_only]

theorem elapse_latch (s : State) (d : Nat) : (s.elapse d).osc.latch = s.osc.latch := by
  rcases Nat.eq_zero_or_pos d with rfl | hd
  · rw [elapse_zero]
  · rw [elapse_osc s hd]
    rfl

theorem elapse_mayMeasure (s : State) (d : Nat) : (s.elapse d).mayMeasure = s.mayMeasure := by
  unfold State.mayMeasure
  rw [elapse_phase, elapse_latch]

theorem portsFine_elapse {s : State} (h : s.portsFine) (d : Nat) : (s.elapse d).portsFine := by
  rcases Nat.eq_zero_or_pos d with rfl | hd
  · rwa [elapse_zero]
  · intro p
    have hsame : ∀ r, (s.elapse d).portFine r ↔ s.portFine r := by
      intro r
      unfold State.portFine
      rw [elapse_mayMeasure, elapse_phase]
    rw [hsame, elapse_ports_get s hd]
    refine portFine_congr (h p) rfl rfl rfl rfl ?_ ?_
    · exact Option.isSome_map
    · exact Option.isSome_map

/-- Settles O52: every change leaves sound port records. -/
theorem everyStepKeepsPortsSound : Obligations.EveryStepKeepsPortsSound := by
  intro s t hsound hqualifies h
  exact (portsFine_iff t).mp (step_keeps (P := State.portsFine) (fun _ _ h => h) (fun _ d h => portsFine_elapse h d)
    (fun _ _ h hc => portsFine_change h hc) ((portsFine_iff s).mpr ⟨hsound, hqualifies⟩) h)

end Sys2Proof.Machine
end

section
/-!
PROOFS. Validity is judged after every step (R105), and priority lists hold ports of their domain (R51): every refresh judges
validity, and lists and partition change only where a rule checks or prunes them.
-/

namespace Sys2Proof.Machine

/-! ## Validity -/

/-- Validity is the same condition in two parts with the same settings, latch and learned time. -/
theorem holdoverValid_congr {s t : State} {sh : ShelfId} (hdomains : t.domains = s.domains) (hcurrent : t.current = s.current)
    (hlatch : t.osc.latch = s.osc.latch) (hlearned : t.shelves[sh].learned = s.shelves[sh].learned) :
    t.holdoverValid sh = s.holdoverValid sh := by
  simp only [State.holdoverValid, State.shelfRecord, State.shelfDomain, hdomains, hcurrent, hlatch, hlearned]

theorem validSound_congr {s t : State} (h : s.validSound) (hdomains : t.domains = s.domains) (hcurrent : t.current = s.current)
    (hlatch : t.osc.latch = s.osc.latch) (hlearned : ∀ sh : ShelfId, t.shelves[sh].learned = s.shelves[sh].learned)
    (hvalid : ∀ sh : ShelfId, t.shelves[sh].valid = s.shelves[sh].valid) : t.validSound := fun sh => by
  rw [hvalid, h sh, holdoverValid_congr hdomains hcurrent hlatch (hlearned sh)]

/-- What a refresh keeps of a shelf's learned time. -/
theorem refresh_learned (old s : State) (sh : ShelfId) :
    (State.refresh old s).shelves[sh].learned = s.shelves[sh].learned := by rw [refresh_shelf]

theorem refreshNominees_consequences {s : State} : Consequences s s.refreshNominees := by
  simp only [Consequences, State.refreshNominees]

/-- Validity after a refresh is the condition judged on the part refreshed (R105). -/
theorem refresh_valid (old s : State) (sh : ShelfId) :
    (State.refresh old s).shelves[sh].valid = s.holdoverValid sh := by
  rw [refresh_shelf, refreshNominees_consequences.holdoverValid]
  rw [refreshNominees_shelf]

theorem refresh_holdoverValid (old s : State) (sh : ShelfId) :
    (State.refresh old s).holdoverValid sh = s.holdoverValid sh :=
  (refresh_consequences old s).holdoverValid (refresh_learned old s sh)

theorem refresh_validSound (old s : State) : (State.refresh old s).validSound := fun sh => by
  rw [refresh_valid, refresh_holdoverValid]

theorem validSound_atReset (straps : Straps) (bytes : List Byte) (now count : Nat) (pending : List Instr) :
    (State.atReset straps bytes now count pending).validSound := by
  intro sh
  simp [State.atReset, State.holdoverValid, State.shelfRecord, State.shelfDomain, Shelf.atReset, Partition.atReset,
    Domain.atReset, Oscillator.atReset]

theorem validSound_change {s t : State} (h : s.validSound) (ht : Change s t) : t.validSound := by
  cases ht with
  | idle => exact h
  | housekeeping hk =>
    refine validSound_congr h (by rw [hk.rest]) (by rw [hk.rest]) (by rw [hk.osc]) ?_ ?_
    · exact fun sh => by rw [hk.shelves]
    · exact fun sh => by rw [hk.shelves]
  | input x _ _ => exact refresh_validSound _ _
  | shelf _ => exact refresh_validSound _ _
  | release _ => exact refresh_validSound _ _
  | loseGuard => exact refresh_validSound _ _
  | apply hne =>
    rw [State.doApplyPartition, if_neg hne]
    exact refresh_validSound _ _
  | domainSetup n b =>
    unfold State.doDomainSetup
    split
    · split
      · exact h
      · exact refresh_validSound _ _
    · exact h
  | restart cp reply _ =>
    refine validSound_congr (validSound_atReset s.straps (shunMsg (nodeIdOf s.straps)).bytes s.now s.freeCount s.pending)
      ?_ ?_ ?_ (fun _ => ?_) (fun _ => ?_)
    all_goals cases cp <;> rfl
  | outputSetup sh new => exact refresh_validSound _ _
  | seam sh setup _ => exact refresh_validSound _ _
  | send sh _ => exact validSound_congr h rfl rfl rfl (fun _ => rfl) (fun _ => rfl)
  | sendEnd sh => exact validSound_congr h rfl rfl rfl (fun _ => rfl) (fun _ => rfl)
  | rise pins => exact validSound_atReset _ _ _ _ _
  | pinUp _ => exact validSound_congr h rfl rfl rfl (fun _ => rfl) (fun _ => rfl)
  | silence pins b =>
    exact validSound_congr (validSound_atReset pins (shunMsg (nodeIdOf pins)).bytes s.now s.freeCount s.pending)
      rfl rfl rfl (fun _ => rfl) (fun _ => rfl)

theorem validSound_elapse {s : State} (h : s.validSound) (d : Nat) : (s.elapse d).validSound := by
  rcases Nat.eq_zero_or_pos d with rfl | hd
  · rwa [elapse_zero]
  · exact fun sh => by rw [elapse_shelves_get s hd]

/-- Settles O57: whatever changes a learned time, the latch or a setting is followed by a judgement of every record. -/
theorem everyStepKeepsValidityJudged : Obligations.EveryStepKeepsValidityJudged := by
  intro s t hs h
  exact step_keeps (P := State.validSound) (fun _ _ h => h) (fun _ d h => validSound_elapse h d)
    (fun _ _ h hc => validSound_change h hc) hs h

/-! ## Lists -/

theorem listsSound_congr {s t : State} (h : s.listsSound) (hlists : t.lists = s.lists) (hcurrent : t.current = s.current) :
    t.listsSound := by
  intro d
  unfold State.portDomain
  rw [hlists, hcurrent]
  exact h d

theorem listsSound_of_consequences {s t : State} (h : s.listsSound) (hc : Consequences s t) : t.listsSound :=
  listsSound_congr h hc.lists hc.current

theorem listsSound_monitorOnly {s t : State} (h : s.listsSound) (hm : MonitorOnly s t) : t.listsSound := by
  unfold MonitorOnly at hm
  rw [hm]
  exact listsSound_congr h rfl rfl

theorem listsSound_gradesOnly {s t : State} (h : s.listsSound) (hg : GradesOnly s t) : t.listsSound := by
  unfold GradesOnly at hg
  rw [hg]
  exact listsSound_congr h rfl rfl

/-- A list that a PRIORITY LIST writes (R52). -/
theorem listsSound_setList {s : State} (h : s.listsSound) {d : DomainId} {list : List PortId} (hnodup : list.Nodup)
    (hlength : list.length ≤ 24) (hin : ∀ p ∈ list, s.portDomain p = some d) :
    ({ s with lists := s.lists.set d list } : State).listsSound := by
  intro e
  show (∀ p ∈ (s.lists.set d list)[e], s.portDomain p = some e) ∧ (s.lists.set d list)[e].Nodup ∧
    (s.lists.set d list)[e].length ≤ 24
  by_cases he : d = e
  · subst he
    simp only [Fin.getElem_fin, Vector.getElem_set_self]
    exact ⟨hin, hnodup, hlength⟩
  · simp only [Fin.getElem_fin, Vector.getElem_set_ne _ _ (fun hv => he (Fin.ext hv))]
    exact h e

theorem listsSound_input {s u : State} (h : s.listsSound) (hu : InputChange s u) : u.listsSound := by
  cases hu with
  | confirm p _ _ => exact listsSound_monitorOnly h (portsOnly_putPort s p _).monitorOnly
  | lose p _ => exact listsSound_monitorOnly h (portsOnly_putPort s p _).monitorOnly
  | window p m _ => exact listsSound_monitorOnly h (portsOnly_putPort s p _).monitorOnly
  | restore p _ => exact listsSound_monitorOnly h (portsOnly_putPort s p _).monitorOnly
  | setup p new _ =>
    rw [replaceSetup_only]
    exact listsSound_congr h rfl rfl
  | message p bytes bad => exact listsSound_gradesOnly h (gradesOnly_completeMessage s p bytes bad)
  | byte p b bad => exact listsSound_gradesOnly h (gradesOnly_receiveByte s p b bad)
  | gradeExpiry p => exact listsSound_gradesOnly h (gradesOnly_putGrade s p _)
  | nodeId own => exact listsSound_gradesOnly h (gradesOnly_setNodeId s own)
  | cell sh p v => exact listsSound_congr h rfl rfl
  | cells w w' place values =>
    rw [writeCells_only]
    exact listsSound_congr h rfl rfl
  | list d list hnodup hlength hin => exact listsSound_setList h hnodup hlength hin
  | background m => exact listsSound_monitorOnly h (monitorOnly_completeBackground s m)
  | check m => exact listsSound_monitorOnly h (monitorOnly_endCheck s _ _)
  | startCheck _ => exact listsSound_monitorOnly h (monitorOnly_startCheck s)

theorem repartition_lists_get (s : State) (d : DomainId) :
    s.repartition.lists[d] = s.lists[d].filter fun p => s.pendingPart.ports[p] == some d := by
  simp only [State.repartition, Fin.getElem_fin, Vector.getElem_ofFn]

/-- The lists pruned to the new partition (R46). -/
theorem listsSound_repartition {s : State} (h : s.listsSound) : s.repartition.listsSound := by
  intro d
  obtain ⟨-, hnodup, hlength⟩ := h d
  rw [repartition_lists_get]
  refine ⟨fun p hp => ?_, hnodup.filter _, (List.length_filter_le _ _).trans hlength⟩
  exact beq_iff_eq.mp (List.mem_filter.mp hp).2

theorem doApplyPartition_only {s : State} (h : s.pendingPart ≠ s.current) :
    Consequences (s.repartition.raisePart .applied) s.doApplyPartition.1 := by
  rw [State.doApplyPartition, if_neg h]
  exact ((moves_inTurn _ _ _ (moves_applyToShelf s)).trans (moves_judgeShelves _)).consequences.trans
    (refresh_consequences s _)

theorem listsSound_atReset (straps : Straps) (bytes : List Byte) (now count : Nat) (pending : List Instr) :
    (State.atReset straps bytes now count pending).listsSound := by
  intro d
  have hports : ∀ p : PortId, (State.atReset straps bytes now count pending).portDomain p = some 0 := fun p => by
    simp only [State.portDomain, State.atReset, Partition.atReset, Fin.getElem_fin, Vector.getElem_replicate]
  simp only [hports]
  show (∀ p ∈ listsAtReset[d], some 0 = some d) ∧ listsAtReset[d].Nodup ∧ listsAtReset[d].length ≤ 24
  revert d
  decide

theorem listsSound_change {s t : State} (h : s.listsSound) (ht : Change s t) : t.listsSound := by
  cases ht with
  | idle => exact h
  | housekeeping hk => exact listsSound_congr h (by rw [hk.rest]) (by rw [hk.rest])
  | input x hu _ => exact listsSound_of_consequences (listsSound_input h hu) (commit_consequences _ _ _)
  | shelf hv => exact listsSound_of_consequences (listsSound_of_consequences h hv.moves.consequences) (refresh_consequences _ _)
  | release _ => exact listsSound_of_consequences (listsSound_monitorOnly h (monitorOnly_release s)) (refresh_consequences _ _)
  | loseGuard =>
    exact listsSound_of_consequences (listsSound_monitorOnly h (monitorOnly_loseGuard s)) (refresh_consequences _ _)
  | apply hne =>
    refine listsSound_of_consequences ?_ (doApplyPartition_only hne)
    exact listsSound_congr (listsSound_repartition h) rfl rfl
  | domainSetup n b =>
    rw [doDomainSetup_kept]
    exact listsSound_congr h rfl rfl
  | restart cp reply _ =>
    refine listsSound_congr (listsSound_atReset s.straps (shunMsg (nodeIdOf s.straps)).bytes s.now s.freeCount s.pending) ?_ ?_
    all_goals cases cp <;> rfl
  | outputSetup sh new => exact listsSound_of_consequences (s := s.setOutput sh _) h (refresh_consequences _ _)
  | seam sh setup _ => exact listsSound_of_consequences (s := s.takeSetup sh setup) h (refresh_consequences _ _)
  | send sh _ => exact h
  | sendEnd sh => exact h
  | rise pins => exact listsSound_atReset _ _ _ _ _
  | pinUp _ => exact h
  | silence pins b =>
    exact listsSound_congr (listsSound_atReset pins (shunMsg (nodeIdOf pins)).bytes s.now s.freeCount s.pending) rfl rfl

/-- Settles O54: lists are written checked and pruned with the partition, and nothing else touches them. -/
theorem everyStepKeepsListsSound : Obligations.EveryStepKeepsListsSound := by
  intro s t hs h
  refine step_keeps (P := State.listsSound) (fun _ _ h => h) (fun s d h => ?_) (fun _ _ h hc => listsSound_change h hc) hs h
  exact listsSound_congr h (by rw [elapse_only]) (by rw [elapse_only])

end Sys2Proof.Machine
end

section
/-!
PROOFS. Why `EveryStepKeepsUnclockedOutputsShun` fails as it is stated: nothing in its third clause rules out a part whose
executor is free while an OUTPUT SETUP waits on the other control port. No run reaches such a part (R171), but the clause
quantifies over it.
-/

namespace Sys2Proof.Machine

/-- An OUTPUT SETUP of SP0 that sets its invert bit. -/
def invertingSetup : OutputSetupBody := { enabled := 1, mode := 0, divide := 0, invert := 1, squelch := 0 }

/-- The part in HELD with a free executor and CPB, which is active, WORKING on a request that waits. -/
def strandedRequest : State :=
  { State.reset with
    phase := .held, active := .cpb,
    cpb := { Cpi.atReset with stage := .working (some (.outputSetup 0 invertingSetup)) } }

/-- IDENTITY on CPA lets the executor take the request that waits on CPB. -/
theorem exec_identity_strandedRequest :
    exec (.identity .cpa) strandedRequest =
      .next ((strandedRequest.arrived .cpa .identity).take .cpb (.outputSetup 0 invertingSetup)) := rfl

/-- The OUTPUT SETUP is applied at once: the drive of a HELD shelf is a fixed level (R147). -/
theorem strandedRequest_applied :
    ((strandedRequest.arrived .cpa .identity).take .cpb (.outputSetup 0 invertingSetup)).outputs[(0 : ShelfId)].active.invert =
      true := by
  decide

/-- Refutes O59: an IDENTITY that completes beside a waiting OUTPUT SETUP changes an active setup, although it is no OUTPUT
SETUP and brings no frame, and no pending setup takes over. -/
theorem not_everyStepKeepsUnclockedOutputsShun : ¬ Obligations.EveryStepKeepsUnclockedOutputsShun := by
  unfold Obligations.EveryStepKeepsUnclockedOutputsShun
  rintro ⟨-, -, hsetups, -⟩
  have hclause := (hsetups (.identity .cpa) strandedRequest _ (by decide) (by decide) (fun _ h => by cases h) (by decide)
    exec_identity_strandedRequest 0).2 (fun _ _ h => by cases h) rfl
  obtain ⟨hactive, -⟩ | ⟨hpending, -⟩ := hclause
  · have happlied := strandedRequest_applied
    rw [hactive] at happlied
    exact absurd happlied (by decide)
  · exact absurd hpending (by decide)

end Sys2Proof.Machine
end

section
/-!
PROOFS. Every invariant right after reset, for whatever straps, time and first message the part rises with.
-/

namespace Sys2Proof.Machine

section
variable (straps : Straps) (bytes : List Byte) (now count : Nat) (pending : List Instr)

/-! ## The records after a rise (R180, R181) -/

theorem atReset_port (p : PortId) : (State.atReset straps bytes now count pending).ports[p] = Port.atReset now := by
  simp [State.atReset]

theorem atReset_grade (p : PortId) : (State.atReset straps bytes now count pending).grades[p] = Grade.atReset := by
  simp [State.atReset]

theorem atReset_shelf (sh : ShelfId) : (State.atReset straps bytes now count pending).shelves[sh] = Shelf.atReset := by
  simp [State.atReset]

theorem atReset_unit (u : UnitId) : (State.atReset straps bytes now count pending).units[u] = none := by
  simp [State.atReset]

theorem atReset_output (sh : ShelfId) :
    (State.atReset straps bytes now count pending).outputs[sh] = Output.atReset (nodeIdOf straps) bytes now := by
  simp [State.atReset]

theorem atReset_shelfDomain (sh : ShelfId) : (State.atReset straps bytes now count pending).shelfDomain sh = some 0 := by
  simp [State.atReset, State.shelfDomain, Partition.atReset]

theorem atReset_portDomain (p : PortId) : (State.atReset straps bytes now count pending).portDomain p = some 0 := by
  simp [State.atReset, State.portDomain, Partition.atReset]

/-! ## The conditions -/

theorem gradesSound_atReset : (State.atReset straps bytes now count pending).gradesSound := fun p => by
  rw [atReset_port, atReset_grade]
  exact ⟨rfl, rfl, rfl⟩

theorem phaseSound_atReset : (State.atReset straps bytes now count pending).phaseSound := fun sh => by
  rw [atReset_shelf]
  exact ⟨fun _ => by simp [State.atReset], fun _ => rfl⟩

theorem latchSound_atReset : (State.atReset straps bytes now count pending).latchSound := fun h =>
  absurd h Bool.false_ne_true

theorem poolSound_atReset : (State.atReset straps bytes now count pending).poolSound := by
  have hqueue : (State.atReset straps bytes now count pending).queue = [] := rfl
  refine ⟨fun u sh hu => ?_, fun sh hsh => ?_, fun u _ sh hu => ?_, fun sh => ?_, by rw [hqueue]; exact .nil,
    fun hq => absurd hqueue hq⟩
  · rw [atReset_unit] at hu
    cases hu
  · rw [atReset_shelf] at hsh
    cases hsh
  · rw [atReset_unit] at hu
    cases hu
  · rw [hqueue, atReset_shelf]
    simp [ShelfState.waits, Shelf.atReset, ShelfState.isQueued, ShelfState.pending?]

theorem outputsSound_atReset : (State.atReset straps bytes now count pending).outputsSound := fun sh => by
  rw [atReset_output]
  exact ⟨fun _ _ => rfl, fun h => by cases h⟩

theorem outputsCurrent_atReset : (State.atReset straps bytes now count pending).outputsCurrent := fun sh => by
  have hstate : (State.atReset straps bytes now count pending).shelves[sh].state = .held none := by
    rw [atReset_shelf]
    rfl
  rw [atReset_output]
  refine ⟨?_, ?_, rfl, ?_, nofun, fun _ _ _ => rfl⟩
  · simp only [State.driveUnder, hstate]
    rfl
  · simp only [State.trackerOf, hstate]
    rfl
  · rw [hstate]
    exact ⟨nofun, nofun⟩

theorem executorSound_atReset : (State.atReset straps bytes now count pending).executorSound := by
  refine ⟨fun _ => ⟨rfl, rfl⟩, fun cp => ⟨fun h => ?_, fun ⟨_, h⟩ => by cases h⟩⟩
  cases cp <;> cases h

/-- No port is UP, so no shelf has a candidate. -/
theorem best_atReset (sh : ShelfId) : (State.atReset straps bytes now count pending).best sh = none := by
  cases hb : (State.atReset straps bytes now count pending).best sh with
  | none => rfl
  | some b =>
    have he := (best_listed hb).1
    rw [State.eligible, atReset_port] at he
    simp [Port.atReset] at he

theorem shelvesSettled_atReset : (State.atReset straps bytes now count pending).shelvesSettled := fun sh => by
  simp only [State.shelfSettled, State.nomineeOf, atReset_shelf, atReset_shelfDomain, Shelf.atReset, best_atReset]
  rfl

end

/-- Settles O51: reset is the rise of an unstrapped part at time 0. -/
theorem resetMeetsEveryInvariant : Obligations.ResetMeetsEveryInvariant := by
  unfold Obligations.ResetMeetsEveryInvariant
  have hports := (portsFine_iff _).mp (portsFine_atReset Straps.unconnected firstShunBytes 0 0 [])
  exact ⟨hports.1, hports.2, gradesSound_atReset _ _ _ _ _, listsSound_atReset _ _ _ _ _, phaseSound_atReset _ _ _ _ _,
    latchSound_atReset _ _ _ _ _, validSound_atReset _ _ _ _ _, poolSound_atReset _ _ _ _ _,
    outputsSound_atReset _ _ _ _ _, outputsCurrent_atReset _ _ _ _ _, executorSound_atReset _ _ _ _ _,
    shelvesSettled_atReset _ _ _ _ _⟩

end Sys2Proof.Machine
end

section
/-!
PROOFS. Grade records (chapter 2): the ranges they stay in, what a new setup makes of them, and that loop flags agree with
traces and identifier; and what the oscillator monitor makes of the port records.
-/

namespace Sys2Proof.Machine

/-! ## Port records under the monitor -/

theorem distrustShelves_moves (s : State) (o : Oscillator) :
    Moves (s.setOsc o) ((List.finRange 48).foldl State.distrustShelf (s.setOsc o)) := moves_foldl _ moves_distrustShelf _ _

/-- A setting that finds the latch set changes the source alone (R114). -/
theorem setLatch_set {s : State} (h : s.osc.latch = true) (source : LatchSource) :
    s.setLatch source = s.setOsc { s.osc with latch := true, source := some source } := by
  simp only [State.setLatch, h, if_true]

/-- What a qualification decision depends on (R9). -/
theorem qualify_congr {s t : State} (hcurrent : t.current = s.current) (hdomains : t.domains = s.domains)
    (hphase : t.phase = s.phase) (hnow : t.now = s.now) (p : PortId) (r : Port) : t.qualify p r = s.qualify p r := by
  simp only [State.qualify, State.portDomain, hcurrent, hdomains, hphase, hnow]

theorem distrusted_congr {s t : State} (hcurrent : t.current = s.current) (hdomains : t.domains = s.domains)
    (hphase : t.phase = s.phase) (hnow : t.now = s.now) (p : PortId) (r : Port) :
    t.distrusted p r = s.distrusted p r := by
  simp only [State.distrusted, qualify_congr hcurrent hdomains hphase hnow]

/-- A setting of a clear latch distrusts every port (R14). -/
theorem setLatch_port {s : State} (h : s.osc.latch = false) (source : LatchSource) (p : PortId) :
    (s.setLatch source).ports[p] = s.distrusted p s.ports[p] := by
  have hc := (distrustShelves_moves s { s.osc with latch := true, source := some source }).consequences
  unfold State.setLatch
  dsimp only
  rw [if_neg (by rw [h]; exact Bool.false_ne_true)]
  generalize (List.finRange 48).foldl State.distrustShelf
    (s.setOsc { s.osc with latch := true, source := some source }) = t at hc ⊢
  have hports : (((List.finRange 24).foldl State.distrustPort t).raisePart .oscFault).ports =
      ((List.finRange 24).foldl State.distrustPort t).ports := raisePart_ports _ _
  have hget := distrustPorts_get t (List.finRange 24) (List.nodup_finRange 24) p
  rw [if_pos (List.mem_finRange p), distrusted_congr (s := s) hc.current hc.domains hc.phase hc.now] at hget
  simp only [hports, hget]
  rw [hc.ports]
  rfl

theorem clearLatch_port (s : State) (p : PortId) :
    s.clearLatch.ports[p] = s.ports[p].syncWindow (s.phase != .init) := by
  rw [State.clearLatch, syncWindows_get]
  simp [State.mayMeasure]

theorem enterPhase_port (s : State) (phase : PartPhase) (p : PortId) :
    (s.enterPhase phase).ports[p] = s.ports[p].syncWindow (phase != .init && !s.osc.latch) := by
  have h : (s.enterPhase phase).ports[p] = ({ s with phase := phase } : State).syncWindows.ports[p] := rfl
  rw [h, syncWindows_get]
  rfl

theorem release_port (s : State) (p : PortId) : s.release.ports[p] = s.ports[p].syncWindow !s.osc.latch := by
  have h : s.release.ports = (s.enterPhase .running).ports := (moves_releaseShelves _).consequences.ports
  rw [h, enterPhase_port]
  rfl

theorem qualify_setup (s : State) (p : PortId) (r : Port) : (s.qualify p r).setup = r.setup := by
  rcases qualify_cases s p r with h | ⟨d, -, -, -, -, h⟩
  · rw [h]
  · rw [h]

theorem leaveUp_setup (s : State) (p : PortId) (r : Port) : (s.leaveUp p r).setup = r.setup := by
  rw [leaveUp_only]

theorem distrusted_setup (s : State) (p : PortId) (r : Port) : (s.distrusted p r).setup = r.setup := by
  unfold State.distrusted
  split
  · rw [qualify_setup]
  · rfl

/-! ## Setups that an operation keeps -/

/-- From `s` to `t` no port's setup changes. -/
def SetupsKept (s t : State) : Prop := ∀ p : PortId, t.ports[p].setup = s.ports[p].setup

theorem SetupsKept.trans {s t u : State} (h : SetupsKept s t) (k : SetupsKept t u) : SetupsKept s u :=
  fun p => (k p).trans (h p)

theorem SetupsKept.of_ports {s t : State} (h : t.ports = s.ports) : SetupsKept s t := fun p => by rw [h]

theorem setupsKept_setOsc (s : State) (o : Oscillator) : SetupsKept s (s.setOsc o) := .of_ports rfl

theorem setupsKept_raisePart (s : State) (k : PartEvent) : SetupsKept s (s.raisePart k) := .of_ports rfl

theorem setupsKept_putPort (s : State) {p : PortId} {r : Port} (h : r.setup = s.ports[p].setup) :
    SetupsKept s (s.putPort p r) := fun q => by
  rw [putPort_get]
  split
  · next hq => rw [h, hq]
  · rfl

theorem setupsKept_verdict (s : State) (p : PortId) (r : Port) (inBand : Prop) [Decidable inBand] :
    (if inBand then s.inBand p r else s.outOfBand p r).setup = r.setup := by
  split
  · unfold State.inBand
    dsimp only
    split
    · rw [qualify_setup]
    · rfl
  · unfold State.outOfBand
    dsimp only
    split
    · exact leaveUp_setup s p _
    · rfl

theorem setupsKept_setLatch (s : State) (source : LatchSource) : SetupsKept s (s.setLatch source) := fun p => by
  cases h : s.osc.latch with
  | true => rw [setLatch_set h]; rfl
  | false => rw [setLatch_port h, distrusted_setup]

theorem setupsKept_clearLatch (s : State) : SetupsKept s s.clearLatch := fun p => by rw [clearLatch_port]; rfl

theorem setupsKept_enterPhase (s : State) (phase : PartPhase) : SetupsKept s (s.enterPhase phase) := fun p => by
  rw [enterPhase_port]; rfl

theorem setupsKept_release (s : State) : SetupsKept s s.release := fun p => by rw [release_port]; rfl

theorem setupsKept_endInit (s : State) (outcome : CheckOutcome) : SetupsKept s (s.endInit outcome) := by
  unfold State.endInit
  split
  · exact setupsKept_release s
  · exact setupsKept_enterPhase s _

theorem setupsKept_endCheck (s : State) (outcome : CheckOutcome) (difference : Option Int) :
    SetupsKept s (s.endCheck outcome difference) := by
  obtain ⟨t, ht, he⟩ := endCheck_cases s outcome difference
  have hkept : SetupsKept s (t.raisePart .checkDone) := by
    refine SetupsKept.trans ?_ (setupsKept_raisePart t _)
    rcases ht with rfl | ⟨-, rfl⟩ | rfl
    · exact setupsKept_setOsc _ _
    · exact (setupsKept_setOsc _ _).trans (setupsKept_clearLatch _)
    · exact (setupsKept_setOsc _ _).trans (setupsKept_setLatch _ _)
  rw [he]
  split
  · exact hkept.trans (setupsKept_endInit _ _)
  · exact hkept

theorem setupsKept_completeBackground (s : State) (m : Int) : SetupsKept s (s.completeBackground m) := by
  unfold State.completeBackground
  dsimp only
  split
  · exact setupsKept_setOsc _ _
  · exact (setupsKept_setOsc _ _).trans (setupsKept_setLatch _ _)

theorem setupsKept_loseGuard (s : State) : SetupsKept s s.loseGuard := by
  unfold State.loseGuard
  dsimp only
  split
  · exact (setupsKept_setOsc _ _).trans (setupsKept_endCheck _ _ _)
  · exact setupsKept_setOsc _ _

theorem setupsKept_startCheck (s : State) : SetupsKept s s.startCheck := by
  unfold State.startCheck
  split
  · exact setupsKept_setOsc _ _
  · exact setupsKept_endCheck _ _ _

/-! ## What a new setup makes of a grade record (R35) -/

/-- The grade record of port `p` under a new setup. -/
def State.setupGrade (s : State) (p : PortId) (new : PortSetup) : Grade :=
  match s.ports[p].setup.enabled, new.enabled with
  | true, false => s.grades[p].disable
  | false, true => { s.grades[p] with receiver := .hunting }
  | false, false => s.grades[p]
  | true, true => s.grades[p]

theorem putPort_grades (s : State) (p : PortId) (r : Port) : (s.putPort p r).grades = s.grades := by
  rw [putPort_only]

theorem replaceSetup_grades (s : State) (p : PortId) (new : PortSetup) :
    (s.replaceSetup p new).grades = s.grades.set p (s.setupGrade p new) := by
  have hsame : s.grades = s.grades.set p s.grades[p] := (Vector.set_getElem_self p.isLt).symm
  have hset : ∀ (t : State) (g : Grade), t.grades = s.grades → (t.setGrade p g).grades = s.grades.set p g :=
    fun t g h => by rw [← h]; rfl
  unfold State.replaceSetup
  dsimp only
  split
  · next ho hn =>
    simp only [State.setupGrade, ho, hn]
    split
    · exact hset _ _ (putPort_grades s p _)
    · rw [State.raisePort, raiseIn_grades]
      exact hset _ _ (putPort_grades s p _)
  · next ho hn =>
    simp only [State.setupGrade, ho, hn]
    exact hset _ _ (putPort_grades s p _)
  · next ho hn =>
    simp only [State.setupGrade, ho, hn]
    exact (putPort_grades s p _).trans hsame
  · next ho hn =>
    simp only [State.setupGrade, ho, hn]
    exact (putPort_grades s p _).trans hsame

theorem setupRecord_setup (s : State) (p : PortId) (new : PortSetup) : (s.setupRecord p new).setup = new := by
  unfold State.setupRecord
  split <;> rfl

/-! ## The ranges of a grade record -/

theorem Grade.sound_iff (g : Grade) :
    g.sound = true ↔ (g.accepted ≤ 12 ∨ g.accepted = 15) ∧ g.trace.length ≤ 8 ∧ g.malformed ≤ 255 ∧
      (∀ v n, g.pendingGrade = some (v, n) →
        (1 ≤ v ∧ v ≤ 12) ∧ (1 ≤ n ∧ n ≤ 3) ∧ gradeRank v < gradeRank g.accepted) ∧
      (g.timer.isSome = true ∨ g.accepted = 0 ∧ g.trace = [] ∧ g.holdover = false ∧ g.truncated = false ∧
        g.pendingGrade = none) := by
  unfold Grade.sound
  cases hp : g.pendingGrade with
  | none => simp [and_assoc]
  | some pair =>
    obtain ⟨v, n⟩ := pair
    simp [inRange, and_assoc]

/-- A message that is read is within its ranges (R23). -/
theorem ofBytes_bounds {bytes : List Byte} {bad : Bool} {m : GradeMsg} (h : GradeMsg.ofBytes bytes bad = some m) :
    (m.grade ≤ 12 ∨ m.grade = 15) ∧ m.trace.length ≤ 8 := by
  unfold GradeMsg.ofBytes at h
  split at h
  · next len flags count rest =>
    split at h
    · split at h
      · cases h
      · next hc =>
        obtain rfl := Option.some.inj h
        simp only [Bool.or_eq_true, beq_iff_eq, decide_eq_true_eq, bne_iff_ne, ne_eq, not_or, not_not] at hc
        have hflags : flags.toNat < 256 := flags.isLt
        constructor
        · dsimp only
          omega
        · dsimp only
          omega
    · cases h
  · cases h

theorem judge_accepted (g : Grade) (confirm received : Nat) :
    (g.judge confirm received).1 = received ∨ (g.judge confirm received).1 = g.accepted := by
  unfold Grade.judge
  split
  · exact .inl rfl
  · split
    · exact .inl rfl
    · split
      · split
        · split
          · exact .inl rfl
          · exact .inr rfl
        · exact .inr rfl
      · exact .inr rfl

/-- A port's setup and its grade record, against the node identifier, are as R1, R25, R29, R32 and R33 say. -/
def gradeFine (setup : PortSetup) (own : NodeId) (g : Grade) : Prop :=
  g.sound = true ∧ g.loopFlag = g.trace.contains own ∧ setup.sound = true

section
variable {setup : PortSetup} {own : NodeId} {g : Grade}

theorem gradeFine_receive (h : gradeFine setup own g) {bytes : List Byte} {bad : Bool} {m : GradeMsg}
    (hm : GradeMsg.ofBytes bytes bad = some m) : gradeFine setup own (g.receive setup own m) := by
  obtain ⟨hgrade, htrace⟩ := ofBytes_bounds hm
  obtain ⟨hsound, -, hsetup⟩ := h
  refine ⟨?_, rfl, hsetup⟩
  rw [Grade.sound_iff] at hsound ⊢
  obtain ⟨haccepted, -, hmalformed, -, -⟩ := hsound
  refine ⟨?_, htrace, hmalformed, fun v n hvn => ?_, .inl rfl⟩
  · show (g.judge setup.confirmCount m.grade).1 ≤ 12 ∨ (g.judge setup.confirmCount m.grade).1 = 15
    rcases judge_accepted g setup.confirmCount m.grade with h | h <;> rw [h]
    · exact hgrade
    · exact haccepted
  · obtain ⟨rfl, h0, h15, hrank, h1, hn⟩ := judge_pending g setup.confirmCount m.grade v n hvn
    have hconfirm : setup.confirmCount ≤ 4 := by
      simp [PortSetup.sound, inRange] at hsetup
      omega
    exact ⟨by omega, by omega, hrank⟩

/-- Counting a malformed message, and a change of the receiver, keep the rest of the record. -/
theorem gradeFine_keep (h : gradeFine setup own g) (receiver : Receiver) {malformed : Nat} (hm : malformed ≤ 255) :
    gradeFine setup own { g with receiver := receiver, malformed := malformed } := by
  obtain ⟨hsound, hloop, hsetup⟩ := h
  refine ⟨?_, hloop, hsetup⟩
  rw [Grade.sound_iff] at hsound ⊢
  exact ⟨hsound.1, hsound.2.1, hm, hsound.2.2.2⟩

theorem gradeFine_malformed (h : gradeFine setup own g) : g.malformed ≤ 255 := ((Grade.sound_iff g).mp h.1).2.2.1

theorem gradeFine_malform (h : gradeFine setup own g) : gradeFine setup own g.malform :=
  gradeFine_keep h .hunting (Nat.min_le_left _ _)

/-- A record with nothing accepted, no trace and no flags is fine (R31, R35). -/
theorem gradeFine_empty (h : gradeFine setup own g) (receiver : Receiver) :
    gradeFine setup own { g with receiver := receiver, accepted := 0, pendingGrade := none, holdover := false,
                                 truncated := false, trace := [], timer := none, loopFlag := false } :=
  ⟨(Grade.sound_iff _).mpr ⟨.inl (Nat.zero_le _), Nat.zero_le _, (gradeFine_malformed h : g.malformed ≤ 255), nofun,
    .inr ⟨rfl, rfl, rfl, rfl, rfl⟩⟩, rfl, h.2.2⟩

theorem gradeFine_reloop (h : gradeFine setup own g) (new : NodeId) : gradeFine setup new (g.reloop new) :=
  ⟨h.1, rfl, h.2.2⟩

theorem gradeFine_elapse (h : gradeFine setup own g) (d : Nat) : gradeFine setup own (g.elapse d) := by
  obtain ⟨hsound, hloop, hsetup⟩ := h
  refine ⟨?_, hloop, hsetup⟩
  rw [Grade.sound_iff] at hsound ⊢
  obtain ⟨h1, h2, h3, h4, h5⟩ := hsound
  exact ⟨h1, h2, h3, h4, h5.imp_left fun ht => by simpa [Grade.elapse] using ht⟩

end

theorem gradesSound_iff (s : State) :
    s.gradesSound ↔ ∀ p : PortId, gradeFine s.ports[p].setup s.nodeId s.grades[p] :=
  ⟨fun h p => ⟨(h p).2.1, (h p).2.2, (h p).1⟩, fun h p => ⟨(h p).2.2, (h p).1, (h p).2.1⟩⟩

theorem gradesSound_congr {s t : State} (h : s.gradesSound) (hgrades : t.grades = s.grades) (hnode : t.nodeId = s.nodeId)
    (hsetups : SetupsKept s t) : t.gradesSound := fun p => by
  rw [hsetups p, hgrades, hnode]
  exact h p

theorem gradesSound_of_consequences {s t : State} (h : s.gradesSound) (hc : Consequences s t) : t.gradesSound :=
  gradesSound_congr h hc.grades hc.nodeId (.of_ports hc.ports)

theorem gradesSound_portsOnly {s t : State} (h : s.gradesSound) (hp : PortsOnly s t) (hsetups : SetupsKept s t) :
    t.gradesSound := by
  unfold PortsOnly at hp
  exact gradesSound_congr h (by rw [hp]) (by rw [hp]) hsetups

theorem gradesSound_monitorOnly {s t : State} (h : s.gradesSound) (hm : MonitorOnly s t) (hsetups : SetupsKept s t) :
    t.gradesSound := by
  unfold MonitorOnly at hm
  exact gradesSound_congr h (by rw [hm]) (by rw [hm]) hsetups

theorem putGrade_get (s : State) (p q : PortId) (g : Grade) :
    (s.putGrade p g).grades[q] = if p = q then g else s.grades[q] := by
  rw [putGrade_grades]
  exact setGrade_get s p q g

theorem gradesSound_setGrade {s : State} (h : s.gradesSound) {p : PortId} {g : Grade}
    (hg : gradeFine s.ports[p].setup s.nodeId g) : (s.setGrade p g).gradesSound := by
  rw [gradesSound_iff] at h ⊢
  intro q
  rw [setGrade_get]
  split
  · next hq => rw [← hq]; exact hg
  · exact h q

/-- Writing a grade record with its events (R36). -/
theorem moves_putGrade (s : State) (p : PortId) (g : Grade) : Moves (s.setGrade p g) (s.putGrade p g) := by
  unfold State.putGrade
  dsimp only
  have hgrade : ∀ t : State, Moves t (if g.accepted = s.grades[p].accepted then t else t.raisePort p .grade) := by
    intro t
    split
    · exact .refl t
    · exact moves_raiseIn t _ _
  split
  · exact (hgrade _).trans (moves_raiseIn _ _ _)
  · exact hgrade _

theorem gradesSound_putGrade {s : State} (h : s.gradesSound) {p : PortId} {g : Grade}
    (hg : gradeFine s.ports[p].setup s.nodeId g) : (s.putGrade p g).gradesSound := by
  exact gradesSound_of_consequences (gradesSound_setGrade h hg) (moves_putGrade s p g).consequences

theorem gradesSound_completeMessage {s : State} (h : s.gradesSound) (p : PortId) (bytes : List Byte) (bad : Bool) :
    (s.completeMessage p bytes bad).gradesSound := by
  have hp := (gradesSound_iff s).mp h p
  unfold State.completeMessage
  split
  · next m hm => exact gradesSound_putGrade h (gradeFine_receive hp hm)
  · exact gradesSound_setGrade h (gradeFine_malform hp)

theorem gradesSound_receiver {s : State} (h : s.gradesSound) (p : PortId) (receiver : Receiver) :
    (s.setGrade p { s.grades[p] with receiver := receiver }).gradesSound := by
  have hp := (gradesSound_iff s).mp h p
  exact gradesSound_setGrade h (gradeFine_keep hp receiver (gradeFine_malformed hp))

theorem gradesSound_receiveByte {s : State} (h : s.gradesSound) (p : PortId) (b : Byte) (bad : Bool) :
    (s.receiveByte p b bad).gradesSound := by
  have hmalform := gradesSound_setGrade h (gradeFine_malform ((gradesSound_iff s).mp h p))
  unfold State.receiveByte
  split
  · exact h
  · split
    · split
      · exact h
      · exact gradesSound_receiver h p _
    · split
      · exact hmalform
      · exact gradesSound_receiver h p _
    · split
      · exact gradesSound_receiver h p _
      · exact gradesSound_completeMessage h p _ _

/-- Loop flags recomputed port by port, each against the new identifier (R34). -/
theorem reloop_foldl_get (own : NodeId) (l : List PortId) (s : State) (hl : l.Nodup) (q : PortId) :
    (l.foldl (fun t p => t.putGrade p (t.grades[p].reloop own)) s).grades[q] =
      if q ∈ l then s.grades[q].reloop own else s.grades[q] := by
  induction l generalizing s with
  | nil => rfl
  | cons p rest ih =>
    obtain ⟨hp, hrest⟩ := List.nodup_cons.mp hl
    rw [List.foldl_cons, ih _ hrest, putGrade_get]
    by_cases hq : p = q
    · rw [← hq, if_neg hp, if_pos rfl, if_pos (.head _)]
    · have hmem : (q ∈ p :: rest) ↔ q ∈ rest := by simp [Ne.symm hq]
      simp only [if_neg hq, hmem]

theorem setNodeId_grade (s : State) (own : NodeId) (p : PortId) :
    (s.setNodeId own).grades[p] = s.grades[p].reloop own := by
  rw [State.setNodeId, reloop_foldl_get own _ _ (List.nodup_finRange 24), if_pos (List.mem_finRange p)]

theorem reloop_foldl_kept (own : NodeId) (l : List PortId) (s : State) :
    (l.foldl (fun t p => t.putGrade p (t.grades[p].reloop own)) s).nodeId = s.nodeId ∧
      (l.foldl (fun t p => t.putGrade p (t.grades[p].reloop own)) s).ports = s.ports := by
  induction l generalizing s with
  | nil => exact ⟨rfl, rfl⟩
  | cons p rest ih =>
    rw [List.foldl_cons, (ih _).1, (ih _).2, putGrade_only]
    exact ⟨rfl, rfl⟩

theorem setNodeId_nodeId (s : State) (own : NodeId) : (s.setNodeId own).nodeId = own := (reloop_foldl_kept own _ _).1

theorem setNodeId_ports (s : State) (own : NodeId) : (s.setNodeId own).ports = s.ports := (reloop_foldl_kept own _ _).2

theorem gradesSound_setNodeId {s : State} (h : s.gradesSound) (own : NodeId) : (s.setNodeId own).gradesSound := by
  rw [gradesSound_iff] at h ⊢
  intro p
  rw [setNodeId_grade, setNodeId_nodeId, setNodeId_ports]
  exact gradeFine_reloop (h p) own

theorem replaceSetup_nodeId (s : State) (p : PortId) (new : PortSetup) : (s.replaceSetup p new).nodeId = s.nodeId := by
  rw [replaceSetup_only]

theorem gradesSound_replaceSetup {s : State} (h : s.gradesSound) (p : PortId) {new : PortSetup} (hnew : new.sound = true) :
    (s.replaceSetup p new).gradesSound := by
  rw [gradesSound_iff] at h ⊢
  intro q
  have hports : (s.replaceSetup p new).ports[q] = if p = q then s.setupRecord p new else s.ports[q] := by
    rw [replaceSetup_ports]
    exact setPort_get s p q _
  have hgrades : (s.replaceSetup p new).grades[q] = if p = q then s.setupGrade p new else s.grades[q] := by
    rw [replaceSetup_grades]
    exact setGrade_get s p q _
  rw [hgrades, hports, replaceSetup_nodeId]
  by_cases hq : p = q
  · obtain ⟨hsound, hloop, -⟩ := h p
    have hp : gradeFine new s.nodeId s.grades[p] := ⟨hsound, hloop, hnew⟩
    rw [if_pos hq, if_pos hq, setupRecord_setup]
    unfold State.setupGrade
    split
    · exact gradeFine_empty hp .hunting
    · exact gradeFine_keep hp _ (gradeFine_malformed hp)
    · exact hp
    · exact hp
  · rw [if_neg hq, if_neg hq]
    exact h q

theorem gradesSound_input {s u : State} (h : s.gradesSound) (hu : InputChange s u) : u.gradesSound := by
  cases hu with
  | confirm p _ _ =>
    refine gradesSound_portsOnly h (portsOnly_putPort s p _) (setupsKept_putPort s ?_)
    exact qualify_setup s p _
  | lose p _ =>
    refine gradesSound_portsOnly h (portsOnly_putPort s p _) (setupsKept_putPort s ?_)
    exact leaveUp_setup s p _
  | window p m _ =>
    refine gradesSound_portsOnly h (portsOnly_putPort s p _) (setupsKept_putPort s ?_)
    exact setupsKept_verdict s p _ _
  | restore p _ => exact gradesSound_portsOnly h (portsOnly_putPort s p _) (setupsKept_putPort s rfl)
  | setup p new hnew => exact gradesSound_replaceSetup h p hnew
  | message p bytes bad => exact gradesSound_completeMessage h p bytes bad
  | byte p b bad => exact gradesSound_receiveByte h p b bad
  | gradeExpiry p => exact gradesSound_putGrade h (gradeFine_empty ((gradesSound_iff s).mp h p) _)
  | nodeId own => exact gradesSound_setNodeId h own
  | cell sh p v => exact gradesSound_congr h rfl rfl (.of_ports rfl)
  | cells w w' place values =>
    rw [writeCells_only]
    exact gradesSound_congr h rfl rfl (.of_ports rfl)
  | list d list _ _ _ => exact gradesSound_congr h rfl rfl (.of_ports rfl)
  | background m => exact gradesSound_monitorOnly h (monitorOnly_completeBackground s m) (setupsKept_completeBackground s m)
  | check m => exact gradesSound_monitorOnly h (monitorOnly_endCheck s _ _) (setupsKept_endCheck s _ _)
  | startCheck _ => exact gradesSound_monitorOnly h (monitorOnly_startCheck s) (setupsKept_startCheck s)

theorem gradesSound_change {s t : State} (h : s.gradesSound) (ht : Change s t) : t.gradesSound := by
  cases ht with
  | idle => exact h
  | housekeeping hk =>
    rw [gradesSound_iff] at h ⊢
    intro p
    have hp := h p
    rw [hk.ports p, (hk.grades p).1, show t.nodeId = s.nodeId by rw [hk.rest]]
    exact gradeFine_keep hp _ ((hk.grades p).2 (gradeFine_malformed hp))
  | input x hu _ => exact gradesSound_of_consequences (gradesSound_input h hu) (commit_consequences _ _ _)
  | shelf hv =>
    exact gradesSound_of_consequences (gradesSound_of_consequences h hv.moves.consequences) (refresh_consequences _ _)
  | release _ =>
    exact gradesSound_of_consequences (gradesSound_monitorOnly h (monitorOnly_release s) (setupsKept_release s))
      (refresh_consequences _ _)
  | loseGuard =>
    exact gradesSound_of_consequences (gradesSound_monitorOnly h (monitorOnly_loseGuard s) (setupsKept_loseGuard s))
      (refresh_consequences _ _)
  | apply hne =>
    rw [doApplyPartition_kept]
    exact gradesSound_congr h rfl rfl (.of_ports rfl)
  | domainSetup n b =>
    rw [doDomainSetup_kept]
    exact gradesSound_congr h rfl rfl (.of_ports rfl)
  | restart cp reply _ =>
    refine gradesSound_congr
      (gradesSound_atReset s.straps (shunMsg (nodeIdOf s.straps)).bytes s.now s.freeCount s.pending) ?_ ?_ (.of_ports ?_)
    all_goals cases cp <;> rfl
  | outputSetup sh new => exact gradesSound_of_consequences (s := s.setOutput sh _) h (refresh_consequences _ _)
  | seam sh setup _ => exact gradesSound_of_consequences (s := s.takeSetup sh setup) h (refresh_consequences _ _)
  | send sh _ => exact h
  | sendEnd sh => exact h
  | rise pins => exact gradesSound_atReset _ _ _ _ _
  | pinUp _ => exact h
  | silence pins b => exact gradesSound_atReset pins (shunMsg (nodeIdOf pins)).bytes s.now s.freeCount s.pending

theorem gradesSound_elapse {s : State} (h : s.gradesSound) (d : Nat) : (s.elapse d).gradesSound := by
  rcases Nat.eq_zero_or_pos d with rfl | hd
  · rwa [elapse_zero]
  · rw [gradesSound_iff] at h ⊢
    intro p
    rw [elapse_grades_get s hd, elapse_ports_get s hd, show (s.elapse d).nodeId = s.nodeId by rw [elapse_only]]
    exact gradeFine_elapse (h p) d

/-- Settles O53: every change leaves grade records in their ranges and loop flags that agree with the traces. -/
theorem everyStepKeepsGradesSound : Obligations.EveryStepKeepsGradesSound := by
  intro s t hs h
  exact step_keeps (P := State.gradesSound) (fun _ _ h => h) (fun _ d h => gradesSound_elapse h d)
    (fun _ _ h hc => gradesSound_change h hc) hs h

end Sys2Proof.Machine
end

section
/-!
PROOFS. What one shelf's move does to the other shelves and which domain events it raises (R54, R78, R82): lending in turn,
and a summary `Moved` that every operation of Machine/Pool.lean and Machine/Moves.lean is shown to meet.
-/

namespace Sys2Proof.Machine

/-! ## Raised events (R54) -/

/-- From `s` to `t` exactly the kinds that `E` names have been raised: latched before, or named and not masked. -/
def Raises (s t : State) (E : DomainId → DomainEvent → Prop) : Prop :=
  ∀ (d : DomainId) (k : DomainEvent), t.masked d k = s.masked d k ∧
    (t.latched d k = true ↔ s.latched d k = true ∨ s.masked d k = false ∧ E d k)

theorem Raises.congr {s t : State} {E F : DomainId → DomainEvent → Prop} (h : Raises s t E) (hEF : ∀ d k, E d k ↔ F d k) :
    Raises s t F := fun d k => ⟨(h d k).1, by rw [← hEF d k]; exact (h d k).2⟩

theorem Raises.trans {s t u : State} {E F : DomainId → DomainEvent → Prop} (h : Raises s t E) (k : Raises t u F) :
    Raises s u (fun d e => E d e ∨ F d e) := by
  intro d e
  obtain ⟨hm, hl⟩ := h d e
  obtain ⟨km, kl⟩ := k d e
  refine ⟨km.trans hm, ?_⟩
  rw [kl, hl, hm]
  tauto

theorem raises_none {s t : State} (h : t.domainEvents = s.domainEvents) : Raises s t fun _ _ => False := by
  intro d k
  unfold State.masked State.latched
  rw [h]
  exact ⟨rfl, by simp⟩

theorem raises_raiseShelf (s : State) (sh : ShelfId) (e : DomainEvent) :
    Raises s (s.raiseShelf sh e) fun d k => s.shelfDomain sh = some d ∧ k = e := fun d k =>
  ⟨masked_raiseIn s _ _ _ _, by
    rw [State.raiseShelf, latched_raiseIn]
    constructor
    · rintro (h | ⟨hd, rfl, hm⟩)
      · exact .inl h
      · exact .inr ⟨hm, hd, rfl⟩
    · rintro (h | ⟨hm, hd, rfl⟩)
      · exact .inl h
      · exact .inr ⟨hd, rfl, hm⟩⟩

/-! ## Lending (R82) -/

theorem Lent.cases {s t : State} {x : ShelfId} (h : Lent s t x) :
    x ∈ s.queue ∧
      ((∃ b, s.shelves[x].state = .queued b ∧ t.shelves[x] =
          { s.shelves[x] with state := .acquire b (s.settleMs x), changed := true, valid := t.shelves[x].valid }) ∨
        ∃ c b cause, s.shelves[x].state = .locked c (some (b, cause)) ∧ t.shelves[x] =
          { s.shelves[x] with state := .acquire b (s.settleMs x), lastCause := some cause, changed := true,
                              valid := t.shelves[x].valid }) := by
  obtain ⟨hq, h⟩ := h
  refine ⟨hq, ?_⟩
  split at h
  · next b hb => exact .inl ⟨b, hb, h⟩
  · next c b cause hb => exact .inr ⟨c, b, cause, hb, h⟩
  · cases h

theorem Lent.queued {s t : State} {x : ShelfId} {b : PortId} (hq : x ∈ s.queue) (hs : s.shelves[x].state = .queued b)
    (ht : t.shelves[x] =
      { s.shelves[x] with state := .acquire b (s.settleMs x), changed := true, valid := t.shelves[x].valid }) :
    Lent s t x := by
  refine ⟨hq, ?_⟩
  rw [hs]
  exact ht

theorem Lent.locked {s t : State} {x : ShelfId} {c b : PortId} {cause : Cause} (hq : x ∈ s.queue)
    (hs : s.shelves[x].state = .locked c (some (b, cause)))
    (ht : t.shelves[x] =
      { s.shelves[x] with state := .acquire b (s.settleMs x), lastCause := some cause, changed := true,
                          valid := t.shelves[x].valid }) :
    Lent s t x := by
  refine ⟨hq, ?_⟩
  rw [hs]
  exact ht

/-- A shelf that was lent a unit is in ACQUIRE, and what it was is not. -/
theorem Lent.acquires {s t : State} {x : ShelfId} (h : Lent s t x) :
    t.shelves[x].state.isAcquire = true ∧ s.shelves[x].state.isAcquire = false := by
  obtain ⟨-, ⟨b, hs, ht⟩ | ⟨c, b, cause, hs, ht⟩⟩ := h.cases <;> rw [ht, hs] <;> exact ⟨rfl, rfl⟩

/-- Lending keeps a shelf's steering and learned time. -/
theorem Lent.kept {s t : State} {x : ShelfId} (h : Lent s t x) :
    t.shelves[x].steering = s.shelves[x].steering ∧ t.shelves[x].learned = s.shelves[x].learned ∧
      t.shelves[x].state.isHeld = s.shelves[x].state.isHeld ∧ t.shelves[x].state.isHoldover = false := by
  obtain ⟨-, ⟨b, hs, ht⟩ | ⟨c, b, cause, hs, ht⟩⟩ := h.cases <;> rw [ht, hs] <;> exact ⟨rfl, rfl, rfl, rfl⟩

/-- What a shelf record raises as it is lent a unit: SWITCH, where it was LOCKED (R96). -/
theorem Lent.raises {s t : State} {x : ShelfId} (h : Lent s t x) (k : DomainEvent) :
    shelfRaises s.shelves[x].state t.shelves[x].state false k = true ↔
      k = .switch ∧ s.shelves[x].state.isLocked = true := by
  obtain ⟨-, ⟨b, hs, ht⟩ | ⟨c, b, cause, hs, ht⟩⟩ := h.cases <;> rw [ht, hs] <;> cases k <;>
    simp [shelfRaises, ShelfState.isQueued, ShelfState.isAcquire, ShelfState.isLocked, ShelfState.isBridge,
      ShelfState.isHoldover, ShelfState.isFreerun]

/-- A shelf lent a unit and then left alone was lent a unit. -/
theorem Lent.same {s t u : State} {x : ShelfId} (h : Lent s t x) (hu : u.shelves[x] = t.shelves[x]) : Lent s u x := by
  obtain ⟨hq, ⟨b, hs, ht⟩ | ⟨c, b, cause, hs, ht⟩⟩ := h.cases
  · exact .queued hq hs (by rw [hu]; exact ht)
  · exact .locked hq hs (by rw [hu]; exact ht)

/-- A shelf left alone in its place and then lent a unit was lent a unit. -/
theorem Lent.after {s t u : State} {x : ShelfId} (h : Lent t u x) (hc : Consequences s t) (hq : x ∈ s.queue)
    (ht : t.shelves[x] = s.shelves[x]) : Lent s u x := by
  obtain ⟨-, ⟨b, hs, hu⟩ | ⟨c, b, cause, hs, hu⟩⟩ := h.cases
  · rw [ht] at hs
    exact .queued hq hs (by rw [ht, hc.settleMs] at hu; exact hu)
  · rw [ht] at hs
    exact .locked hq hs (by rw [ht, hc.settleMs] at hu; exact hu)

/-- From `s` to `t` nothing happens but that waiting shelves are lent units. -/
structure Lending (s t : State) : Prop where
  moves : Moves s t
  shelves : ∀ x : ShelfId, t.shelves[x] = s.shelves[x] ∨ Lent s t x
  queue : ∀ x ∈ t.queue, x ∈ s.queue
  events : Raises s t fun d k => ∃ x : ShelfId, s.shelfDomain x = some d ∧
    shelfRaises s.shelves[x].state t.shelves[x].state false k = true

/-- Shelves that are each left alone or lent a unit, twice. -/
theorem lent_or_same_trans {s t u : State} {x : ShelfId} (hc : Consequences s t) (hq : x ∈ t.queue → x ∈ s.queue)
    (h : t.shelves[x] = s.shelves[x] ∨ Lent s t x) (k : u.shelves[x] = t.shelves[x] ∨ Lent t u x) :
    u.shelves[x] = s.shelves[x] ∨ Lent s u x := by
  rcases h with h | h <;> rcases k with k | k
  · exact .inl (k.trans h)
  · exact .inr (k.after hc (hq k.1) h)
  · exact .inr (h.same k)
  · exact absurd h.acquires.1 (by rw [k.acquires.2]; exact Bool.false_ne_true)

/-- What they raise in all is what they raise in turn. -/
theorem lent_or_same_raises {s t u : State} {x : ShelfId} (k : DomainEvent)
    (h : t.shelves[x] = s.shelves[x] ∨ Lent s t x) (h' : u.shelves[x] = t.shelves[x] ∨ Lent t u x) :
    shelfRaises s.shelves[x].state u.shelves[x].state false k = true ↔
      shelfRaises s.shelves[x].state t.shelves[x].state false k = true ∨
        shelfRaises t.shelves[x].state u.shelves[x].state false k = true := by
  rcases h with h | h <;> rcases h' with h' | h'
  · rw [h', h, shelfRaises_self]; simp
  · rw [h, shelfRaises_self]; simp
  · rw [h', shelfRaises_self]; simp
  · exact absurd h.acquires.1 (by rw [h'.acquires.2]; exact Bool.false_ne_true)

theorem Lending.refl (s : State) : Lending s s where
  moves := .refl s
  shelves := fun _ => .inl rfl
  queue := fun _ => id
  events := (raises_none rfl).congr fun d k => by simp [shelfRaises_self]

theorem Lending.trans {s t u : State} (h : Lending s t) (k : Lending t u) : Lending s u where
  moves := h.moves.trans k.moves
  shelves := fun x => lent_or_same_trans h.moves.consequences (h.queue x) (h.shelves x) (k.shelves x)
  queue := fun x hx => h.queue x (k.queue x hx)
  events := (h.events.trans k.events).congr fun d e => by
    simp only [h.moves.consequences.shelfDomain]
    constructor
    · rintro (⟨x, hd, hr⟩ | ⟨x, hd, hr⟩)
      · exact ⟨x, hd, (lent_or_same_raises e (h.shelves x) (k.shelves x)).mpr (.inl hr)⟩
      · exact ⟨x, hd, (lent_or_same_raises e (h.shelves x) (k.shelves x)).mpr (.inr hr)⟩
    · rintro ⟨x, hd, hr⟩
      exact ((lent_or_same_raises e (h.shelves x) (k.shelves x)).mp hr).imp (fun h => ⟨x, hd, h⟩) fun h => ⟨x, hd, h⟩

/-! ## A shelf enters a state -/

theorem raiseShelfOpt_eq_raiseIn (s : State) (sh : ShelfId) (k : DomainEvent) :
    s.raiseShelf? sh (some k) = s.raiseShelf sh k := rfl

/-- A shelf's record after it has entered a state (R77). -/
def Shelf.entered (r : Shelf) (st : ShelfState) (cause : Option Cause) : Shelf :=
  { r with state := st, changed := true, lastCause := cause.or r.lastCause }

theorem enterState_get (s : State) (sh x : ShelfId) (st : ShelfState) (cause : Option Cause) (e : Option DomainEvent) :
    (s.enterState sh st cause e).shelves[x] = if sh = x then s.shelves[sh].entered st cause else s.shelves[x] := by
  have h : (s.enterState sh st cause e).shelves = (s.setShelf sh (s.shelves[sh].entered st cause)).shelves :=
    raiseShelfOpt_shelves _ _ _
  rw [h, setShelf_get]

theorem enterState_self (s : State) (sh : ShelfId) (st : ShelfState) (cause : Option Cause) (e : Option DomainEvent) :
    (s.enterState sh st cause e).shelves[sh] = s.shelves[sh].entered st cause := by
  rw [enterState_get, if_pos rfl]

@[simp] theorem enterState_units (s : State) (sh : ShelfId) (st : ShelfState) (cause : Option Cause)
    (e : Option DomainEvent) : (s.enterState sh st cause e).units = s.units := raiseShelfOpt_units _ _ _

@[simp] theorem enterState_queue (s : State) (sh : ShelfId) (st : ShelfState) (cause : Option Cause)
    (e : Option DomainEvent) : (s.enterState sh st cause e).queue = s.queue := raiseShelfOpt_queue _ _ _

theorem raises_raiseShelfOpt (s : State) (sh : ShelfId) (e : Option DomainEvent) :
    Raises s (s.raiseShelf? sh e) fun d k => s.shelfDomain sh = some d ∧ k ∈ e := by
  cases e with
  | none => exact (raises_none rfl).congr fun d k => by simp
  | some e => exact (raises_raiseShelf s sh e).congr fun d k => by simp [eq_comm]

/-- Entering a state raises the event given and no other (R78). -/
theorem raises_enterState (s : State) (sh : ShelfId) (st : ShelfState) (cause : Option Cause) (e : Option DomainEvent) :
    Raises s (s.enterState sh st cause e) fun d k => s.shelfDomain sh = some d ∧ k ∈ e := by
  have h := raises_raiseShelfOpt (s.setShelf sh (s.shelves[sh].entered st cause)) sh e
  exact fun d k => h d k

/-- A unit lent to the head of the queue (R82). -/
theorem grant_lending {s : State} {sh : ShelfId} {rest : List ShelfId} (hq : s.queue = sh :: rest) (u : UnitId) :
    Lending s ((s.setQueue rest).grant sh u) := by
  have hmem : sh ∈ s.queue := by rw [hq]; exact .head _
  have hrest : ∀ x ∈ rest, x ∈ s.queue := fun x hx => by rw [hq]; exact .tail _ hx
  have hmoves : Moves s ((s.setQueue rest).grant sh u) := (moves_setQueue s rest).trans (moves_grant _ sh u)
  unfold State.grant at hmoves ⊢
  have hget : ∀ (x : ShelfId) (st : ShelfState) (cause : Option Cause) (e : Option DomainEvent),
      (((s.setQueue rest).setUnit u (some sh)).enterState sh st cause e).shelves[x] =
        if sh = x then s.shelves[sh].entered st cause else s.shelves[x] := fun x st cause e => enterState_get _ sh x st cause e
  have hraises : ∀ (st : ShelfState) (cause : Option Cause) (e : Option DomainEvent),
      Raises s (((s.setQueue rest).setUnit u (some sh)).enterState sh st cause e)
        fun d k => s.shelfDomain sh = some d ∧ k ∈ e := fun st cause e d k => raises_enterState _ sh st cause e d k
  split at hmoves
  · next b hb =>
    have hb : s.shelves[sh].state = .queued b := hb
    have hown := hget sh (.acquire b (s.settleMs sh)) none none
    rw [if_pos rfl] at hown
    have hlent : Lent s (((s.setQueue rest).setUnit u (some sh)).enterState sh (.acquire b (s.settleMs sh)) none none) sh :=
      .queued hmem hb (by rw [hown]; rfl)
    refine ⟨hmoves, fun x => ?_, fun x hx => hrest x ?_, (hraises _ _ _).congr fun d k => ?_⟩
    · by_cases hx : sh = x
      · exact .inr (hx ▸ hlent)
      · exact .inl ((hget x _ _ _).trans (if_neg hx))
    · rw [enterState_queue] at hx
      exact hx
    · refine ⟨fun h => by simp at h, ?_⟩
      rintro ⟨x, -, hr⟩
      by_cases hx : sh = x
      · subst hx
        obtain ⟨-, hl⟩ := (hlent.raises k).mp hr
        rw [hb] at hl
        cases hl
      · have he := (hget x (.acquire b (s.settleMs sh)) none none).trans (if_neg hx)
        exact absurd hr (by erw [he]; rw [shelfRaises_self]; exact Bool.false_ne_true)
  · next c b cause hb =>
    have hb : s.shelves[sh].state = .locked c (some (b, cause)) := hb
    have hown := hget sh (.acquire b (s.settleMs sh)) (some cause) (some .switch)
    rw [if_pos rfl] at hown
    have hlent : Lent s (((s.setQueue rest).setUnit u (some sh)).enterState sh (.acquire b (s.settleMs sh)) (some cause)
        (some .switch)) sh := .locked hmem hb (by rw [hown]; rfl)
    refine ⟨hmoves, fun x => ?_, fun x hx => hrest x ?_, (hraises _ _ _).congr fun d k => ?_⟩
    · by_cases hx : sh = x
      · exact .inr (hx ▸ hlent)
      · exact .inl ((hget x _ _ _).trans (if_neg hx))
    · rw [enterState_queue] at hx
      exact hx
    · constructor
      · rintro ⟨hd, hk⟩
        refine ⟨sh, hd, (hlent.raises k).mpr ⟨by simpa [eq_comm] using hk, ?_⟩⟩
        rw [hb]
        rfl
      · rintro ⟨x, hd, hr⟩
        by_cases hx : sh = x
        · subst hx
          exact ⟨hd, by rw [((hlent.raises k).mp hr).1]; rfl⟩
        · have he := (hget x (.acquire b (s.settleMs sh)) (some cause) (some .switch)).trans (if_neg hx)
          exact absurd hr (by erw [he]; rw [shelfRaises_self]; exact Bool.false_ne_true)
  · refine ⟨hmoves, fun _ => .inl rfl, hrest, (raises_none rfl).congr fun d k => ?_⟩
    simp only [setQueue_shelves, shelfRaises_self, Bool.false_eq_true, and_false, exists_false]

theorem lendOne_lending (s : State) : Lending s s.lendOne := by
  unfold State.lendOne
  split
  · next sh rest u hq _ => exact grant_lending hq u
  · exact .refl s

theorem lendTimes_lending (n : Nat) (s : State) : Lending s (State.lendTimes n s) := by
  induction n generalizing s with
  | zero => exact .refl s
  | succ n ih => exact (lendOne_lending s).trans (ih _)

theorem lend_lending (s : State) : Lending s s.lend := lendTimes_lending 6 s

end Sys2Proof.Machine
end

section
/-!
PROOFS. The summary of one shelf's move, for every operation of Machine/Moves.lean: what it raises, what it leaves of the
other shelves, and what it keeps of the shelf's own record.
-/

namespace Sys2Proof.Machine

/-- From `s` to `t` shelf `sh` moves, raising the kinds of `K`, and no other shelf but for lendings. -/
structure Moved (s t : State) (sh : ShelfId) (K : List DomainEvent) : Prop where
  moves : Moves s t
  learned : t.shelves[sh].learned = s.shelves[sh].learned
  steering : t.shelves[sh].steering = s.shelves[sh].steering ∨ .steerLost ∈ K ∧ t.shelves[sh].steering = .auto
  held : t.shelves[sh].state.isHeld = s.shelves[sh].state.isHeld
  rests : t.shelves[sh].state.isHoldover = true → s.shelves[sh].state.isHoldover = true ∨ s.holdoverValid sh = true
  others : ∀ x : ShelfId, x ≠ sh → t.shelves[x] = s.shelves[x] ∨ Lent s t x
  queue : ∀ x : ShelfId, x ≠ sh → x ∈ t.queue → x ∈ s.queue
  events : Raises s t fun d k => s.shelfDomain sh = some d ∧ k ∈ K ∨ ∃ x : ShelfId, x ≠ sh ∧ s.shelfDomain x = some d ∧
    shelfRaises s.shelves[x].state t.shelves[x].state false k = true

theorem Moved.refl (s : State) (sh : ShelfId) : Moved s s sh [] where
  moves := .refl s
  learned := rfl
  steering := .inl rfl
  held := rfl
  rests := .inl
  others := fun _ _ => .inl rfl
  queue := fun _ _ => id
  events := (raises_none rfl).congr fun d k => by simp [shelfRaises_self]

theorem Moved.trans {s t u : State} {sh : ShelfId} {K L : List DomainEvent} (h : Moved s t sh K) (k : Moved t u sh L) :
    Moved s u sh (K ++ L) where
  moves := h.moves.trans k.moves
  learned := k.learned.trans h.learned
  steering := by
    rcases k.steering with e | ⟨hL, e⟩
    · rcases h.steering with e' | ⟨hK, e'⟩
      · exact .inl (e.trans e')
      · exact .inr ⟨List.mem_append_left _ hK, e.trans e'⟩
    · exact .inr ⟨List.mem_append_right _ hL, e⟩
  held := k.held.trans h.held
  rests := fun hu => by
    rcases k.rests hu with ht | ht
    · exact h.rests ht
    · exact .inr (by rwa [h.moves.consequences.holdoverValid h.learned] at ht)
  others := fun x hx => lent_or_same_trans h.moves.consequences (h.queue x hx) (h.others x hx) (k.others x hx)
  queue := fun x hx hu => h.queue x hx (k.queue x hx hu)
  events := (h.events.trans k.events).congr fun d e => by
    simp only [h.moves.consequences.shelfDomain, List.mem_append]
    constructor
    · rintro ((⟨hd, hK⟩ | ⟨x, hx, hd, hr⟩) | (⟨hd, hL⟩ | ⟨x, hx, hd, hr⟩))
      · exact .inl ⟨hd, .inl hK⟩
      · exact .inr ⟨x, hx, hd, (lent_or_same_raises e (h.others x hx) (k.others x hx)).mpr (.inl hr)⟩
      · exact .inl ⟨hd, .inr hL⟩
      · exact .inr ⟨x, hx, hd, (lent_or_same_raises e (h.others x hx) (k.others x hx)).mpr (.inr hr)⟩
    · rintro (⟨hd, hK | hL⟩ | ⟨x, hx, hd, hr⟩)
      · exact .inl (.inl ⟨hd, hK⟩)
      · exact .inr (.inl ⟨hd, hL⟩)
      · exact ((lent_or_same_raises e (h.others x hx) (k.others x hx)).mp hr).imp (fun h => .inr ⟨x, hx, hd, h⟩)
          fun h => .inr ⟨x, hx, hd, h⟩

/-- A move that raises nothing, before or after another. -/
theorem Moved.then {s t u : State} {sh : ShelfId} {K : List DomainEvent} (h : Moved s t sh []) (k : Moved t u sh K) :
    Moved s u sh K := h.trans k

theorem Moved.quiet {s t u : State} {sh : ShelfId} {K : List DomainEvent} (h : Moved s t sh K) (k : Moved t u sh []) :
    Moved s u sh K := by simpa using h.trans k

/-- The kinds may be listed otherwise. -/
theorem Moved.kinds {s t : State} {sh : ShelfId} {K L : List DomainEvent} (h : Moved s t sh K) (hKL : ∀ k, k ∈ K ↔ k ∈ L) :
    Moved s t sh L where
  moves := h.moves
  learned := h.learned
  steering := h.steering.imp_right fun ⟨hk, e⟩ => ⟨(hKL _).mp hk, e⟩
  held := h.held
  rests := h.rests
  others := h.others
  queue := h.queue
  events := h.events.congr fun d k => by rw [hKL]

/-! ## What follows from a move -/

/-- Every kind of the list is raised in the shelf's domain (R54, R78). -/
theorem Moved.raised {s t : State} {sh : ShelfId} {K : List DomainEvent} (h : Moved s t sh K) {k : DomainEvent} (hk : k ∈ K) :
    Raised s t sh k := fun d hd hm => ((h.events d k).2).mpr (.inr ⟨hm, .inl ⟨hd, hk⟩⟩)

theorem Moved.undisturbed {s t : State} {sh : ShelfId} {K : List DomainEvent} (h : Moved s t sh K) :
    ∀ x : ShelfId, x ≠ sh → Undisturbed s t x := fun x hx => by
  rcases h.others x hx with e | e
  · exact .inl (by unfold ShelfKept; rw [e]; exact ⟨rfl, .inl rfl⟩)
  · exact .inr e

/-- The other shelves keep their steering. -/
theorem Moved.others_steering {s t : State} {sh x : ShelfId} {K : List DomainEvent} (h : Moved s t sh K) (hx : x ≠ sh) :
    t.shelves[x].steering = s.shelves[x].steering := by
  rcases h.others x hx with e | e
  · rw [e]
  · exact e.kept.1

/-- A shelf lost its steering: it is under AUTO and was not (R127, R131). -/
def steeringLost (s t : State) (sh : ShelfId) : Bool :=
  s.shelves[sh].steering != .auto && t.shelves[sh].steering == .auto

theorem steeringLost_same {s t : State} {sh : ShelfId} (h : t.shelves[sh].steering = s.shelves[sh].steering) :
    steeringLost s t sh = false := by
  unfold steeringLost
  rw [h, bne]
  cases (s.shelves[sh].steering == .auto) <;> rfl

/-- Where the kinds of the list are those of the shelf's change, exactly the events of the moves are raised (R54, R78). -/
theorem Moved.eventsOfMoves {s t : State} {sh : ShelfId} {K : List DomainEvent} (h : Moved s t sh K)
    (hK : ∀ k, k ∈ K ↔ shelfRaises s.shelves[sh].state t.shelves[sh].state (steeringLost s t sh) k = true) :
    EventsOfMoves s t := h.events.congr fun d k => by
  have hother : ∀ x, x ≠ sh → steeringLost s t x = false := fun x hx => steeringLost_same (h.others_steering hx)
  constructor
  · rintro (⟨hd, hk⟩ | ⟨x, hx, hd, hr⟩)
    · exact ⟨sh, hd, (hK k).mp hk⟩
    · exact ⟨x, hd, by have := hother x hx; unfold steeringLost at this; rw [this]; exact hr⟩
  · rintro ⟨x, hd, hr⟩
    by_cases hx : x = sh
    · subst hx
      exact .inl ⟨hd, (hK k).mpr hr⟩
    · exact .inr ⟨x, hx, hd, by have := hother x hx; unfold steeringLost at this; rw [this] at hr; exact hr⟩

/-! ## Single writes -/

/-- The shelf's own record is written. -/
theorem moved_setShelf (s : State) {sh : ShelfId} {r : Shelf} (hl : r.learned = s.shelves[sh].learned)
    (hsteer : r.steering = s.shelves[sh].steering) (hheld : r.state.isHeld = s.shelves[sh].state.isHeld)
    (hrest : r.state.isHoldover = true → s.shelves[sh].state.isHoldover = true ∨ s.holdoverValid sh = true) :
    Moved s (s.setShelf sh r) sh [] where
  moves := moves_setShelf s sh r
  learned := by rw [setShelf_get_self]; exact hl
  steering := .inl (by rw [setShelf_get_self]; exact hsteer)
  held := by rw [setShelf_get_self]; exact hheld
  rests := by rw [setShelf_get_self]; exact hrest
  others := fun x hx => .inl (setShelf_get_ne s sh x r hx.symm)
  queue := fun _ _ => id
  events := (raises_none rfl).congr fun d k => by
    simp only [List.not_mem_nil, and_false, false_or, false_iff, not_exists, not_and]
    intro x hx _
    rw [setShelf_get_ne s sh x r hx.symm, shelfRaises_self]
    exact Bool.false_ne_true

theorem moved_raiseShelf (s : State) (sh : ShelfId) (e : Option DomainEvent) : Moved s (s.raiseShelf? sh e) sh e.toList where
  moves := moves_raiseShelfOpt s sh e
  learned := by rw [raiseShelfOpt_shelves]
  steering := .inl (by rw [raiseShelfOpt_shelves])
  held := by rw [raiseShelfOpt_shelves]
  rests := by rw [raiseShelfOpt_shelves]; exact .inl
  others := fun x _ => .inl (by rw [raiseShelfOpt_shelves])
  queue := fun x _ => by rw [raiseShelfOpt_queue]; exact id
  events := (raises_raiseShelfOpt s sh e).congr fun d k => by
    simp only [raiseShelfOpt_shelves, shelfRaises_self, Bool.false_eq_true, and_false, exists_false, or_false,
      Option.mem_toList, Option.mem_def]

theorem moved_enterState (s : State) {sh : ShelfId} {st : ShelfState} (cause : Option Cause) (e : Option DomainEvent)
    (hheld : st.isHeld = s.shelves[sh].state.isHeld)
    (hrest : st.isHoldover = true → s.shelves[sh].state.isHoldover = true ∨ s.holdoverValid sh = true) :
    Moved s (s.enterState sh st cause e) sh e.toList :=
  (moved_setShelf s (r := s.shelves[sh].entered st cause) rfl rfl hheld hrest).then (moved_raiseShelf _ sh e)

theorem moved_setQueue (s : State) (sh : ShelfId) {q : List ShelfId} (h : ∀ x, x ≠ sh → x ∈ q → x ∈ s.queue) :
    Moved s (s.setQueue q) sh [] where
  moves := moves_setQueue s q
  learned := rfl
  steering := .inl rfl
  held := rfl
  rests := .inl
  others := fun _ _ => .inl rfl
  queue := h
  events := (raises_none rfl).congr fun d k => by simp [shelfRaises_self]

theorem moved_leaveQueue (s : State) (sh : ShelfId) : Moved s (s.leaveQueue sh) sh [] :=
  moved_setQueue s sh fun _ _ hx => (List.mem_filter.mp hx).1

theorem moved_reclaim (s : State) (sh : ShelfId) : Moved s (s.reclaim sh) sh [] where
  moves := moves_reclaim s sh
  learned := rfl
  steering := .inl rfl
  held := rfl
  rests := .inl
  others := fun _ _ => .inl rfl
  queue := fun _ _ => id
  events := (raises_none rfl).congr fun d k => by simp [State.reclaim, shelfRaises_self]

/-- Lending, as it bears on one shelf: `K` is what that shelf raises. -/
theorem Lending.moved {s t : State} (h : Lending s t) {sh : ShelfId} {K : List DomainEvent}
    (hK : ∀ k, k ∈ K ↔ shelfRaises s.shelves[sh].state t.shelves[sh].state false k = true) : Moved s t sh K where
  moves := h.moves
  learned := (h.shelves sh).elim (fun e => by rw [e]) fun e => e.kept.2.1
  steering := .inl ((h.shelves sh).elim (fun e => by rw [e]) fun e => e.kept.1)
  held := (h.shelves sh).elim (fun e => by rw [e]) fun e => e.kept.2.2.1
  rests := fun ht => (h.shelves sh).elim (fun e => .inl (by rwa [e] at ht)) fun e => by
    rw [e.kept.2.2.2] at ht
    cases ht
  others := fun x _ => h.shelves x
  queue := fun x _ => h.queue x
  events := h.events.congr fun d k => by
    rw [hK]
    constructor
    · rintro ⟨x, hd, hr⟩
      by_cases hx : x = sh
      · subst hx
        exact .inl ⟨hd, hr⟩
      · exact .inr ⟨x, hx, hd, hr⟩
    · rintro (⟨hd, hr⟩ | ⟨x, -, hd, hr⟩)
      · exact ⟨sh, hd, hr⟩
      · exact ⟨x, hd, hr⟩

/-- Lending that leaves the shelf alone. -/
theorem Lending.moved_same {s t : State} (h : Lending s t) {sh : ShelfId} (hs : t.shelves[sh] = s.shelves[sh]) :
    Moved s t sh [] := h.moved fun k => by rw [hs, shelfRaises_self]; simp

/-- A shelf that does not wait is left alone by lending. -/
theorem Lending.shelf_of_not_waits {s t : State} (h : Lending s t) {sh : ShelfId} (hw : s.shelves[sh].state.waits = false) :
    t.shelves[sh] = s.shelves[sh] := by
  refine (h.shelves sh).resolve_right fun hl => ?_
  obtain ⟨-, ⟨b, hs, -⟩ | ⟨c, b, cause, hs, -⟩⟩ := hl.cases <;> rw [hs] at hw <;> cases hw

/-! ## Leaving the pool -/

theorem freeUnit_lending (s : State) (sh : ShelfId) : Lending (s.reclaim sh) (s.freeUnit sh) := lend_lending _

theorem freeUnit_shelf {s : State} {sh : ShelfId} (hw : s.shelves[sh].state.waits = false) :
    (s.freeUnit sh).shelves[sh] = s.shelves[sh] := (freeUnit_lending s sh).shelf_of_not_waits hw

theorem moved_freeUnit {s : State} {sh : ShelfId} (hw : s.shelves[sh].state.waits = false) :
    Moved s (s.freeUnit sh) sh [] :=
  (moved_reclaim s sh).then ((freeUnit_lending s sh).moved_same (freeUnit_shelf hw))

theorem waits_of_isAcquire {st : ShelfState} (h : st.isAcquire = true) : st.waits = false := by
  cases st <;> first | rfl | cases h

theorem leaveAcquire_shelf (s : State) (sh : ShelfId) : (s.leaveAcquire sh).shelves[sh] = s.shelves[sh] := by
  unfold State.leaveAcquire
  split
  · next h => exact freeUnit_shelf (waits_of_isAcquire h)
  · rfl

theorem moved_leaveAcquire (s : State) (sh : ShelfId) : Moved s (s.leaveAcquire sh) sh [] := by
  unfold State.leaveAcquire
  split
  · next h => exact moved_freeUnit (waits_of_isAcquire h)
  · exact .refl s sh

/-! ## Joining the queue (R80) -/

/-- The part with a shelf in the queue, at the tail or in the place it has. -/
def State.queued (s : State) (sh : ShelfId) : State :=
  if s.queue.contains sh then s else s.setQueue (s.queue ++ [sh])

theorem join_eq (s : State) (sh : ShelfId) : s.join sh = (s.queued sh).lend := rfl

theorem queued_shelves (s : State) (sh : ShelfId) : (s.queued sh).shelves = s.shelves := by
  unfold State.queued
  split <;> rfl

theorem moved_queued (s : State) (sh : ShelfId) : Moved s (s.queued sh) sh [] := by
  unfold State.queued
  split
  · exact .refl s sh
  · exact moved_setQueue s sh fun x hx hm => (List.mem_append.mp hm).resolve_right (by simpa using hx)

/-- A shelf that joins stays as it is, or is lent a unit. -/
theorem join_shelf (s : State) (sh : ShelfId) :
    (s.join sh).shelves[sh] = s.shelves[sh] ∨ Lent (s.queued sh) (s.join sh) sh := by
  rcases (lend_lending (s.queued sh)).shelves sh with h | h
  · rw [queued_shelves] at h
    exact .inl h
  · exact .inr h

theorem moved_join {s : State} {sh : ShelfId} {K : List DomainEvent}
    (hK : ∀ k, k ∈ K ↔ shelfRaises s.shelves[sh].state (s.join sh).shelves[sh].state false k = true) :
    Moved s (s.join sh) sh K :=
  (moved_queued s sh).then ((lend_lending (s.queued sh)).moved (by rw [queued_shelves]; exact hK))

/-- A QUEUED shelf that joins: still QUEUED, or in ACQUIRE (R82, R91). -/
theorem join_queued {s : State} {sh : ShelfId} {p : PortId} (h : s.shelves[sh].state = .queued p) :
    (s.join sh).shelves[sh].lastCause = s.shelves[sh].lastCause ∧
    ((s.join sh).shelves[sh].state = .queued p ∧ (s.join sh).shelves[sh].changed = s.shelves[sh].changed ∨
      (s.join sh).shelves[sh].state = .acquire p (s.settleMs sh) ∧ (s.join sh).shelves[sh].changed = true) := by
  rcases join_shelf s sh with e | e
  · rw [e]
    exact ⟨rfl, .inl ⟨h, rfl⟩⟩
  · obtain ⟨-, ⟨b, hs, ht⟩ | ⟨c, b, cause, hs, ht⟩⟩ := e.cases
    · rw [queued_shelves, h] at hs
      injection hs with hs
      subst hs
      rw [ht, queued_shelves, (moved_queued s sh).moves.consequences.settleMs]
      exact ⟨rfl, .inr ⟨rfl, rfl⟩⟩
    · rw [queued_shelves, h] at hs
      cases hs

/-- A LOCKED shelf with a pending target that joins: still LOCKED, or in ACQUIRE with the target's cause (R96). -/
theorem join_locked {s : State} {sh : ShelfId} {c b : PortId} {cause : Cause}
    (h : s.shelves[sh].state = .locked c (some (b, cause))) :
    (s.join sh).shelves[sh] = s.shelves[sh] ∨
      ((s.join sh).shelves[sh].state = .acquire b (s.settleMs sh) ∧
        (s.join sh).shelves[sh].lastCause = some cause ∧ (s.join sh).shelves[sh].changed = true) := by
  refine (join_shelf s sh).imp_right fun e => ?_
  obtain ⟨-, ⟨b', hs, ht⟩ | ⟨c', b', cause', hs, ht⟩⟩ := e.cases
  · rw [queued_shelves, h] at hs
    cases hs
  · rw [queued_shelves, h] at hs
    injection hs with _ hs
    injection hs with hs
    injection hs with hb hc
    subst hb hc
    rw [ht, (moved_queued s sh).moves.consequences.settleMs]
    exact ⟨rfl, rfl, rfl⟩

theorem moved_join_queued {s : State} {sh : ShelfId} {p : PortId} (h : s.shelves[sh].state = .queued p) :
    Moved s (s.join sh) sh [] := moved_join fun k => by
  rw [h]
  obtain ⟨-, ⟨e, -⟩ | ⟨e, -⟩⟩ := join_queued h <;> rw [e] <;> cases k <;> simp [shelfRaises, ShelfState.isQueued,
    ShelfState.isAcquire, ShelfState.isLocked, ShelfState.isBridge, ShelfState.isHoldover, ShelfState.isFreerun]

/-! ## The moves of chapter 5 -/

/-- What a move toward a port raises: SWITCH, unless the shelf was QUEUED (R78). -/
def towardKinds (st : ShelfState) : List DomainEvent := if st.isQueued then [] else [.switch]

section
variable {s : State} {sh : ShelfId}

theorem moved_toward (hheld : s.shelves[sh].state.isHeld = false) (t : PortId) (cause : Cause) :
    Moved s (s.toward sh t cause) sh (towardKinds s.shelves[sh].state) := by
  have henter := moved_enterState (s.leaveAcquire sh) (sh := sh) (st := .queued t) (some cause)
    (if s.shelves[sh].state.isQueued then none else some .switch) (by rw [leaveAcquire_shelf, hheld]; rfl) nofun
  have hkinds : (if s.shelves[sh].state.isQueued then none else some DomainEvent.switch).toList =
      towardKinds s.shelves[sh].state := by
    unfold towardKinds
    split <;> rfl
  rw [hkinds] at henter
  refine ((moved_leaveAcquire s sh).then henter).quiet (moved_join_queued (p := t) ?_)
  rw [enterState_self]
  rfl

/-- A shelf that goes toward a port is QUEUED or in ACQUIRE toward it, with the cause (R80, R84, R91). -/
theorem toward_shelf (s : State) (sh : ShelfId) (t : PortId) (cause : Cause) :
    ((s.toward sh t cause).shelves[sh].state = .queued t ∨
      (s.toward sh t cause).shelves[sh].state = .acquire t (s.settleMs sh)) ∧
    (s.toward sh t cause).shelves[sh].lastCause = some cause ∧ (s.toward sh t cause).shelves[sh].changed = true := by
  have hstate : ((s.leaveAcquire sh).enterState sh (.queued t) (some cause)
      (if s.shelves[sh].state.isQueued then none else some .switch)).shelves[sh] =
        ((s.leaveAcquire sh).shelves[sh].entered (.queued t) (some cause)) := enterState_self _ _ _ _ _
  have hsettle : ((s.leaveAcquire sh).enterState sh (.queued t) (some cause)
      (if s.shelves[sh].state.isQueued then none else some .switch)).settleMs sh = s.settleMs sh :=
    ((moves_leaveAcquire s sh).trans (moves_enterState _ _ _ _ _)).consequences.settleMs sh
  obtain ⟨hcause, hjoin⟩ := join_queued (p := t) (congrArg Shelf.state hstate)
  rw [hstate, hsettle] at hjoin
  rw [hstate] at hcause
  unfold State.toward
  refine ⟨hjoin.imp And.left And.left, hcause, ?_⟩
  rcases hjoin with ⟨-, h⟩ | ⟨-, h⟩ <;> exact h

/-- Resting raises HOLDOVER or FREERUN (R84, R110). -/
def restKind (s : State) (sh : ShelfId) : DomainEvent := if s.holdoverValid sh then .holdover else .freerun

/-- The state a shelf rests in. -/
def State.restState (s : State) (sh : ShelfId) : ShelfState :=
  if s.holdoverValid sh then .holdover (s.limitMs sh) else .freerun

theorem restState_not_held (s : State) (sh : ShelfId) : (s.restState sh).isHeld = false := by
  unfold State.restState
  split <;> rfl

theorem enterRest_eq (s : State) (sh : ShelfId) (cause : Option Cause) :
    s.enterRest sh cause = s.enterState sh (s.restState sh) cause (some (restKind s sh)) := by
  unfold State.enterRest State.restState restKind
  split <;> rfl

theorem moved_enterRest (hheld : s.shelves[sh].state.isHeld = false) (cause : Option Cause) :
    Moved s (s.enterRest sh cause) sh [restKind s sh] := by
  rw [enterRest_eq]
  refine moved_enterState s cause _ (by rw [restState_not_held, hheld]) fun h => .inr ?_
  unfold State.restState at h
  split at h
  · next hv => exact hv
  · cases h

/-- Leaving acquisition and queue, which a shelf does before it rests, is parked or bridges (R81, R83). -/
theorem moved_leavePool (s : State) (sh : ShelfId) : Moved s ((s.leaveAcquire sh).leaveQueue sh) sh [] :=
  (moved_leaveAcquire s sh).then (moved_leaveQueue _ sh)

theorem leavePool_shelf (s : State) (sh : ShelfId) : ((s.leaveAcquire sh).leaveQueue sh).shelves[sh] = s.shelves[sh] :=
  leaveAcquire_shelf s sh

/-- Resting depends on latch, settings and learned time alone. -/
theorem restState_leavePool (s : State) (sh : ShelfId) :
    ((s.leaveAcquire sh).leaveQueue sh).restState sh = s.restState sh ∧
      restKind ((s.leaveAcquire sh).leaveQueue sh) sh = restKind s sh := by
  have hc := (moved_leavePool s sh).moves.consequences
  have hv : ((s.leaveAcquire sh).leaveQueue sh).holdoverValid sh = s.holdoverValid sh :=
    hc.holdoverValid (by rw [leavePool_shelf])
  simp only [State.restState, restKind, hv, hc.limitMs, and_self]

theorem moved_rest (hheld : s.shelves[sh].state.isHeld = false) (cause : Cause) :
    Moved s (s.rest sh cause) sh [restKind s sh] := by
  have h := moved_enterRest (s := (s.leaveAcquire sh).leaveQueue sh) (sh := sh) (by rw [leavePool_shelf]; exact hheld)
    (some cause)
  rw [(restState_leavePool s sh).2] at h
  exact (moved_leavePool s sh).then h

/-- A shelf that rests (R84, R110). -/
theorem rest_shelf (s : State) (sh : ShelfId) (cause : Cause) :
    (s.rest sh cause).shelves[sh] = s.shelves[sh].entered (s.restState sh) (some cause) := by
  unfold State.rest
  rw [enterRest_eq, enterState_self, leavePool_shelf, (restState_leavePool s sh).1]

theorem not_mem_leaveQueue (s : State) (sh : ShelfId) : sh ∉ (s.leaveQueue sh).queue := by
  unfold State.leaveQueue
  simp

theorem rest_queue (s : State) (sh : ShelfId) (cause : Cause) :
    (s.rest sh cause).queue = ((s.leaveAcquire sh).leaveQueue sh).queue := by
  unfold State.rest
  rw [enterRest_eq, enterState_queue]

theorem not_mem_rest (s : State) (sh : ShelfId) (cause : Cause) : sh ∉ (s.rest sh cause).queue := by
  rw [rest_queue]
  exact not_mem_leaveQueue _ sh

/-- What a reselection raises (R78, R84). -/
def reselectKinds (s : State) (sh : ShelfId) : List DomainEvent :=
  if (s.choice sh).isSome then towardKinds s.shelves[sh].state else [restKind s sh]

theorem moved_reselect (hheld : s.shelves[sh].state.isHeld = false) (cause : Cause) :
    Moved s (s.reselect sh cause) sh (reselectKinds s sh) := by
  unfold State.reselect reselectKinds
  split
  · next t ht => simp only [ht, Option.isSome_some, if_true]; exact moved_toward hheld t cause
  · next ht => simp only [ht, Option.isSome_none, Bool.false_eq_true, if_false]; exact moved_rest hheld cause

/-- A LOCKED shelf whose pending target or reference is rewritten in LOCKED. -/
theorem moved_setLocked (hlocked : s.shelves[sh].state.isLocked = true) (c : PortId) (pend : Option (PortId × Cause)) :
    Moved s (s.setShelf sh { s.shelves[sh] with state := .locked c pend }) sh [] := by
  refine moved_setShelf s rfl rfl ?_ nofun
  show (ShelfState.locked c pend).isHeld = s.shelves[sh].state.isHeld
  cases h : s.shelves[sh].state <;> rw [h] at hlocked <;> first | rfl | cases hlocked

theorem moved_dropPending (hlocked : s.shelves[sh].state.isLocked = true) (c : PortId) :
    Moved s (s.dropPending sh c) sh [] := (moved_setLocked hlocked c none).then (moved_leaveQueue _ sh)

theorem dropPending_shelf (s : State) (sh : ShelfId) (c : PortId) :
    (s.dropPending sh c).shelves[sh] = { s.shelves[sh] with state := .locked c none } := by
  show (s.setShelf sh _).shelves[sh] = _
  rw [setShelf_get_self]

theorem not_mem_dropPending (s : State) (sh : ShelfId) (c : PortId) : sh ∉ (s.dropPending sh c).queue :=
  not_mem_leaveQueue _ sh

/-- A shelf that gains a pending target waits for it, or is lent a unit at once (R95, R96). -/
theorem gainPending_shelf (s : State) (sh : ShelfId) (c b : PortId) (cause : Cause) :
    (s.gainPending sh c b cause).shelves[sh] = { s.shelves[sh] with state := .locked c (some (b, cause)) } ∨
      ((s.gainPending sh c b cause).shelves[sh].state = .acquire b (s.settleMs sh) ∧
        (s.gainPending sh c b cause).shelves[sh].lastCause = some cause ∧
        (s.gainPending sh c b cause).shelves[sh].changed = true) := by
  have h := join_locked (s := s.setShelf sh { s.shelves[sh] with state := .locked c (some (b, cause)) }) (sh := sh)
    (by rw [setShelf_get_self])
  rw [setShelf_get_self] at h
  exact h

/-- What gaining a pending target raises: SWITCH where a unit is lent at once (R96). -/
def gainKinds (st : ShelfState) : List DomainEvent := if st.isAcquire then [.switch] else []

theorem moved_gainPending (hlocked : s.shelves[sh].state.isLocked = true) (c b : PortId) (cause : Cause) :
    Moved s (s.gainPending sh c b cause) sh (gainKinds (s.gainPending sh c b cause).shelves[sh].state) := by
  refine (moved_setLocked hlocked c (some (b, cause))).then ?_
  show Moved _ (State.join _ sh) sh _
  refine moved_join fun k => ?_
  have h := gainPending_shelf s sh c b cause
  unfold State.gainPending at h ⊢
  rw [setShelf_get_self]
  rcases h with e | ⟨e, -⟩
  · rw [e]
    simp [gainKinds, shelfRaises_self, ShelfState.isAcquire]
  · rw [e]
    cases k <;> simp [gainKinds, shelfRaises, ShelfState.isQueued, ShelfState.isAcquire, ShelfState.isLocked,
      ShelfState.isBridge, ShelfState.isHoldover, ShelfState.isFreerun]

theorem moved_bridge (hheld : s.shelves[sh].state.isHeld = false) (c : PortId) (cause : Cause) :
    Moved s (s.bridge sh c cause) sh [.bridge] :=
  (moved_leaveQueue s sh).then (moved_enterState _ (some cause) (some .bridge) hheld.symm nofun)

theorem bridge_shelf (s : State) (sh : ShelfId) (c : PortId) (cause : Cause) :
    (s.bridge sh c cause).shelves[sh] = s.shelves[sh].entered (.bridge c (s.shelfHoldOff sh)) (some cause) :=
  enterState_self _ _ _ _ _

theorem not_mem_bridge (s : State) (sh : ShelfId) (c : PortId) (cause : Cause) : sh ∉ (s.bridge sh c cause).queue := by
  unfold State.bridge
  rw [enterState_queue]
  exact not_mem_leaveQueue s sh

theorem moved_unbridge (hheld : s.shelves[sh].state.isHeld = false) (c : PortId) : Moved s (s.unbridge sh c) sh [] :=
  moved_enterState s none none hheld.symm nofun

theorem unbridge_shelf (s : State) (sh : ShelfId) (c : PortId) :
    (s.unbridge sh c).shelves[sh] = s.shelves[sh].entered (.locked c none) none := enterState_self _ _ _ _ _

theorem loseSteering_get (s : State) (sh x : ShelfId) :
    (s.loseSteering sh).shelves[x] = if sh = x then { s.shelves[sh] with steering := .auto } else s.shelves[x] := by
  have h : (s.loseSteering sh).shelves = (s.setShelf sh { s.shelves[sh] with steering := .auto }).shelves :=
    raiseShelfOpt_shelves _ sh (some .steerLost)
  rw [h, setShelf_get]

theorem loseSteering_self (s : State) (sh : ShelfId) :
    (s.loseSteering sh).shelves[sh] = { s.shelves[sh] with steering := .auto } := by rw [loseSteering_get, if_pos rfl]

theorem loseSteering_queue (s : State) (sh : ShelfId) : (s.loseSteering sh).queue = s.queue :=
  raiseShelfOpt_queue _ sh (some .steerLost)

theorem loseSteering_units (s : State) (sh : ShelfId) : (s.loseSteering sh).units = s.units :=
  raiseShelfOpt_units _ sh (some .steerLost)

/-- The part's taking of a steering (R127, R131). -/
theorem moved_loseSteering (s : State) (sh : ShelfId) : Moved s (s.loseSteering sh) sh [.steerLost] where
  moves := moves_loseSteering s sh
  learned := by rw [loseSteering_self]
  steering := .inr ⟨.head _, by rw [loseSteering_self]⟩
  held := by rw [loseSteering_self]
  rests := by rw [loseSteering_self]; exact .inl
  others := fun x hx => .inl (by rw [loseSteering_get, if_neg hx.symm])
  queue := fun x _ => by rw [loseSteering_queue]; exact id
  events := by
    refine Raises.congr (E := fun d k => s.shelfDomain sh = some d ∧ k = .steerLost)
      (fun d k => raises_raiseShelf (s.setSteering sh .auto) sh .steerLost d k) fun d k => ?_
    simp only [List.mem_singleton]
    refine ⟨.inl, fun h => h.resolve_right ?_⟩
    rintro ⟨x, hx, -, hr⟩
    rw [loseSteering_get, if_neg hx.symm, shelfRaises_self] at hr
    cases hr

end

end Sys2Proof.Machine
end

section
/-!
PROOFS. What a shelf does with its ranking (chapters 5 and 7): the relations of Safety.lean for AUTO, STEER and PIN, met by
the operations of Machine/Moves.lean, each with exactly its events.
-/

namespace Sys2Proof.Machine

/-! ## Which kinds a change of state raises (R78) -/

/-- A loss of steering adds STEER_LOST, and no other kind. -/
theorem shelfRaises_lost (a b : ShelfState) (lost : Bool) (k : DomainEvent) :
    shelfRaises a b lost k = true ↔ k = .steerLost ∧ lost = true ∨ shelfRaises a b false k = true := by
  cases k <;> simp [shelfRaises]

theorem shelfRaises_toward {a b : ShelfState} {t : PortId} {settle : Nat} (hb : b = .queued t ∨ b = .acquire t settle)
    (ha : ∀ q left, a = .acquire q left → q ≠ t) (k : DomainEvent) :
    k ∈ towardKinds a ↔ shelfRaises a b false k = true := by
  rcases hb with rfl | rfl <;> cases a <;> cases k <;>
    simp_all [towardKinds, shelfRaises, ShelfState.isQueued, ShelfState.isAcquire, ShelfState.isLocked,
      ShelfState.isBridge, ShelfState.isHoldover, ShelfState.isFreerun]

theorem shelfRaises_rest {s : State} {sh : ShelfId} {a : ShelfState} (ha : a.isHoldover = false) (hf : a.isFreerun = false)
    (k : DomainEvent) : k ∈ [restKind s sh] ↔ shelfRaises a (s.restState sh) false k = true := by
  unfold restKind State.restState
  split <;> cases k <;> simp_all [shelfRaises, ShelfState.isQueued, ShelfState.isAcquire, ShelfState.isLocked,
      ShelfState.isBridge, ShelfState.isHoldover, ShelfState.isFreerun]

theorem shelfRaises_bridge {a : ShelfState} (ha : a.isBridge = false) (c : PortId) (left : Nat) (k : DomainEvent) :
    k ∈ [DomainEvent.bridge] ↔ shelfRaises a (.bridge c left) false k = true := by
  cases k <;> simp_all [shelfRaises, ShelfState.isQueued, ShelfState.isAcquire, ShelfState.isLocked,
      ShelfState.isBridge, ShelfState.isHoldover, ShelfState.isFreerun]

/-- A shelf that comes to stand LOCKED from a state other than ACQUIRE raises nothing. -/
theorem shelfRaises_locked {a : ShelfState} (ha : a.isAcquire = false) (c : PortId) (pend : Option (PortId × Cause))
    (k : DomainEvent) : shelfRaises a (.locked c pend) false k = false := by
  cases k <;> simp_all [shelfRaises, ShelfState.isQueued, ShelfState.isAcquire, ShelfState.isLocked,
      ShelfState.isBridge, ShelfState.isHoldover, ShelfState.isFreerun]

/-- A shelf that was neither QUEUED nor in ACQUIRE and is lent a unit raises SWITCH. -/
theorem shelfRaises_acquire {a : ShelfState} (hq : a.isQueued = false) (ha : a.isAcquire = false) (t : PortId) (left : Nat)
    (k : DomainEvent) : shelfRaises a (.acquire t left) false k = true ↔ k = .switch := by
  cases a <;> cases k <;> simp_all [shelfRaises, ShelfState.isQueued, ShelfState.isAcquire, ShelfState.isLocked,
      ShelfState.isBridge, ShelfState.isHoldover, ShelfState.isFreerun]

/-! ## Moves with exactly their events -/

/-- A move of `sh` that keeps its steering and raises exactly what its change of state calls for (R78). -/
def Acts (s t : State) (sh : ShelfId) : Prop :=
  ∃ K, Moved s t sh K ∧ t.shelves[sh].steering = s.shelves[sh].steering ∧
    ∀ k, k ∈ K ↔ shelfRaises s.shelves[sh].state t.shelves[sh].state false k = true

theorem Acts.refl (s : State) (sh : ShelfId) : Acts s s sh :=
  ⟨[], .refl s sh, rfl, fun k => by rw [shelfRaises_self]; simp⟩

theorem Acts.eventsOfMoves {s t : State} {sh : ShelfId} (h : Acts s t sh) : EventsOfMoves s t := by
  obtain ⟨K, hm, hs, hK⟩ := h
  exact hm.eventsOfMoves fun k => by rw [steeringLost_same hs]; exact hK k

/-- Two moves in turn, where the change of state between raises nothing of its own. -/
theorem Acts.of_moved {s t : State} {sh : ShelfId} {K : List DomainEvent} (h : Moved s t sh K)
    (hs : t.shelves[sh].steering = s.shelves[sh].steering)
    (hK : ∀ k, k ∈ K ↔ shelfRaises s.shelves[sh].state t.shelves[sh].state false k = true) : Acts s t sh := ⟨K, h, hs, hK⟩

/-- The steering stands where STEER_LOST is not among the kinds. -/
theorem Moved.steering_kept {s t : State} {sh : ShelfId} {K : List DomainEvent} (h : Moved s t sh K) (hK : .steerLost ∉ K) :
    t.shelves[sh].steering = s.shelves[sh].steering := h.steering.resolve_right fun e => hK e.1

section
variable {s : State} {sh : ShelfId}

theorem steerLost_not_mem_towardKinds (st : ShelfState) : DomainEvent.steerLost ∉ towardKinds st := by
  unfold towardKinds
  split <;> simp

theorem steerLost_not_mem_rest (s : State) (sh : ShelfId) : DomainEvent.steerLost ∉ [restKind s sh] := by
  unfold restKind
  split <;> simp

theorem toward_steering (hheld : s.shelves[sh].state.isHeld = false) (t : PortId) (cause : Cause) :
    (s.toward sh t cause).shelves[sh].steering = s.shelves[sh].steering :=
  (moved_toward hheld t cause).steering_kept (steerLost_not_mem_towardKinds _)

theorem rest_steering (s : State) (sh : ShelfId) (cause : Cause) :
    (s.rest sh cause).shelves[sh].steering = s.shelves[sh].steering := by rw [rest_shelf]; rfl

theorem acts_toward (hheld : s.shelves[sh].state.isHeld = false) {t : PortId} (cause : Cause)
    (hq : ∀ q left, s.shelves[sh].state = .acquire q left → q ≠ t) : Acts s (s.toward sh t cause) sh :=
  .of_moved (moved_toward hheld t cause) (toward_steering hheld t cause) fun k =>
    shelfRaises_toward (toward_shelf s sh t cause).1 hq k

theorem goesToward_toward (hheld : s.shelves[sh].state.isHeld = false) (t : PortId) (cause : Cause) :
    GoesToward s (s.toward sh t cause) sh t cause := by
  obtain ⟨hstate, hcause, hchanged⟩ := toward_shelf s sh t cause
  refine ⟨hstate, hcause, hchanged, fun hq => (moved_toward hheld t cause).raised ?_⟩
  rw [towardKinds, hq]
  exact .head _

theorem acts_rest (hheld : s.shelves[sh].state.isHeld = false) (hho : s.shelves[sh].state.isHoldover = false)
    (hf : s.shelves[sh].state.isFreerun = false) (cause : Cause) : Acts s (s.rest sh cause) sh :=
  .of_moved (moved_rest hheld cause) (rest_steering s sh cause) fun k => by
    rw [rest_shelf]
    exact shelfRaises_rest hho hf k

theorem rests_rest (hheld : s.shelves[sh].state.isHeld = false) (cause : Cause) : Rests s (s.rest sh cause) sh cause := by
  refine ⟨?_, by rw [rest_shelf]; rfl, by rw [rest_shelf]; rfl, not_mem_rest s sh cause, ?_⟩
  · rw [rest_shelf]
    rfl
  · exact (moved_rest hheld cause).raised (.head _)

/-- Neither at rest nor HELD nor PARKED: a state in which a shelf names a port. -/
def ShelfState.names (st : ShelfState) : Bool := st.isQueued || st.isAcquire || st.isLocked || st.isBridge

theorem names_iff {st : ShelfState} : st.names = true ↔
    st.isHeld = false ∧ st.isParked = false ∧ st.isHoldover = false ∧ st.isFreerun = false := by
  cases st <;> simp [ShelfState.names, ShelfState.isQueued, ShelfState.isAcquire, ShelfState.isLocked,
      ShelfState.isBridge, ShelfState.isHoldover, ShelfState.isFreerun, ShelfState.isHeld, ShelfState.isParked]

/-- A reselection from a state that names a port, where the choice is not the target held (R84). -/
theorem acts_reselect (hn : s.shelves[sh].state.names = true) (cause : Cause)
    (hq : ∀ q left, s.shelves[sh].state = .acquire q left → s.choice sh ≠ some q) : Acts s (s.reselect sh cause) sh := by
  obtain ⟨hheld, -, hho, hf⟩ := names_iff.mp hn
  unfold State.reselect
  split
  · next t ht => exact acts_toward hheld cause fun q left e h => hq q left e (by rw [ht, h])
  · exact acts_rest hheld hho hf cause

theorem reselects_reselect (hheld : s.shelves[sh].state.isHeld = false) (cause : Cause) :
    Reselects s (s.reselect sh cause) sh (s.choice sh) cause := by
  unfold State.reselect Reselects
  cases h : s.choice sh with
  | some t => exact goesToward_toward hheld t cause
  | none => exact rests_rest hheld cause

theorem acts_bridge (hheld : s.shelves[sh].state.isHeld = false) (hb : s.shelves[sh].state.isBridge = false) (c : PortId)
    (cause : Cause) : Acts s (s.bridge sh c cause) sh :=
  .of_moved (moved_bridge hheld c cause) (by rw [bridge_shelf]; rfl) fun k => by
    rw [bridge_shelf]
    exact shelfRaises_bridge hb c _ k

theorem bridges_bridge (hheld : s.shelves[sh].state.isHeld = false) (c : PortId) (cause : Cause) :
    Bridges s (s.bridge sh c cause) sh c cause :=
  ⟨by rw [bridge_shelf]; rfl, by rw [bridge_shelf]; rfl, by rw [bridge_shelf]; rfl, not_mem_bridge s sh c cause,
    (moved_bridge hheld c cause).raised (.head _)⟩

theorem isLocked_others {st : ShelfState} (h : st.isLocked = true) :
    st.isHeld = false ∧ st.isQueued = false ∧ st.isAcquire = false := by
  cases st <;> first | exact ⟨rfl, rfl, rfl⟩ | cases h

theorem acts_gainPending (hlocked : s.shelves[sh].state.isLocked = true) (c b : PortId) (cause : Cause) :
    Acts s (s.gainPending sh c b cause) sh := by
  obtain ⟨-, hq, ha⟩ := isLocked_others hlocked
  refine .of_moved (moved_gainPending hlocked c b cause) ?_ fun k => ?_
  · refine (moved_gainPending hlocked c b cause).steering_kept ?_
    unfold gainKinds
    split <;> simp
  · rcases gainPending_shelf s sh c b cause with e | ⟨e, -⟩
    · rw [e, shelfRaises_locked ha]
      simp [gainKinds, ShelfState.isAcquire]
    · rw [e, shelfRaises_acquire hq ha]
      simp [gainKinds, ShelfState.isAcquire]

theorem acts_dropPending (hlocked : s.shelves[sh].state.isLocked = true) (c : PortId) : Acts s (s.dropPending sh c) sh :=
  .of_moved (moved_dropPending hlocked c) (by rw [dropPending_shelf]) fun k => by
    rw [dropPending_shelf, shelfRaises_locked (isLocked_others hlocked).2.2]
    simp

/-- A QUEUED shelf that follows its choice keeps its cause (R90). -/
theorem acts_retarget {q : PortId} (h : s.shelves[sh].state = .queued q) (b : PortId) :
    Acts s (s.enterState sh (.queued b) none none) sh :=
  .of_moved (moved_enterState s none none (by rw [h]; rfl) nofun) (by rw [enterState_self]; rfl) fun k => by
    rw [enterState_self, h]
    cases k <;> simp [Shelf.entered, shelfRaises, ShelfState.isQueued, ShelfState.isAcquire, ShelfState.isLocked,
      ShelfState.isBridge, ShelfState.isHoldover, ShelfState.isFreerun]

theorem acts_unbridge {c c' : PortId} {left : Nat} (h : s.shelves[sh].state = .bridge c' left) :
    Acts s (s.unbridge sh c) sh :=
  .of_moved (moved_unbridge (by rw [h]; rfl) c) (by rw [unbridge_shelf]; rfl) fun k => by
    rw [unbridge_shelf, h]
    show k ∈ [] ↔ shelfRaises (.bridge c' left) (.locked c none) false k = true
    rw [shelfRaises_locked rfl]
    simp

/-! ## The switch rule (R95, R96) -/

/-- A waiting shelf that lending leaves alone is still in the queue. -/
theorem lendTimes_mem {x : ShelfId} (n : Nat) {s : State} (hq : x ∈ s.queue) (hw : s.shelves[x].state.waits = true)
    (hsame : (State.lendTimes n s).shelves[x] = s.shelves[x]) : x ∈ (State.lendTimes n s).queue := by
  induction n generalizing s with
  | zero => exact hq
  | succ n ih =>
    have hlast := lendTimes_lending n s.lendOne
    have hone := (lendOne_lending s).shelves x
    have hkept : s.lendOne.shelves[x] = s.shelves[x] := by
      refine hone.resolve_right fun hl => ?_
      have hacq := hl.acquires.1
      have he : (State.lendTimes (n + 1) s).shelves[x] = s.lendOne.shelves[x] :=
        hlast.shelf_of_not_waits (waits_of_isAcquire hacq)
      rw [← he, hsame] at hacq
      rw [waits_of_isAcquire hacq] at hw
      cases hw
    have hmem : x ∈ s.lendOne.queue := by
      unfold State.lendOne at hkept ⊢
      split at hkept
      · next sh rest u hqueue hidle =>
        have hrest : ∀ y, y ∈ rest → y ∈ ((s.setQueue rest).grant sh u).queue := by
          intro y hy
          unfold State.grant
          split
          · rw [enterState_queue]; exact hy
          · rw [enterState_queue]; exact hy
          · exact hy
        by_cases hx : x = sh
        · subst hx
          have hacq : ((s.setQueue rest).grant x u).shelves[x].state.isAcquire = true := by
            unfold State.grant
            split
            · rw [enterState_self]; rfl
            · rw [enterState_self]; rfl
            · next h1 h2 =>
              have hst : (s.setQueue rest).shelves[x].state.waits = true := hw
              cases hcase : (s.setQueue rest).shelves[x].state with
              | queued t => exact absurd hcase (h1 t)
              | locked c pend =>
                cases pend with
                | some pair => exact absurd hcase (h2 c pair.1 pair.2)
                | none => rw [hcase] at hst; cases hst
              | held _ => rw [hcase] at hst; cases hst
              | parked => rw [hcase] at hst; cases hst
              | freerun => rw [hcase] at hst; cases hst
              | holdover _ => rw [hcase] at hst; cases hst
              | acquire _ _ => rfl
              | bridge _ _ => rw [hcase] at hst; cases hst
          rw [hkept] at hacq
          rw [waits_of_isAcquire hacq] at hw
          cases hw
        · rw [hqueue] at hq
          exact hrest x ((List.mem_cons.mp hq).resolve_left hx)
      · exact hq
    refine ih hmem (by rw [hkept]; exact hw) ?_
    rw [hkept]
    exact hsame

theorem mem_queued (s : State) (sh : ShelfId) : sh ∈ (s.queued sh).queue := by
  unfold State.queued
  split
  · next h => exact List.contains_iff_mem.mp h
  · exact List.mem_append_right _ (.head _)

/-- A shelf that waits on after it has joined stands in the queue. -/
theorem mem_join {s : State} {sh : ShelfId} (hw : s.shelves[sh].state.waits = true)
    (hsame : (s.join sh).shelves[sh] = s.shelves[sh]) : sh ∈ (s.join sh).queue :=
  lendTimes_mem (s := s.queued sh) 6 (mem_queued s sh) (by rw [queued_shelves]; exact hw) (by rw [queued_shelves]; exact hsame)

theorem gainPending_mem (s : State) (sh : ShelfId) (c b : PortId) (cause : Cause)
    (h : (s.gainPending sh c b cause).shelves[sh].state.isAcquire = false) : sh ∈ (s.gainPending sh c b cause).queue := by
  rcases gainPending_shelf s sh c b cause with e | ⟨e, -⟩
  · refine mem_join (by rw [setShelf_get_self]; rfl) ?_
    rw [setShelf_get_self]
    exact e
  · rw [e] at h
    cases h

theorem acts_applySwitchRule (hlocked : s.shelves[sh].state.isLocked = true) (c : PortId) :
    Acts s (s.applySwitchRule sh c) sh := by
  unfold State.applySwitchRule
  split
  · exact acts_gainPending hlocked c _ _
  · split
    · exact acts_dropPending hlocked c
    · exact .refl s sh

/-- The switch rule as Safety.lean states it, from the part `u` before the shelf came to stand LOCKED. -/
theorem appliesSwitchRule {u : State} (hmoved : Moved u s sh []) (hcause : s.shelves[sh].lastCause = u.shelves[sh].lastCause)
    {c : PortId} {pend : Option (PortId × Cause)} (hs : s.shelves[sh].state = .locked c pend) :
    AppliesSwitchRule u (s.applySwitchRule sh c) sh c := by
  have hc := hmoved.moves.consequences
  have hwanted : s.switchWanted sh c = u.switchWanted sh c := by
    unfold State.switchWanted
    rw [hc.shelfRecord, hc.sameInputs.eligibleList]
  have hlocked : s.shelves[sh].state.isLocked = true := by rw [hs]; rfl
  unfold AppliesSwitchRule State.applySwitchRule
  rw [hwanted]
  split
  · next h =>
    simp only [h]
    split
    · rw [dropPending_shelf]
      exact ⟨rfl, hcause⟩
    · next hp =>
      cases pend with
      | none => exact ⟨hs, hcause⟩
      | some _ => exact absurd (by rw [hs]; rfl) hp
  · next b cause h =>
    simp only [h]
    rcases hg : gainPending_shelf s sh c b cause with e | ⟨e, ec, eg⟩
    · refine .inl ⟨by rw [e], by rw [e]; exact hcause, gainPending_mem s sh c b cause (by rw [e]; rfl)⟩
    · refine .inr ⟨by rw [e, hc.settleMs], ec, eg, ?_⟩
      have hraised := (hmoved.then (moved_gainPending hlocked c b cause)).raised (k := .switch)
        (by rw [e]; exact .head _)
      exact hraised

theorem applySwitchRule_changed {c : PortId} (h : (s.applySwitchRule sh c).shelves[sh].state.isLocked = true) :
    (s.applySwitchRule sh c).shelves[sh].changed = s.shelves[sh].changed := by
  unfold State.applySwitchRule at h ⊢
  split
  · next b cause hw =>
    rw [hw] at h
    rcases gainPending_shelf s sh c b cause with e | ⟨e, -⟩
    · rw [e]
    · rw [e] at h
      cases h
  · split
    · rw [dropPending_shelf]
    · rfl

/-- The changed flag stays set. -/
theorem applySwitchRule_changed_set {c : PortId} (h : s.shelves[sh].changed = true) :
    (s.applySwitchRule sh c).shelves[sh].changed = true := by
  unfold State.applySwitchRule
  split
  · next b cause hw =>
    rcases gainPending_shelf s sh c b cause with e | ⟨-, -, e⟩
    · rw [e]; exact h
    · exact e
  · split
    · rw [dropPending_shelf]; exact h
    · exact h

end

end Sys2Proof.Machine
end

section
/-!
PROOFS. A shelf acts on its ranking under AUTO, after lost steering, under STEER and under PIN (R88 to R100, R126 to R131).
-/

namespace Sys2Proof.Machine

section
variable {s : State} {sh : ShelfId}

/-! ## AUTO -/

theorem choice_auto (h : s.shelves[sh].steering = .auto) : s.choice sh = s.best sh := by
  simp only [State.choice, h]

/-- The best candidate is not a port that is not eligible. -/
theorem best_ne {t : PortId} (h : ¬ s.eligible sh t = true) : s.best sh ≠ some t := fun hb => h (best_listed hb).1

theorem acts_loseReference {c : PortId} {pend : Option (PortId × Cause)} (h : s.shelves[sh].state = .locked c pend) (x : Ctx) :
    Acts s (s.loseReference sh c x) sh := by
  have hreselect : ∀ cause, Acts s (s.reselect sh cause) sh := fun cause =>
    acts_reselect (by rw [h]; rfl) cause fun q left e => by rw [h] at e; cases e
  unfold State.loseReference
  split
  · split
    · exact hreselect _
    · exact acts_bridge (by rw [h]; rfl) (by rw [h]; rfl) c _
  · exact hreselect _

theorem acts_actQueued {t : PortId} (h : s.shelves[sh].state = .queued t) (x : Ctx) : Acts s (s.actQueued sh t x) sh := by
  unfold State.actQueued
  split
  · exact acts_reselect (by rw [h]; rfl) _ fun q left e => by rw [h] at e; cases e
  · split
    · split
      · exact .refl s sh
      · exact acts_retarget h _
    · exact acts_rest (by rw [h]; rfl) (by rw [h]; rfl) (by rw [h]; rfl) _

theorem acts_actLocked {c : PortId} {pend : Option (PortId × Cause)} (h : s.shelves[sh].state = .locked c pend) (x : Ctx) :
    Acts s (s.actLocked sh c x) sh := by
  unfold State.actLocked
  split
  · exact acts_applySwitchRule (by rw [h]; rfl) c
  · exact acts_loseReference h x

/-- A return from BRIDGE and the switch rule are one change of state (R99). -/
theorem acts_unbridge_applySwitchRule {c : PortId} {left : Nat} (h : s.shelves[sh].state = .bridge c left) :
    Acts s ((s.unbridge sh c).applySwitchRule sh c) sh := by
  have hb : (s.unbridge sh c).shelves[sh].state = .locked c none := by rw [unbridge_shelf]; rfl
  obtain ⟨K, hm, hs, hK⟩ := acts_applySwitchRule (s := s.unbridge sh c) (sh := sh) (by rw [hb]; rfl) c
  refine .of_moved ((moved_unbridge (by rw [h]; rfl) c).then hm) (by rw [hs, unbridge_shelf]; rfl) fun k => ?_
  rw [hK, hb, h]
  cases ht : ((s.unbridge sh c).applySwitchRule sh c).shelves[sh].state <;> cases k <;>
    simp [shelfRaises, ShelfState.isQueued, ShelfState.isAcquire, ShelfState.isLocked,
      ShelfState.isBridge, ShelfState.isHoldover, ShelfState.isFreerun]
  have hlock := appliesSwitchRule (s := s.unbridge sh c) (.refl _ sh) rfl hb
  unfold AppliesSwitchRule at hlock
  rw [ht] at hlock
  split at hlock
  · cases hlock.1
  · rcases hlock with e | e
    · cases e.1
    · cases e.1

theorem acts_actBridge {c : PortId} {left : Nat} (h : s.shelves[sh].state = .bridge c left) (x : Ctx) :
    Acts s (s.actBridge sh c x) sh := by
  unfold State.actBridge
  split
  · exact acts_unbridge_applySwitchRule h
  · split
    · exact .refl s sh
    · exact acts_reselect (by rw [h]; rfl) _ fun q left e => by rw [h] at e; cases e

/-- A shelf under AUTO raises exactly what its change of state calls for. -/
theorem acts_actAuto (hsteer : s.shelves[sh].steering = .auto) (x : Ctx) : Acts s (s.actAuto sh x) sh := by
  unfold State.actAuto
  cases h : s.shelves[sh].state with
  | held _ => exact .refl s sh
  | parked => exact .refl s sh
  | freerun =>
    simp only
    split
    · exact acts_toward (by rw [h]; rfl) _ fun q left e => by rw [h] at e; cases e
    · exact .refl s sh
  | holdover _ =>
    simp only
    split
    · exact acts_toward (by rw [h]; rfl) _ fun q left e => by rw [h] at e; cases e
    · exact .refl s sh
  | queued t => exact acts_actQueued h x
  | acquire t left =>
    simp only
    split
    · exact .refl s sh
    · next hne =>
      refine acts_reselect (by rw [h]; rfl) _ fun q left e => ?_
      rw [h] at e
      injection e with e
      subst e
      rw [choice_auto hsteer]
      exact best_ne hne
  | locked c _ => exact acts_actLocked h x
  | bridge c _ => exact acts_actBridge h x

theorem Ctx.cause_none {x : Ctx} (h : x.forced = none) (c : Cause) : x.cause c = c := by rw [Ctx.cause, h]; rfl

theorem goesToward_choice (hsteer : s.shelves[sh].steering = .auto) (hheld : s.shelves[sh].state.isHeld = false)
    (cause : Cause) :
    match s.best sh with
    | some b => GoesToward s (match s.choice sh with | some t => s.toward sh t cause | none => s) sh b cause
    | none => (match s.choice sh with | some t => s.toward sh t cause | none => s) = s := by
  rw [choice_auto hsteer]
  cases s.best sh with
  | some b => exact goesToward_toward hheld b cause
  | none => rfl

theorem reselects_best (hsteer : s.shelves[sh].steering = .auto) (hheld : s.shelves[sh].state.isHeld = false)
    (cause : Cause) : Reselects s (s.reselect sh cause) sh (s.best sh) cause := by
  rw [← choice_auto hsteer]
  exact reselects_reselect hheld cause

theorem actsUnderAuto_locked (hsteer : s.shelves[sh].steering = .auto) {x : Ctx} (hx : x.forced = none) {c : PortId}
    {pend : Option (PortId × Cause)} (h : s.shelves[sh].state = .locked c pend) :
    ActsUnderAuto s (s.actLocked sh c x) sh x.strict := by
  unfold ActsUnderAuto
  simp only [h]
  by_cases he : s.eligible sh c = true
  · have hact : s.actLocked sh c x = s.applySwitchRule sh c := by rw [State.actLocked, if_pos he]
    rw [if_pos he, hact]
    refine ⟨appliesSwitchRule (.refl s sh) rfl h, fun hw hp => ?_, applySwitchRule_changed⟩
    simp only [State.applySwitchRule, hw, h, hp, ShelfState.pending?, Option.isSome_none, Bool.false_eq_true, if_false]
  · have hact : s.actLocked sh c x = s.loseReference sh c x := by rw [State.actLocked, if_neg he]
    rw [if_neg he, hact, State.loseReference]
    simp only [Ctx.cause_none hx]
    by_cases ha : s.admissible sh c = true
    · by_cases hh : s.shelfHoldOff sh = 0
      · rw [if_pos ha, if_pos hh, if_neg (fun e => e.2 hh), if_pos ha]
        exact reselects_best hsteer (by rw [h]; rfl) _
      · rw [if_pos ha, if_neg hh, if_pos ⟨ha, hh⟩]
        exact bridges_bridge (by rw [h]; rfl) c _
    · rw [if_neg ha, if_neg (fun e => ha e.1), if_neg ha]
      exact reselects_best hsteer (by rw [h]; rfl) _

theorem actsUnderAuto_bridge (hsteer : s.shelves[sh].steering = .auto) {x : Ctx} (hx : x.forced = none) {c : PortId}
    {left : Nat} (h : s.shelves[sh].state = .bridge c left) : ActsUnderAuto s (s.actBridge sh c x) sh x.strict := by
  unfold ActsUnderAuto
  simp only [h]
  by_cases he : s.eligible sh c = true
  · have hact : s.actBridge sh c x = (s.unbridge sh c).applySwitchRule sh c := by rw [State.actBridge, if_pos he]
    rw [if_pos he, hact]
    refine ⟨appliesSwitchRule (moved_unbridge (by rw [h]; rfl) c) (by rw [unbridge_shelf]; rfl)
      (by rw [unbridge_shelf]; rfl), applySwitchRule_changed_set ?_⟩
    rw [unbridge_shelf]
    rfl
  · rw [if_neg he, State.actBridge, if_neg he]
    simp only [Ctx.cause_none hx]
    split
    · rfl
    · have hcause : s.bridgeFailCause sh c = if s.sameDomain sh c = true then .ineligible else .partition := by
        unfold State.bridgeFailCause
        cases s.sameDomain sh c <;> rfl
      rw [hcause]
      exact reselects_best hsteer (by rw [h]; rfl) _

/-- A shelf under AUTO acts as R88 to R100 say. -/
theorem actsUnderAuto (hsteer : s.shelves[sh].steering = .auto) {x : Ctx} (hx : x.forced = none) :
    ActsUnderAuto s (s.actAuto sh x) sh x.strict := by
  unfold State.actAuto
  cases h : s.shelves[sh].state with
  | held _ => unfold ActsUnderAuto; simp only [h]
  | parked => unfold ActsUnderAuto; simp only [h]
  | freerun =>
    unfold ActsUnderAuto
    simp only [h, Ctx.cause_none hx]
    have hgo := goesToward_choice hsteer (by rw [h]; rfl) .better
    revert hgo
    cases s.best sh <;> exact id
  | holdover _ =>
    unfold ActsUnderAuto
    simp only [h, Ctx.cause_none hx]
    have hgo := goesToward_choice hsteer (by rw [h]; rfl) .better
    revert hgo
    cases s.best sh <;> exact id
  | queued t =>
    unfold ActsUnderAuto
    simp only [h, State.actQueued, Ctx.cause_none hx]
    by_cases hstrict : x.strict = true ∧ s.eligible sh t = false
    · rw [if_pos hstrict, if_pos (by simp [hstrict.1, hstrict.2])]
      exact reselects_best hsteer (by rw [h]; rfl) _
    · rw [if_neg hstrict, if_neg (by simpa using hstrict)]
      have hrest := rests_rest (s := s) (sh := sh) (by rw [h]; rfl) (s.failCause sh t)
      rw [choice_auto hsteer]
      cases s.best sh with
      | none => exact hrest
      | some b =>
        simp only
        split
        · rfl
        · rfl
  | acquire t left =>
    unfold ActsUnderAuto
    simp only [h, Ctx.cause_none hx]
    split
    · rfl
    · exact reselects_best hsteer (by rw [h]; rfl) _
  | locked c pend => exact actsUnderAuto_locked hsteer hx h
  | bridge c left => exact actsUnderAuto_bridge hsteer hx h

/-! ## Lost steering (R127, R131) -/

/-- The part after a shelf has lost its steering: any pending target is dropped too. -/
theorem actUnsteered_eq (s : State) (sh : ShelfId) (x : Ctx) :
    s.actUnsteered sh x = ((s.unsteered sh).raiseShelf sh .steerLost).actAuto sh { x with strict := true } := by
  have hset : ∀ (t : State) (d : Option DomainId) (e : DomainEvent) (r : Shelf),
      (t.raiseIn d e).setShelf sh r = (t.setShelf sh r).raiseIn d e := by
    intro t d e r
    cases d <;> rfl
  have hqueue : ∀ (t : State) (d : Option DomainId) (e : DomainEvent) (q : List ShelfId),
      (t.raiseIn d e).setQueue q = (t.setQueue q).raiseIn d e := by
    intro t d e q
    cases d <;> rfl
  have hwrite : ∀ (r r' : Shelf), (s.setShelf sh r).setShelf sh r' = s.setShelf sh r' := by
    intro r r'
    simp only [State.setShelf, Vector.set_set]
  unfold State.actUnsteered
  dsimp only
  rw [loseSteering_self]
  cases h : s.shelves[sh].state with
  | locked c pend =>
    cases pend with
    | some pair =>
      simp only
      congr 1
      have hu : s.unsteered sh =
          (s.setShelf sh { s.shelves[sh] with steering := .auto, state := .locked c none }).leaveQueue sh := by
        simp only [State.unsteered, h, ShelfState.pending?, Option.isSome_some, if_true]
        rfl
      rw [hu, State.dropPending, loseSteering_self]
      simp only [State.loseSteering, State.raiseShelf, State.setSteering, hset, hwrite, State.leaveQueue, hqueue]
      rw [raiseIn_queue]
      rfl
    | none =>
      simp only
      congr 1
      simp only [State.unsteered, h, ShelfState.pending?, Option.isSome_none, Bool.false_eq_true, if_false]
      rw [← h]
      rfl
  | _ =>
    simp only
    congr 1
    simp only [State.unsteered, h, ShelfState.pending?, Option.isSome_none, Bool.false_eq_true, if_false]
    rw [← h]
    rfl

/-- The state a shelf has once its pending target is dropped. -/
def ShelfState.unpended (st : ShelfState) : ShelfState :=
  match st with
  | .locked c (some _) => .locked c none
  | st => st

theorem unsteered_shelf (s : State) (sh : ShelfId) :
    ((s.unsteered sh).raiseShelf sh .steerLost).shelves[sh] =
      { s.shelves[sh] with steering := .auto, state := s.shelves[sh].state.unpended } := by
  have h : ((s.unsteered sh).raiseShelf sh .steerLost).shelves = (s.unsteered sh).shelves :=
    raiseShelfOpt_shelves _ sh (some .steerLost)
  rw [h]
  show (s.setShelf sh _).shelves[sh] = _
  rw [setShelf_get_self]
  rfl

theorem unpended_isHeld (st : ShelfState) : st.unpended.isHeld = st.isHeld ∧ st.unpended.isHoldover = st.isHoldover := by
  cases st with
  | locked c pend => cases pend <;> exact ⟨rfl, rfl⟩
  | _ => exact ⟨rfl, rfl⟩

theorem moved_unsteered (s : State) (sh : ShelfId) :
    Moved s ((s.unsteered sh).raiseShelf sh .steerLost) sh [.steerLost] := by
  obtain ⟨hheld, hho⟩ := unpended_isHeld s.shelves[sh].state
  have hshelf := unsteered_shelf s sh
  have hother : ∀ x, x ≠ sh → ((s.unsteered sh).raiseShelf sh .steerLost).shelves[x] = s.shelves[x] := by
    intro x hx
    have h : ((s.unsteered sh).raiseShelf sh .steerLost).shelves = (s.unsteered sh).shelves :=
      raiseShelfOpt_shelves _ sh (some .steerLost)
    rw [h]
    exact setShelf_get_ne s sh x _ hx.symm
  have hqueue : (s.unsteered sh).queue = s.queue ∨ (s.unsteered sh).queue = s.queue.filter (· != sh) := by
    unfold State.unsteered
    dsimp only
    split
    · exact .inr rfl
    · exact .inl rfl
  refine ⟨?_, by rw [hshelf], .inr ⟨.head _, by rw [hshelf]⟩, by rw [hshelf]; exact hheld, ?_, fun x hx => .inl (hother x hx), ?_, ?_⟩
  · have h1 : Moves s ({ s.setShelf sh (s.unsteered sh).shelves[sh] with queue := (s.unsteered sh).queue } : State) :=
      (moves_setShelf s sh _).trans (moves_setQueue _ _)
    refine Moves.trans ?_ (moves_raiseShelf _ sh .steerLost)
    have he : s.unsteered sh = { s.setShelf sh (s.unsteered sh).shelves[sh] with queue := (s.unsteered sh).queue } := by
      have hget : (s.unsteered sh).shelves[sh] =
          { s.shelves[sh] with steering := .auto, state := s.shelves[sh].state.unpended } :=
        (setShelf_get_self s sh _).trans rfl
      rw [hget]
      rfl
    rw [he]
    exact h1
  · rw [hshelf]
    intro h
    exact .inl (hho ▸ h)
  · intro x hx hm
    have h : ((s.unsteered sh).raiseShelf sh .steerLost).queue = (s.unsteered sh).queue :=
      raiseShelfOpt_queue _ sh (some .steerLost)
    rw [h] at hm
    rcases hqueue with e | e <;> rw [e] at hm
    · exact hm
    · exact (List.mem_filter.mp hm).1
  · refine Raises.congr (E := fun d k => s.shelfDomain sh = some d ∧ k = .steerLost)
      (fun d k => raises_raiseShelf (s.unsteered sh) sh .steerLost d k) fun d k => ?_
    simp only [List.mem_singleton]
    refine ⟨.inl, fun h => h.resolve_right ?_⟩
    rintro ⟨x, hx, -, hr⟩
    rw [hother x hx, shelfRaises_self] at hr
    cases hr

/-- What dropping a pending target first means for the events of a change of state: nothing. -/
theorem shelfRaises_unpended (a b : ShelfState) (k : DomainEvent) :
    shelfRaises a.unpended b false k = shelfRaises a b false k := by
  cases a with
  | locked c pend =>
    cases pend with
    | none => rfl
    | some pair => cases b <;> cases k <;> rfl
  | _ => rfl

/-- A shelf that loses its steering raises STEER_LOST and what its change of state calls for. -/
theorem moved_actUnsteered (s : State) (sh : ShelfId) (x : Ctx) :
    ∃ K, Moved s (s.actUnsteered sh x) sh K ∧ .steerLost ∈ K ∧ (s.actUnsteered sh x).shelves[sh].steering = .auto ∧
      ∀ k, k ∈ K ↔ k = .steerLost ∨
        shelfRaises s.shelves[sh].state (s.actUnsteered sh x).shelves[sh].state false k = true := by
  have hshelf := unsteered_shelf s sh
  obtain ⟨K, hm, hs, hK⟩ := acts_actAuto (s := (s.unsteered sh).raiseShelf sh .steerLost) (sh := sh)
    (by rw [hshelf]) { x with strict := true }
  rw [actUnsteered_eq]
  refine ⟨_, (moved_unsteered s sh).trans hm, List.mem_append_left _ (.head _), by rw [hs, hshelf], fun k => ?_⟩
  rw [List.mem_append, List.mem_singleton, hK, hshelf]
  dsimp only
  rw [shelfRaises_unpended]

theorem losesSteering_actUnsteered {x : Ctx} (hx : x.forced = none) : LosesSteering s (s.actUnsteered sh x) sh := by
  obtain ⟨K, hm, hk, hs, -⟩ := moved_actUnsteered s sh x
  refine ⟨hs, fun d hd hmask => hm.raised hk d hd hmask, ?_⟩
  rw [actUnsteered_eq]
  exact actsUnderAuto (x := { x with strict := true }) (by rw [unsteered_shelf]) hx

/-! ## A shelf acts, whatever its steering -/

/-- A move with exactly its events: it keeps the steering, or the part takes it. -/
def ActsOrUnsteers (s t : State) (sh : ShelfId) (x : Ctx) : Prop := Acts s t sh ∨ t = s.actUnsteered sh x

theorem acts_or_unsteers_actSteer (p : PortId) (x : Ctx) : ActsOrUnsteers s (s.actSteer sh p x) sh x := by
  unfold State.actSteer
  cases h : s.shelves[sh].state with
  | locked c pend =>
    simp only
    split
    · split
      · exact .inl (.refl s sh)
      · split
        · exact .inl (acts_bridge (by rw [h]; rfl) (by rw [h]; rfl) p _)
        · exact .inr rfl
    · split
      · split
        · exact .inl (.refl s sh)
        · exact .inl (acts_toward (by rw [h]; rfl) _ fun q left e => by rw [h] at e; cases e)
      · exact .inr rfl
  | bridge c left =>
    simp only
    split
    · exact .inl (acts_unbridge h)
    · split
      · exact .inl (.refl s sh)
      · exact .inr rfl
  | queued t =>
    simp only
    split
    · exact .inl (.refl s sh)
    · exact .inr rfl
  | acquire t left =>
    simp only
    split
    · exact .inl (.refl s sh)
    · exact .inr rfl
  | _ => exact .inl (.refl s sh)

theorem acts_actPinActive (p : PortId) (x : Ctx) : Acts s (s.actPinActive sh p x) sh := by
  unfold State.actPinActive
  cases h : s.shelves[sh].state with
  | locked c pend =>
    simp only
    split
    · exact acts_toward (by rw [h]; rfl) _ fun q left e => by rw [h] at e; cases e
    · exact .refl s sh
  | bridge c left =>
    simp only
    split
    · exact acts_unbridge h
    · exact .refl s sh
  | freerun => exact acts_toward (by rw [h]; rfl) _ fun q left e => by rw [h] at e; cases e
  | holdover _ => exact acts_toward (by rw [h]; rfl) _ fun q left e => by rw [h] at e; cases e
  | _ => exact .refl s sh

theorem acts_actPinInactive (p : PortId) (x : Ctx) : Acts s (s.actPinInactive sh p x) sh := by
  unfold State.actPinInactive
  cases h : s.shelves[sh].state with
  | locked c pend =>
    simp only
    split
    · exact acts_bridge (by rw [h]; rfl) (by rw [h]; rfl) _ _
    · exact acts_rest (by rw [h]; rfl) (by rw [h]; rfl) (by rw [h]; rfl) _
  | queued _ => exact acts_rest (by rw [h]; rfl) (by rw [h]; rfl) (by rw [h]; rfl) _
  | acquire _ _ => exact acts_rest (by rw [h]; rfl) (by rw [h]; rfl) (by rw [h]; rfl) _
  | _ => exact .refl s sh

theorem acts_or_unsteers_actPin (p : PortId) (x : Ctx) : ActsOrUnsteers s (s.actPin sh p x) sh x := by
  unfold State.actPin
  split
  · exact .inr rfl
  · split
    · exact .inl (acts_actPinActive p x)
    · exact .inl (acts_actPinInactive p x)

/-- Whatever its steering, a shelf acts with exactly its events, or loses its steering and acts as an AUTO shelf. -/
theorem acts_or_unsteers_act (s : State) (sh : ShelfId) (x : Ctx) :
    Acts s (s.act sh x) sh ∨ s.shelves[sh].steering ≠ .auto ∧ s.act sh x = s.actUnsteered sh x := by
  unfold State.act
  cases h : s.shelves[sh].steering with
  | auto => exact .inl (acts_actAuto h x)
  | steer p => exact (acts_or_unsteers_actSteer p x).imp_right fun e => ⟨by simp, e⟩
  | pin p => exact (acts_or_unsteers_actPin p x).imp_right fun e => ⟨by simp, e⟩

theorem moved_act (s : State) (sh : ShelfId) (x : Ctx) : ∃ K, Moved s (s.act sh x) sh K := by
  rcases acts_or_unsteers_act s sh x with ⟨K, hm, -⟩ | ⟨-, e⟩
  · exact ⟨K, hm⟩
  · obtain ⟨K, hm, -⟩ := moved_actUnsteered s sh x
    exact ⟨K, e ▸ hm⟩

theorem eventsOfMoves_actUnsteered (hs : s.shelves[sh].steering ≠ .auto) (x : Ctx) :
    EventsOfMoves s (s.actUnsteered sh x) := by
  obtain ⟨K, hm, -, hauto, hK⟩ := moved_actUnsteered s sh x
  have hlost : steeringLost s (s.actUnsteered sh x) sh = true := by
    rw [steeringLost, hauto, bne_iff_ne.mpr hs]
    rfl
  exact hm.eventsOfMoves fun k => by rw [hK, hlost, shelfRaises_lost _ _ true]; simp

theorem eventsOfMoves_act (s : State) (sh : ShelfId) (x : Ctx) : EventsOfMoves s (s.act sh x) := by
  rcases acts_or_unsteers_act s sh x with h | ⟨hs, e⟩
  · exact h.eventsOfMoves
  · rw [e]
    exact eventsOfMoves_actUnsteered hs x

/-- A shelf under STEER acts as R126 and R127 say. -/
theorem actsUnderSteer {x : Ctx} (hx : x.forced = none) (p : PortId) : ActsUnderSteer s (s.actSteer sh p x) sh p := by
  have hlose := losesSteering_actUnsteered (s := s) (sh := sh) hx
  unfold ActsUnderSteer State.actSteer
  cases h : s.shelves[sh].state with
  | locked c pend =>
    simp only [Ctx.cause_none hx]
    by_cases hc : c = p
    · rw [if_pos hc, if_pos hc]
      by_cases he : s.eligible sh p = true
      · rw [if_pos he, if_pos he]
      · rw [if_neg he, if_neg he]
        by_cases ha : s.admissible sh p = true ∧ s.shelfHoldOff sh ≠ 0
        · rw [if_pos ha, if_pos (by simp [ha.1, ha.2])]
          exact bridges_bridge (by rw [h]; rfl) p _
        · rw [if_neg ha, if_neg (by simpa using ha)]
          exact hlose
    · rw [if_neg hc, if_neg hc]
      cases he : s.eligible sh p
      · simp only [if_true, Bool.false_eq_true, if_false]
        exact hlose
      · simp only [Bool.true_eq_false, if_true, if_false]
        split
        · rfl
        · exact goesToward_toward (by rw [h]; rfl) _ _
  | bridge c left =>
    simp only
    split
    · rw [unbridge_shelf]
      exact ⟨rfl, rfl, rfl⟩
    · split
      · rfl
      · exact hlose
  | queued t =>
    simp only
    split
    · rfl
    · exact hlose
  | acquire t left =>
    simp only
    split
    · rfl
    · exact hlose
  | _ => rfl

/-- A shelf under PIN acts as R126, R130 and R131 say. -/
theorem actsUnderPin {x : Ctx} (hx : x.forced = none) (p : PortId) : ActsUnderPin s (s.actPin sh p x) sh p x.ceased := by
  have hbool : (s.ports[p].state == .off || !s.sameDomain sh p) = true ↔
      s.ports[p].state = .off ∨ s.sameDomain sh p = false := by
    rw [Bool.or_eq_true, beq_iff_eq, Bool.not_eq_true']
  unfold ActsUnderPin
  by_cases hout : s.ports[p].state = .off ∨ s.sameDomain sh p = false
  · rw [if_pos hout, State.actPin, if_pos (hbool.mpr hout)]
    exact losesSteering_actUnsteered hx
  · rw [if_neg hout, State.actPin, if_neg (mt hbool.mp hout)]
    by_cases hactive : s.ports[p].activity = true
    · rw [if_pos hactive, if_pos hactive]
      unfold State.actPinActive
      cases h : s.shelves[sh].state with
      | locked c pend =>
        simp only [Ctx.cause_none hx]
        by_cases hc : c = p ∨ x.ceased = false
        · rw [if_pos hc, if_neg (by simpa [Decidable.imp_iff_not_or] using hc)]
        · rw [if_neg hc, if_pos (by simpa using hc)]
          exact goesToward_toward (by rw [h]; rfl) _ _
      | bridge c left =>
        simp only
        split
        · next hc =>
          rw [unbridge_shelf, hc]
          exact ⟨rfl, rfl, rfl⟩
        · rfl
      | freerun => simp only [Ctx.cause_none hx]; exact goesToward_toward (by rw [h]; rfl) _ _
      | holdover _ => simp only [Ctx.cause_none hx]; exact goesToward_toward (by rw [h]; rfl) _ _
      | _ => rfl
    · rw [if_neg hactive, if_neg hactive]
      unfold State.actPinInactive
      cases h : s.shelves[sh].state with
      | locked c pend =>
        simp only [Ctx.cause_none hx]
        by_cases hc : c = p ∧ s.shelfHoldOff sh ≠ 0
        · rw [if_pos hc, if_pos (by simpa using hc)]
          exact bridges_bridge (by rw [h]; rfl) _ _
        · rw [if_neg hc, if_neg (by simpa using hc)]
          exact rests_rest (by rw [h]; rfl) _
      | queued _ => simp only [Ctx.cause_none hx]; exact rests_rest (by rw [h]; rfl) _
      | acquire _ _ => simp only [Ctx.cause_none hx]; exact rests_rest (by rw [h]; rfl) _
      | _ => rfl

end

end Sys2Proof.Machine
end

section
/-!
PROOFS. The Acquisition Pool (5.2): what lending does to units and queue, and that every move keeps the pool sound and moves
units and queue as the pool rules say (R79 to R83).
-/

namespace Sys2Proof.Machine

/-! ## Idle units (R82) -/

theorem idleUnit_eq_none {s : State} : s.idleUnit = none ↔ ∀ u : UnitId, s.units[u] ≠ none := by
  unfold State.idleUnit
  rw [List.find?_eq_none]
  simp only [List.mem_finRange, true_implies, beq_iff_eq, ne_eq]

theorem idleUnit_lowest {s : State} {u : UnitId} (h : s.idleUnit = some u) : LowestIdle s.units u := by
  unfold State.idleUnit at h
  obtain ⟨hu, before, after, hl, hb⟩ := List.find?_eq_some_iff_append.mp h
  refine ⟨beq_iff_eq.mp hu, fun v hv he => ?_⟩
  have hsorted := List.pairwise_lt_finRange 6
  have hmem := List.mem_finRange v
  rw [hl] at hsorted hmem
  rcases List.mem_append.mp hmem with hm | hm
  · have := hb v hm
    simp [he] at this
  · rcases List.mem_cons.mp hm with rfl | hm
    · exact absurd hv (lt_irrefl _)
    · have hlt : u < v := (List.pairwise_cons.mp (List.pairwise_append.mp hsorted).2.1).1 v hm
      exact absurd hv (not_lt_of_gt hlt)

theorem LowestIdle.unique {units : Vector (Option ShelfId) 6} {u v : UnitId} (hu : LowestIdle units u)
    (hv : LowestIdle units v) : u = v := by
  rcases lt_trichotomy u v with h | h | h
  · exact absurd hu.1 (hv.2 u h)
  · exact h
  · exact absurd hv.1 (hu.2 v h)

theorem idleUnit_of_lowest {s : State} {u : UnitId} (h : LowestIdle s.units u) : s.idleUnit = some u := by
  cases hi : s.idleUnit with
  | none => exact absurd h.1 (idleUnit_eq_none.mp hi u)
  | some v => rw [(idleUnit_lowest hi).unique h]

/-- Nothing is lent where every unit is lent, or nobody waits. -/
theorem lendTimes_idle (n : Nat) {s : State} (h : (∀ u : UnitId, s.units[u] ≠ none) ∨ s.queue = []) :
    State.lendTimes n s = s := by
  have hone : s.lendOne = s := by
    unfold State.lendOne
    rcases h with h | h
    · rw [idleUnit_eq_none.mpr h]
      split
      · next he => cases he
      · rfl
    · rw [h]
  induction n with
  | zero => rfl
  | succ n ih => rw [State.lendTimes, hone, ih]

theorem lend_idle {s : State} (h : (∀ u : UnitId, s.units[u] ≠ none) ∨ s.queue = []) : s.lend = s := lendTimes_idle 6 h

/-- A waiting shelf lent a unit (R82). -/
theorem grant_waits {s : State} {x : ShelfId} (hw : s.shelves[x].state.waits = true) (u : UnitId) :
    (s.grant x u).units = s.units.set u (some x) ∧ (s.grant x u).queue = s.queue ∧
      (s.grant x u).shelves[x].state.isAcquire = true ∧ ∀ y, y ≠ x → (s.grant x u).shelves[y] = s.shelves[y] := by
  unfold State.grant
  cases h : s.shelves[x].state with
  | queued t =>
    simp only [enterState_units, enterState_queue]
    exact ⟨rfl, rfl, by rw [enterState_self]; rfl, fun y hy => by rw [enterState_get, if_neg hy.symm]; rfl⟩
  | locked c pend =>
    cases pend with
    | some pair =>
      simp only [enterState_units, enterState_queue]
      exact ⟨rfl, rfl, by rw [enterState_self]; rfl, fun y hy => by rw [enterState_get, if_neg hy.symm]; rfl⟩
    | none => rw [h] at hw; cases hw
  | _ => rw [h] at hw; cases hw

/-- One lending, after which none is left to do (R82, R83). -/
theorem lend_once {s : State} {x : ShelfId} {rest : List ShelfId} {u : UnitId} (hq : s.queue = x :: rest)
    (hu : LowestIdle s.units u) (hw : s.shelves[x].state.waits = true)
    (hdone : rest = [] ∨ ∀ v, v ≠ u → s.units[v] ≠ none) : s.lend = (s.setQueue rest).grant x u := by
  have hone : s.lendOne = (s.setQueue rest).grant x u := by
    unfold State.lendOne
    rw [hq, idleUnit_of_lowest hu]
  obtain ⟨hunits, hqueue, -, -⟩ := grant_waits (s := s.setQueue rest) (x := x) hw u
  show State.lendTimes 5 s.lendOne = _
  rw [hone]
  refine lendTimes_idle 5 ?_
  rw [hunits, hqueue]
  rcases hdone with h | h
  · exact .inr h
  · refine .inl fun v => ?_
    show (s.units.set u (some x))[v] ≠ none
    by_cases hv : v = u
    · subst hv
      simp
    · rw [Fin.getElem_fin, Vector.getElem_set_ne _ _ fun e => hv (Fin.ext e.symm)]
      exact h v hv

/-! ## The pool with one shelf set aside -/

/-- The pool is sound but for shelf `sh`, which holds no unit and does not stand in the queue, whatever its state. -/
structure State.PoolAside (s : State) (sh : ShelfId) : Prop where
  holds : ∀ (u : UnitId) (x : ShelfId), s.units[u] = some x → x ≠ sh ∧ s.shelves[x].state.isAcquire = true
  held : ∀ x : ShelfId, x ≠ sh → s.shelves[x].state.isAcquire = true → ∃ u : UnitId, s.units[u] = some x
  once : ∀ (u v : UnitId) (x : ShelfId), s.units[u] = some x → s.units[v] = some x → u = v
  queue : ∀ x : ShelfId, x ∈ s.queue ↔ x ≠ sh ∧ s.shelves[x].state.waits = true
  nodup : s.queue.Nodup
  full : s.queue ≠ [] → ∀ u : UnitId, s.units[u] ≠ none

/-- Two parts with the same units and queue, and the same shelves but for `sh`. -/
structure SamePool (s t : State) (sh : ShelfId) : Prop where
  units : t.units = s.units
  queue : t.queue = s.queue
  others : ∀ x : ShelfId, x ≠ sh → t.shelves[x] = s.shelves[x]

theorem SamePool.trans {s t u : State} {sh : ShelfId} (h : SamePool s t sh) (k : SamePool t u sh) : SamePool s u sh :=
  ⟨k.units.trans h.units, k.queue.trans h.queue, fun x hx => (k.others x hx).trans (h.others x hx)⟩

theorem State.PoolAside.congr {s t : State} {sh : ShelfId} (h : s.PoolAside sh) (k : SamePool s t sh) : t.PoolAside sh where
  holds := fun u x hx => by
    rw [k.units] at hx
    obtain ⟨hne, ha⟩ := h.holds u x hx
    exact ⟨hne, by rw [k.others x hne]; exact ha⟩
  held := fun x hne ha => by
    rw [k.others x hne] at ha
    rw [k.units]
    exact h.held x hne ha
  once := fun u v x => by rw [k.units]; exact h.once u v x
  queue := fun x => by
    rw [k.queue, h.queue]
    refine and_congr_right fun hne => ?_
    rw [k.others x hne]
  nodup := by rw [k.queue]; exact h.nodup
  full := by rw [k.queue, k.units]; exact h.full

theorem samePool_setShelf (s : State) (sh : ShelfId) (r : Shelf) : SamePool s (s.setShelf sh r) sh :=
  ⟨rfl, rfl, fun x hx => setShelf_get_ne s sh x r hx.symm⟩

theorem samePool_enterState (s : State) (sh : ShelfId) (st : ShelfState) (cause : Option Cause) (e : Option DomainEvent) :
    SamePool s (s.enterState sh st cause e) sh :=
  ⟨enterState_units _ _ _ _ _, enterState_queue _ _ _ _ _, fun x hx => by rw [enterState_get, if_neg hx.symm]⟩

/-- A shelf that holds no unit leaves the queue (R81). -/
theorem poolAside_leaveQueue {s : State} {sh : ShelfId} (h : s.poolSound) (ha : s.shelves[sh].state.isAcquire = false) :
    (s.leaveQueue sh).PoolAside sh := by
  obtain ⟨hholds, hheld, honce, hqueue, hnodup, hfull⟩ := h
  refine ⟨fun u x hx => ⟨fun e => ?_, hholds u x hx⟩, fun x _ hx => hheld x hx, honce, fun x => ?_, hnodup.filter _, fun hq => ?_⟩
  · have := hholds u x hx
    rw [e, ha] at this
    cases this
  · show x ∈ s.queue.filter (· != sh) ↔ x ≠ sh ∧ s.shelves[x].state.waits = true
    rw [List.mem_filter, hqueue, bne_iff_ne]
    exact and_comm
  · refine hfull fun e => hq ?_
    show s.queue.filter (· != sh) = []
    rw [e]
    rfl

theorem units_set_get (units : Vector (Option ShelfId) 6) (u v : UnitId) (h : Option ShelfId) :
    (units.set u h)[v] = if u = v then h else units[v] := by
  simp only [Fin.getElem_fin, Vector.getElem_set, Fin.ext_iff]

theorem reclaim_units {s : State} {sh : ShelfId} {u : UnitId} (hu : s.units[u] = some sh)
    (honce : ∀ v : UnitId, s.units[v] = some sh → v = u) : (s.reclaim sh).units = s.units.set u none := by
  ext1 i hi
  have hget : (s.reclaim sh).units[i] = if s.units[i] == some sh then none else s.units[i] := by
    simp [State.reclaim]
  have hset := units_set_get s.units u ⟨i, hi⟩ none
  rw [Fin.getElem_fin] at hset
  rw [hget, hset]
  by_cases hv : u = ⟨i, hi⟩
  · rw [if_pos (by rw [hv] at hu; exact beq_iff_eq.mpr hu), if_pos hv]
  · rw [if_neg hv, if_neg]
    · rfl
    · intro he
      exact hv (honce ⟨i, hi⟩ (beq_iff_eq.mp he)).symm

/-- A shelf gives up its unit, which goes to the head of the queue where there is one (R83). `s` is the part before, in
which the shelf holds unit `u`; `s'` the same but for the shelf's record, in which it no longer waits. -/
theorem poolAside_freeUnit {s s' : State} {sh : ShelfId} {u : UnitId} (h : s.poolSound) (hu : s.units[u] = some sh)
    (k : SamePool s s' sh) (hw : s'.shelves[sh].state.waits = false) :
    (s'.freeUnit sh).PoolAside sh ∧
      match s.queue with
      | [] => (s'.freeUnit sh).units = s.units.set u none ∧ (s'.freeUnit sh).queue = []
      | head :: rest => (s'.freeUnit sh).units = s.units.set u (some head) ∧ (s'.freeUnit sh).queue = rest := by
  obtain ⟨hholds, hheld, honce, hqueue, hnodup, hfull⟩ := h
  have hsh : s.shelves[sh].state.isAcquire = true := hholds u sh hu
  have hunits : (s'.reclaim sh).units = s.units.set u none := by
    rw [← k.units]
    refine reclaim_units (by rw [k.units]; exact hu) fun v hv => ?_
    rw [k.units] at hv
    exact honce v u sh hv hu
  have hother : ∀ (v : UnitId) (x : ShelfId), v ≠ u → s.units[v] = some x → x ≠ sh := by
    rintro v x hv hx rfl
    exact hv (honce v u x hx hu)
  have hnotin : sh ∉ s.queue := fun hm => by
    have := (hqueue sh).mp hm
    rw [waits_of_isAcquire hsh] at this
    cases this
  cases hq : s.queue with
  | nil =>
    have hfree : s'.freeUnit sh = s'.reclaim sh := lend_idle (.inr (k.queue.trans hq))
    have hnobody : ∀ x : ShelfId, s.shelves[x].state.waits = false := fun x => by
      have := (hqueue x).not
      rw [hq] at this
      simpa using this
    rw [hfree]
    refine ⟨⟨fun v x hx => ?_, fun x hx hacq => ?_, fun v w x hv hw' => ?_, fun x => ?_, ?_, ?_⟩, hunits, k.queue.trans hq⟩
    · rw [hunits, units_set_get] at hx
      split at hx
      · cases hx
      · next hne =>
        have hxs := hother v x (Ne.symm hne) hx
        refine ⟨hxs, ?_⟩
        show s'.shelves[x].state.isAcquire = true
        rw [k.others x hxs]
        exact hholds v x hx
    · have hacq' : s'.shelves[x].state.isAcquire = true := hacq
      rw [k.others x hx] at hacq'
      obtain ⟨v, hv⟩ := hheld x hacq'
      refine ⟨v, ?_⟩
      rw [hunits, units_set_get, if_neg, hv]
      rintro rfl
      rw [hu] at hv
      exact hx (Option.some.inj hv).symm
    · rw [hunits, units_set_get] at hv hw'
      split at hv
      · cases hv
      · split at hw'
        · cases hw'
        · exact honce v w x hv hw'
    · show x ∈ s'.queue ↔ x ≠ sh ∧ s'.shelves[x].state.waits = true
      rw [k.queue, hq]
      refine ⟨nofun, fun ⟨hx, hwx⟩ => ?_⟩
      rw [k.others x hx, hnobody] at hwx
      cases hwx
    · show s'.queue.Nodup
      rw [k.queue, hq]
      exact .nil
    · intro hne
      exact absurd (k.queue.trans hq) hne
  | cons head rest =>
    have hall := hfull (by rw [hq]; exact List.cons_ne_nil _ _)
    have hheadw : s.shelves[head].state.waits = true := (hqueue head).mp (by rw [hq]; exact .head _)
    have hheadne : head ≠ sh := by
      rintro rfl
      exact hnotin (by rw [hq]; exact .head _)
    have hlow : LowestIdle (s'.reclaim sh).units u := by
      rw [hunits]
      refine ⟨by rw [units_set_get, if_pos rfl], fun v hv => ?_⟩
      rw [units_set_get, if_neg (ne_of_gt hv)]
      exact hall v
    have hfree : s'.freeUnit sh = ((s'.reclaim sh).setQueue rest).grant head u := by
      refine lend_once (k.queue.trans hq) hlow ?_ (.inr fun v hv => ?_)
      · show s'.shelves[head].state.waits = true
        rw [k.others head hheadne]
        exact hheadw
      · rw [hunits, units_set_get, if_neg hv.symm]
        exact hall v
    obtain ⟨gunits, gqueue, gacq, gother⟩ := grant_waits (s := (s'.reclaim sh).setQueue rest) (x := head)
      (by show s'.shelves[head].state.waits = true; rw [k.others head hheadne]; exact hheadw) u
    rw [← hfree] at gunits gqueue gacq gother
    have hset : (s'.freeUnit sh).units = s.units.set u (some head) := by
      rw [gunits]
      show (s'.reclaim sh).units.set u (some head) = _
      rw [hunits, Vector.set_set]
    have hrecord : ∀ x, x ≠ head → x ≠ sh → (s'.freeUnit sh).shelves[x] = s.shelves[x] := fun x hx hxs =>
      (gother x hx).trans (k.others x hxs)
    rw [hq] at hnodup
    obtain ⟨hheadrest, hrestnodup⟩ := List.nodup_cons.mp hnodup
    refine ⟨⟨fun v x hx => ?_, fun x hx hacq => ?_, fun v w x hv hw' => ?_, fun x => ?_, ?_, ?_⟩, hset, gqueue⟩
    · rw [hset, units_set_get] at hx
      split at hx
      · obtain rfl := Option.some.inj hx
        exact ⟨hheadne, gacq⟩
      · next hne =>
        have hxs := hother v x (Ne.symm hne) hx
        have hxa := hholds v x hx
        have hxh : x ≠ head := by
          rintro rfl
          rw [waits_of_isAcquire hxa] at hheadw
          cases hheadw
        exact ⟨hxs, by rw [hrecord x hxh hxs]; exact hxa⟩
    · by_cases hxh : x = head
      · exact ⟨u, by rw [hset, units_set_get, if_pos rfl, hxh]⟩
      · rw [hrecord x hxh hx] at hacq
        obtain ⟨v, hv⟩ := hheld x hacq
        refine ⟨v, ?_⟩
        rw [hset, units_set_get, if_neg, hv]
        rintro rfl
        rw [hu] at hv
        exact hx (Option.some.inj hv).symm
    · have hno : ∀ w : UnitId, s.units[w] ≠ some head := fun w hw'' => by
        rw [waits_of_isAcquire (hholds w head hw'')] at hheadw
        cases hheadw
      rw [hset, units_set_get] at hv hw'
      split at hv
      · next he =>
        split at hw'
        · next he' => exact he.symm.trans he'
        · obtain rfl := Option.some.inj hv
          exact absurd hw' (hno w)
      · split at hw'
        · obtain rfl := Option.some.inj hw'
          exact absurd hv (hno v)
        · exact honce v w x hv hw'
    · rw [gqueue]
      show x ∈ rest ↔ _
      constructor
      · intro hm
        have hmem : x ∈ s.queue := by rw [hq]; exact .tail _ hm
        have hxh : x ≠ head := by rintro rfl; exact hheadrest hm
        have hxs : x ≠ sh := by rintro rfl; exact hnotin hmem
        exact ⟨hxs, by rw [hrecord x hxh hxs]; exact (hqueue x).mp hmem⟩
      · rintro ⟨hxs, hwx⟩
        have hxh : x ≠ head := by
          rintro rfl
          rw [waits_of_isAcquire gacq] at hwx
          cases hwx
        rw [hrecord x hxh hxs] at hwx
        have hmem := (hqueue x).mpr hwx
        rw [hq] at hmem
        exact (List.mem_cons.mp hmem).resolve_left hxh
    · rw [gqueue]
      exact hrestnodup
    · intro _ v
      rw [hset, units_set_get]
      split
      · exact Option.some_ne_none head
      · exact hall v

/-- A shelf set aside that neither waits nor acquires belongs nowhere in the pool. -/
theorem State.PoolAside.sound {s : State} {sh : ShelfId} (h : s.PoolAside sh) (hw : s.shelves[sh].state.waits = false)
    (ha : s.shelves[sh].state.isAcquire = false) : s.poolSound := by
  refine ⟨fun u x hx => (h.holds u x hx).2, fun x hx => h.held x ?_ hx, h.once, fun x => ?_, h.nodup, h.full⟩
  · rintro rfl
    rw [ha] at hx
    cases hx
  · rw [h.queue]
    refine ⟨And.right, fun hx => ⟨?_, hx⟩⟩
    rintro rfl
    rw [hw] at hx
    cases hx

/-- A shelf set aside that comes to wait joins: at the tail, or straight to the lowest idle unit (R80, R82). -/
theorem State.PoolAside.join {s : State} {sh : ShelfId} (h : s.PoolAside sh) (hw : s.shelves[sh].state.waits = true) :
    (s.join sh).poolSound ∧
      ((s.join sh).units = s.units ∧ (s.join sh).queue = s.queue ++ [sh] ∧ (s.join sh).shelves = s.shelves ∧
          (∀ u : UnitId, s.units[u] ≠ none) ∨
        s.queue = [] ∧ (s.join sh).queue = [] ∧ (s.join sh).shelves[sh].state.isAcquire = true ∧
          ∃ low : UnitId, LowestIdle s.units low ∧ (s.join sh).units = s.units.set low (some sh)) := by
  have hnotin : sh ∉ s.queue := fun hm => ((h.queue sh).mp hm).1 rfl
  have hqueued : s.queued sh = s.setQueue (s.queue ++ [sh]) := by
    unfold State.queued
    rw [if_neg fun e => hnotin (List.contains_iff_mem.mp e)]
  have hnounit : ∀ u : UnitId, s.units[u] ≠ some sh := fun u hu => (h.holds u sh hu).1 rfl
  rw [join_eq, hqueued]
  by_cases hfull : ∀ u : UnitId, s.units[u] ≠ none
  · rw [lend_idle (s := s.setQueue (s.queue ++ [sh])) (.inl hfull)]
    refine ⟨⟨fun u x hx => (h.holds u x hx).2, fun x hx => h.held x ?_ hx, h.once, fun x => ?_, ?_, fun _ => hfull⟩,
      .inl ⟨rfl, rfl, rfl, hfull⟩⟩
    · rintro rfl
      have hx' : s.shelves[x].state.isAcquire = true := hx
      rw [waits_of_isAcquire hx'] at hw
      cases hw
    · show x ∈ s.queue ++ [sh] ↔ s.shelves[x].state.waits = true
      rw [List.mem_append, List.mem_singleton, h.queue]
      by_cases hx : x = sh
      · subst hx
        exact ⟨fun _ => hw, fun _ => .inr rfl⟩
      · simp [hx]
    · show (s.queue ++ [sh]).Nodup
      rw [List.nodup_append]
      refine ⟨h.nodup, List.nodup_singleton sh, fun a ha b hb => ?_⟩
      rw [List.mem_singleton.mp hb]
      rintro rfl
      exact hnotin ha
  · have hempty : s.queue = [] := by
      by_contra hne
      exact hfull (h.full hne)
    obtain ⟨low, hlow⟩ : ∃ low, s.idleUnit = some low := by
      cases hi : s.idleUnit with
      | none => exact absurd (idleUnit_eq_none.mp hi) hfull
      | some low => exact ⟨low, rfl⟩
    have hlow := idleUnit_lowest hlow
    have hlend : (s.setQueue (s.queue ++ [sh])).lend = ((s.setQueue (s.queue ++ [sh])).setQueue []).grant sh low :=
      lend_once (by rw [setQueue_queue, hempty]; rfl) hlow hw (.inl rfl)
    obtain ⟨gunits, gqueue, gacq, gother⟩ := grant_waits (s := (s.setQueue (s.queue ++ [sh])).setQueue []) (x := sh) hw low
    rw [hlend]
    generalize ((s.setQueue (s.queue ++ [sh])).setQueue []).grant sh low = t at gunits gqueue gacq gother
    have gunits : t.units = s.units.set low (some sh) := gunits
    have gqueue : t.queue = [] := gqueue
    have gother : ∀ y, y ≠ sh → t.shelves[y] = s.shelves[y] := gother
    refine ⟨⟨fun u x hx => ?_, fun x hx => ?_, fun u v x hu hv => ?_, fun x => ?_, by rw [gqueue]; exact .nil,
      fun hne => absurd gqueue hne⟩, .inr ⟨hempty, gqueue, gacq, low, hlow, gunits⟩⟩
    · rw [gunits, units_set_get] at hx
      split at hx
      · obtain rfl := Option.some.inj hx
        exact gacq
      · obtain ⟨hne, ha⟩ := h.holds u x hx
        rw [gother x hne]
        exact ha
    · by_cases hxs : x = sh
      · exact ⟨low, by rw [gunits, units_set_get, if_pos rfl, hxs]⟩
      · rw [gother x hxs] at hx
        obtain ⟨u, hu⟩ := h.held x hxs hx
        refine ⟨u, ?_⟩
        rw [gunits, units_set_get, if_neg, hu]
        rintro rfl
        rw [hlow.1] at hu
        cases hu
    · rw [gunits, units_set_get] at hu hv
      split at hu
      · next he =>
        split at hv
        · next he' => exact he.symm.trans he'
        · obtain rfl := Option.some.inj hu
          exact absurd hv (hnounit v)
      · split at hv
        · obtain rfl := Option.some.inj hv
          exact absurd hu (hnounit u)
        · exact h.once u v x hu hv
    · rw [gqueue]
      refine ⟨fun hm => (by cases hm), fun hwx => ?_⟩
      by_cases hxs : x = sh
      · subst hxs
        rw [waits_of_isAcquire gacq] at hwx
        cases hwx
      · rw [gother x hxs] at hwx
        have := (h.queue x).mpr ⟨hxs, hwx⟩
        rw [hempty] at this
        exact this

end Sys2Proof.Machine
end

section
/-!
PROOFS. Every move of a shelf keeps the pool sound and moves units and queue as the pool rules say (R79 to R83).
-/

namespace Sys2Proof.Machine

theorem SamePool.refl (s : State) (sh : ShelfId) : SamePool s s sh := ⟨rfl, rfl, fun _ _ => rfl⟩

/-- In a sound pool a shelf that does not wait is not in the queue, and one that does not acquire holds no unit. -/
theorem State.poolSound.not_mem {s : State} {sh : ShelfId} (h : s.poolSound) (hw : s.shelves[sh].state.waits = false) :
    sh ∉ s.queue := fun hm => by
  obtain ⟨-, -, -, hqueue, -⟩ := h
  rw [(hqueue sh).mp hm] at hw
  cases hw

theorem State.poolSound.no_unit {s : State} {sh : ShelfId} (h : s.poolSound)
    (ha : s.shelves[sh].state.isAcquire = false) (u : UnitId) : s.units[u] ≠ some sh := fun hu => by
  obtain ⟨hholds, -⟩ := h
  rw [hholds u sh hu] at ha
  cases ha

theorem filter_ne_of_not_mem {sh : ShelfId} {q : List ShelfId} (h : sh ∉ q) : q.filter (· != sh) = q :=
  List.filter_eq_self.mpr fun x hx => by
    rw [bne_iff_ne]
    rintro rfl
    exact h hx

/-- Soundness speaks of units, queue and shelf states alone. -/
theorem State.poolSound.congr {s t : State} {sh : ShelfId} (h : s.poolSound) (k : SamePool s t sh)
    (ha : t.shelves[sh].state.isAcquire = s.shelves[sh].state.isAcquire)
    (hw : t.shelves[sh].state.waits = s.shelves[sh].state.waits) : t.poolSound := by
  obtain ⟨hholds, hheld, honce, hqueue, hnodup, hfull⟩ := h
  have hacq : ∀ x : ShelfId, t.shelves[x].state.isAcquire = s.shelves[x].state.isAcquire := fun x => by
    by_cases hx : x = sh
    · rw [hx, ha]
    · rw [k.others x hx]
  have hwait : ∀ x : ShelfId, t.shelves[x].state.waits = s.shelves[x].state.waits := fun x => by
    by_cases hx : x = sh
    · rw [hx, hw]
    · rw [k.others x hx]
  unfold State.poolSound
  simp only [k.units, k.queue, hacq, hwait]
  exact ⟨hholds, hheld, honce, hqueue, hnodup, hfull⟩

/-- A shelf that neither waits nor acquires is already aside. -/
theorem poolAside_of_idle {s : State} {sh : ShelfId} (h : s.poolSound) (hw : s.shelves[sh].state.waits = false)
    (ha : s.shelves[sh].state.isAcquire = false) : s.PoolAside sh := by
  refine (poolAside_leaveQueue h ha).congr ⟨rfl, ?_, fun _ _ => rfl⟩
  exact (filter_ne_of_not_mem (h.not_mem hw)).symm

/-! ## The pool rules for one move -/

/-- The rules relate units and queue to the states of the one shelf before and after. -/
theorem PoolFollows.congr {s s' t t' : State} {sh : ShelfId} (h : PoolFollows s t sh) (hu : s'.units = s.units)
    (hq : s'.queue = s.queue) (hs : s'.shelves[sh].state = s.shelves[sh].state) (hu' : t'.units = t.units)
    (hq' : t'.queue = t.queue) (hs' : t'.shelves[sh].state = t.shelves[sh].state) : PoolFollows s' t' sh := by
  unfold PoolFollows at h ⊢
  rw [hu, hq, hs, hu', hq', hs']
  exact h

/-- The rules for a shelf that held no unit. -/
theorem poolFollows_of_no_unit {s t : State} {sh : ShelfId} (h : s.poolSound) (ha : s.shelves[sh].state.isAcquire = false)
    (hwait : t.shelves[sh].state.waits = true →
      t.units = s.units ∧ t.queue = if sh ∈ s.queue then s.queue else s.queue ++ [sh])
    (hacq : t.shelves[sh].state.isAcquire = true →
      s.queue = [] ∧ t.queue = [] ∧ ∃ low : UnitId, LowestIdle s.units low ∧ t.units = s.units.set low (some sh))
    (hout : t.shelves[sh].state.waits = false → t.shelves[sh].state.isAcquire = false →
      t.units = s.units ∧ t.queue = s.queue.filter (· != sh)) : PoolFollows s t sh := by
  refine ⟨fun he => ?_, fun u hu => absurd hu (h.no_unit ha u), fun _ => ⟨hwait, hacq, hout⟩⟩
  cases hw : s.shelves[sh].state.waits with
  | true =>
    obtain ⟨-, -, -, hqueue, -⟩ := h
    have := hwait (by rw [he]; exact hw)
    rwa [if_pos ((hqueue sh).mpr hw)] at this
  | false =>
    have := hout (by rw [he]; exact hw) (by rw [he]; exact ha)
    rwa [filter_ne_of_not_mem (h.not_mem hw)] at this

/-- The rules for a shelf that stays as it is. -/
theorem PoolFollows.refl {s : State} (h : s.poolSound) (sh : ShelfId) : PoolFollows s s sh := by
  refine ⟨fun _ => ⟨rfl, rfl⟩, fun u hu hne => absurd rfl hne, fun hno => ⟨fun hw => ⟨rfl, ?_⟩, fun ha => ?_, fun hw _ => ⟨rfl, ?_⟩⟩⟩
  · obtain ⟨-, -, -, hqueue, -⟩ := h
    rw [if_pos ((hqueue sh).mpr hw)]
  · obtain ⟨-, hheld, -⟩ := h
    obtain ⟨u, hu⟩ := hheld sh ha
    exact absurd hu (hno u)
  · exact (filter_ne_of_not_mem (h.not_mem hw)).symm

/-- A move of `sh` from `s` to `t` keeps the pool sound, with units and queue as the pool rules say. -/
def PoolFits (s t : State) (sh : ShelfId) : Prop := s.poolSound → t.poolSound ∧ PoolFollows s t sh

theorem PoolFits.refl (s : State) (sh : ShelfId) : PoolFits s s sh := fun h => ⟨h, .refl h sh⟩

section
variable {s t u : State} {sh : ShelfId}

theorem leaveAcquire_of_not {sh : ShelfId} (ha : s.shelves[sh].state.isAcquire = false) : s.leaveAcquire sh = s := by
  unfold State.leaveAcquire
  rw [if_neg (by rw [ha]; exact Bool.false_ne_true)]

/-- A shelf that comes to neither wait nor acquire leaves the queue and gives up its unit (R81, R83). -/
theorem poolFits_out (k : SamePool ((s.leaveAcquire sh).leaveQueue sh) t sh) (hw : t.shelves[sh].state.waits = false)
    (ha : t.shelves[sh].state.isAcquire = false) : PoolFits s t sh := by
  intro h
  cases hacq : s.shelves[sh].state.isAcquire with
  | false =>
    rw [leaveAcquire_of_not hacq] at k
    refine ⟨((poolAside_leaveQueue h hacq).congr k).sound hw ha, poolFollows_of_no_unit h hacq ?_ ?_ ?_⟩
    · rw [hw]; exact nofun
    · rw [ha]; exact nofun
    · exact fun _ _ => ⟨k.units, k.queue⟩
  | true =>
    have hheld := h.2.1
    obtain ⟨unit, hunit⟩ := hheld sh hacq
    have hfree : s.leaveAcquire sh = s.freeUnit sh := by rw [State.leaveAcquire, if_pos hacq]
    obtain ⟨haside, hshape⟩ := poolAside_freeUnit h hunit (.refl s sh) (waits_of_isAcquire hacq)
    rw [hfree] at k
    have hqueue : ((s.freeUnit sh).leaveQueue sh).queue = (s.freeUnit sh).queue :=
      filter_ne_of_not_mem fun hm => ((haside.queue sh).mp hm).1 rfl
    have k' : SamePool (s.freeUnit sh) t sh := ⟨k.units, k.queue.trans hqueue, k.others⟩
    refine ⟨(haside.congr k').sound hw ha, fun he => ?_, fun v hv _ => ?_, fun hno => absurd hunit (hno unit)⟩
    · rw [he, hacq] at ha
      cases ha
    · have hvu : v = unit := h.2.2.1 v unit sh hv hunit
      subst hvu
      rw [hw, ha]
      cases hq : s.queue with
      | nil =>
        rw [hq] at hshape
        exact ⟨k'.queue.trans hshape.2, fun _ => k'.units.trans hshape.1, nofun⟩
      | cons head rest =>
        rw [hq] at hshape
        exact ⟨k'.units.trans hshape.1, k'.queue.trans hshape.2⟩

/-- A shelf that waits, and waits on, keeps its place (R80). -/
theorem poolFits_stay (k : SamePool s t sh) (hw : s.shelves[sh].state.waits = true)
    (hw' : t.shelves[sh].state.waits = true) : PoolFits s t sh := by
  intro h
  have hacq : ∀ {st : ShelfState}, st.waits = true → st.isAcquire = false := fun {st} hst => by
    cases hh : st.isAcquire
    · rfl
    · rw [waits_of_isAcquire hh] at hst
      cases hst
  refine ⟨h.congr k (by rw [hacq hw, hacq hw']) (by rw [hw, hw']), poolFollows_of_no_unit h (hacq hw) ?_ ?_ ?_⟩
  · intro _
    obtain ⟨-, -, -, hqueue, -⟩ := h
    rw [if_pos ((hqueue sh).mpr hw)]
    exact ⟨k.units, k.queue⟩
  · rw [hacq hw']; exact nofun
  · rw [hw']; exact nofun

/-- In a sound pool a shelf in the queue that joins changes nothing: while it waits no unit is idle. -/
theorem join_of_mem (h : s.poolSound) (hm : sh ∈ s.queue) : s.join sh = s := by
  have hq : s.queued sh = s := by
    unfold State.queued
    rw [if_pos (List.contains_iff_mem.mpr hm)]
  rw [join_eq, hq]
  obtain ⟨-, -, -, -, -, hfull⟩ := h
  exact lend_idle (.inl (hfull (List.ne_nil_of_mem hm)))

/-- A shelf that comes to wait joins the queue, having given up its unit where it held one (R80, R82, R83). -/
theorem poolFits_join (k : SamePool (s.leaveAcquire sh) u sh) (hw : u.shelves[sh].state.waits = true)
    (hne : s.shelves[sh].state.isAcquire = true → (u.join sh).shelves[sh].state ≠ s.shelves[sh].state) :
    PoolFits s (u.join sh) sh := by
  intro h
  cases hacq : s.shelves[sh].state.isAcquire with
  | false =>
    rw [leaveAcquire_of_not hacq] at k
    cases hwait : s.shelves[sh].state.waits with
    | true =>
      obtain ⟨hsound, hfollows⟩ := poolFits_stay k hwait hw h
      have hm : sh ∈ u.queue := (hsound.2.2.2.1 sh).mpr hw
      rw [join_of_mem hsound hm]
      exact ⟨hsound, hfollows⟩
    | false =>
      obtain ⟨hsound, hshape⟩ := ((poolAside_of_idle h hwait hacq).congr k).join hw
      rw [k.units, k.queue] at hshape
      refine ⟨hsound, poolFollows_of_no_unit h hacq ?_ ?_ ?_⟩
      · intro hw'
        rw [if_neg (h.not_mem hwait)]
        rcases hshape with ⟨hu, hq, -, -⟩ | ⟨-, -, ha', -⟩
        · exact ⟨hu, hq⟩
        · rw [waits_of_isAcquire ha'] at hw'
          cases hw'
      · intro ha'
        rcases hshape with ⟨-, -, hsame, -⟩ | ⟨hq, hq', -, hlow⟩
        · rw [hsame] at ha'
          rw [waits_of_isAcquire ha'] at hw
          cases hw
        · exact ⟨hq, hq', hlow⟩
      · intro hw' ha'
        rcases hshape with ⟨-, -, hsame, -⟩ | ⟨-, -, ha, -⟩
        · rw [hsame, hw] at hw'
          cases hw'
        · rw [ha] at ha'
          cases ha'
  | true =>
    have hheld := h.2.1
    obtain ⟨unit, hunit⟩ := hheld sh hacq
    have hfree : s.leaveAcquire sh = s.freeUnit sh := by rw [State.leaveAcquire, if_pos hacq]
    obtain ⟨haside, hshape⟩ := poolAside_freeUnit h hunit (.refl s sh) (waits_of_isAcquire hacq)
    rw [hfree] at k
    obtain ⟨hsound, hjoin⟩ := (haside.congr k).join hw
    rw [k.units, k.queue] at hjoin
    refine ⟨hsound, fun he => absurd he (hne hacq), fun v hv _ => ?_, fun hno => absurd hunit (hno unit)⟩
    have hvu : v = unit := h.2.2.1 v unit sh hv hunit
    subst hvu
    cases hq : s.queue with
    | nil =>
      rw [hq] at hshape
      rw [hshape.1, hshape.2] at hjoin
      rcases hjoin with ⟨-, -, -, hfull⟩ | ⟨-, hq', ha', low, hlow, hunits⟩
      · exact absurd (by rw [units_set_get, if_pos rfl]) (hfull v)
      · exact ⟨hq', fun hna => absurd ha' (by rw [hna]; exact Bool.false_ne_true), fun _ => ⟨low, hlow, hunits⟩⟩
    | cons head rest =>
      rw [hq] at hshape
      rw [hshape.1, hshape.2] at hjoin
      rcases hjoin with ⟨hunits, hqueue, hsame, -⟩ | ⟨-, -, -, low, hlow, -⟩
      · have hw' : (u.join sh).shelves[sh].state.waits = true := by rw [hsame]; exact hw
        rw [hw']
        exact ⟨hunits, hqueue⟩
      · have hlow := hlow.1
        rw [units_set_get] at hlow
        split at hlow
        · cases hlow
        · exact absurd hlow (h.2.2.2.2.2 (by rw [hq]; exact List.cons_ne_nil _ _) low)

/-- Two moves in turn, where the shelf did not wait before, and neither waits nor acquires between. -/
theorem poolFits_trans_out (h1 : PoolFits s t sh) (h2 : PoolFits t u sh) (hw : s.shelves[sh].state.waits = false)
    (hw' : t.shelves[sh].state.waits = false) (ha' : t.shelves[sh].state.isAcquire = false)
    (hne : s.shelves[sh].state.isAcquire = true → u.shelves[sh].state ≠ s.shelves[sh].state) : PoolFits s u sh := by
  intro h
  obtain ⟨ht, f1⟩ := h1 h
  obtain ⟨hu, f2⟩ := h2 ht
  obtain ⟨-, f1unit, f1none⟩ := f1
  obtain ⟨-, -, f2none⟩ := f2
  obtain ⟨f2wait, f2acq, f2out⟩ := f2none (ht.no_unit ha')
  have hnotin := ht.not_mem hw'
  rw [if_neg hnotin] at f2wait
  rw [filter_ne_of_not_mem hnotin] at f2out
  refine ⟨hu, ?_⟩
  cases hacq : s.shelves[sh].state.isAcquire with
  | false =>
    obtain ⟨hunits, hqueue⟩ := (f1none (h.no_unit hacq)).2.2 hw' ha'
    have hnot := h.not_mem hw
    rw [filter_ne_of_not_mem hnot] at hqueue
    rw [hunits, hqueue] at f2wait f2acq f2out
    refine poolFollows_of_no_unit h hacq ?_ f2acq ?_
    · rw [if_neg hnot]; exact f2wait
    · rw [filter_ne_of_not_mem hnot]; exact f2out
  | true =>
    refine ⟨fun he => absurd he (hne hacq), fun unit hunit _ => ?_, fun hno => ?_⟩
    · have hne1 : t.shelves[sh].state ≠ s.shelves[sh].state := fun e => by
        rw [e, hacq] at ha'
        cases ha'
      have f1 := f1unit unit hunit hne1
      cases hq : s.queue with
      | nil =>
        rw [hq] at f1
        obtain ⟨hqueue, hunits, -⟩ := f1
        have hunits := hunits ha'
        rw [hqueue, hunits] at f2wait f2acq f2out
        have hidle : (s.units.set unit none)[unit] = none := by rw [units_set_get, if_pos rfl]
        cases hwu : u.shelves[sh].state.waits with
        | true =>
          obtain ⟨hu1, hu2⟩ := f2wait hwu
          refine absurd (?_ : u.units[unit] = none) (hu.2.2.2.2.2 (by rw [hu2]; exact List.cons_ne_nil _ _) unit)
          rw [hu1]
          exact hidle
        | false =>
          cases hau : u.shelves[sh].state.isAcquire with
          | true => exact ⟨(f2acq hau).2.1, nofun, fun _ => (f2acq hau).2.2⟩
          | false => exact ⟨(f2out hwu hau).2, fun _ => (f2out hwu hau).1, nofun⟩
      | cons head rest =>
        rw [hq] at f1
        obtain ⟨hunits, hqueue⟩ := f1
        rw [hw', if_neg Bool.false_ne_true] at hqueue
        rw [hqueue, hunits] at f2wait f2acq f2out
        cases hau : u.shelves[sh].state.isAcquire with
        | true =>
          obtain ⟨-, -, low, hlow, -⟩ := f2acq hau
          have hlow := hlow.1
          rw [units_set_get] at hlow
          split at hlow
          · cases hlow
          · exact absurd hlow (h.2.2.2.2.2 (by rw [hq]; exact List.cons_ne_nil _ _) low)
        | false =>
          cases hwu : u.shelves[sh].state.waits with
          | true => exact ⟨(f2wait hwu).1, (f2wait hwu).2⟩
          | false => exact ⟨(f2out hwu hau).1, (f2out hwu hau).2⟩
    · obtain ⟨unit, hunit⟩ := h.2.1 sh hacq
      exact absurd hunit (hno unit)

/-! ## The moves of chapters 5 and 7 -/

theorem poolFits_toward (p : PortId) (cause : Cause) (hq : ∀ q left, s.shelves[sh].state = .acquire q left → q ≠ p) :
    PoolFits s (s.toward sh p cause) sh := by
  refine poolFits_join (samePool_enterState _ _ _ _ _) (by rw [enterState_self]; rfl) fun hacq he => ?_
  obtain ⟨hstate, -⟩ := toward_shelf s sh p cause
  have he : (s.toward sh p cause).shelves[sh].state = s.shelves[sh].state := he
  rcases hstate with e | e <;> rw [e] at he
  · rw [← he] at hacq
    cases hacq
  · exact hq p _ he.symm rfl

theorem poolFits_rest (cause : Cause) : PoolFits s (s.rest sh cause) sh := by
  refine poolFits_out ?_ ?_ ?_
  · unfold State.rest
    rw [enterRest_eq]
    exact samePool_enterState _ _ _ _ _
  · rw [rest_shelf]
    show (s.restState sh).waits = false
    unfold State.restState
    split <;> rfl
  · rw [rest_shelf]
    show (s.restState sh).isAcquire = false
    unfold State.restState
    split <;> rfl

theorem poolFits_reselect (cause : Cause)
    (hq : ∀ q left, s.shelves[sh].state = .acquire q left → s.choice sh ≠ some q) : PoolFits s (s.reselect sh cause) sh := by
  unfold State.reselect
  split
  · next p hp => exact poolFits_toward p cause fun q left e h => hq q left e (by rw [hp, h])
  · exact poolFits_rest cause

theorem poolFits_park (cause : Cause) : PoolFits s (s.park sh cause) sh := by
  have hself : (s.park sh cause).shelves[sh].state = .parked := by
    unfold State.park
    rw [setShelf_get_self, enterState_self]
    rfl
  refine poolFits_out ?_ (by rw [hself]; rfl) (by rw [hself]; rfl)
  exact (samePool_enterState _ _ _ _ _).trans (samePool_setShelf _ _ _)

theorem poolFits_bridge (hlocked : s.shelves[sh].state.isLocked = true) (c : PortId) (cause : Cause) :
    PoolFits s (s.bridge sh c cause) sh := by
  refine poolFits_out ?_ (by rw [bridge_shelf]; rfl) (by rw [bridge_shelf]; rfl)
  rw [leaveAcquire_of_not (isLocked_others hlocked).2.2]
  exact samePool_enterState _ _ _ _ _

theorem poolFits_dropPending (hlocked : s.shelves[sh].state.isLocked = true) (c : PortId) :
    PoolFits s (s.dropPending sh c) sh := by
  refine poolFits_out ?_ (by rw [dropPending_shelf]; rfl) (by rw [dropPending_shelf]; rfl)
  rw [leaveAcquire_of_not (isLocked_others hlocked).2.2]
  exact ⟨rfl, rfl, fun x hx => setShelf_get_ne s sh x _ hx.symm⟩

theorem poolFits_unbridge {c' : PortId} {left : Nat} (hs : s.shelves[sh].state = .bridge c' left) (c : PortId) :
    PoolFits s (s.unbridge sh c) sh := by
  intro h
  have hnot : sh ∉ s.queue := h.not_mem (by rw [hs]; rfl)
  refine poolFits_out ?_ (by rw [unbridge_shelf]; rfl) (by rw [unbridge_shelf]; rfl) h
  rw [leaveAcquire_of_not (by rw [hs]; rfl)]
  have hleave : (s.leaveQueue sh).queue = s.queue := filter_ne_of_not_mem hnot
  exact ⟨enterState_units _ _ _ _ _, (enterState_queue _ _ _ _ _).trans hleave.symm,
    (samePool_enterState s sh _ _ _).others⟩

theorem poolFits_retarget {q : PortId} (hs : s.shelves[sh].state = .queued q) (b : PortId) (cause : Option Cause) :
    PoolFits s (s.enterState sh (.queued b) cause none) sh :=
  poolFits_stay (samePool_enterState _ _ _ _ _) (by rw [hs]; rfl) (by rw [enterState_self]; rfl)

theorem poolFits_gainPending (hlocked : s.shelves[sh].state.isLocked = true) (c b : PortId) (cause : Cause) :
    PoolFits s (s.gainPending sh c b cause) sh := by
  have hna := (isLocked_others hlocked).2.2
  refine poolFits_join ?_ (by rw [setShelf_get_self]; rfl) fun hacq => ?_
  · rw [leaveAcquire_of_not hna]
    exact samePool_setShelf s sh _
  · rw [hna] at hacq
    cases hacq

theorem poolFits_applySwitchRule (hlocked : s.shelves[sh].state.isLocked = true) (c : PortId) :
    PoolFits s (s.applySwitchRule sh c) sh := by
  unfold State.applySwitchRule
  split
  · exact poolFits_gainPending hlocked c _ _
  · split
    · exact poolFits_dropPending hlocked c
    · exact .refl s sh

/-! ## A shelf acts -/

theorem poolFits_loseReference (hlocked : s.shelves[sh].state.isLocked = true)
    (c : PortId) (x : Ctx) : PoolFits s (s.loseReference sh c x) sh := by
  have hq : ∀ q left, s.shelves[sh].state = .acquire q left → s.choice sh ≠ some q := fun q left e => by
    rw [e] at hlocked
    cases hlocked
  unfold State.loseReference
  split
  · split
    · exact poolFits_reselect _ hq
    · exact poolFits_bridge hlocked c _
  · exact poolFits_reselect _ hq

theorem poolFits_actAuto (hauto : s.shelves[sh].steering = .auto) (x : Ctx) : PoolFits s (s.actAuto sh x) sh := by
  unfold State.actAuto
  cases hs : s.shelves[sh].state with
  | held _ => exact .refl s sh
  | parked => exact .refl s sh
  | freerun =>
    simp only
    split
    · exact poolFits_toward _ _ fun q left e => by rw [hs] at e; cases e
    · exact .refl s sh
  | holdover _ =>
    simp only
    split
    · exact poolFits_toward _ _ fun q left e => by rw [hs] at e; cases e
    · exact .refl s sh
  | queued t =>
    simp only [State.actQueued]
    split
    · exact poolFits_reselect _ fun q left e => by rw [hs] at e; cases e
    · split
      · split
        · exact .refl s sh
        · exact poolFits_retarget hs _ none
      · exact poolFits_rest _
  | acquire t left =>
    simp only
    split
    · exact .refl s sh
    · next he =>
      refine poolFits_reselect _ fun q left' e => ?_
      rw [hs] at e
      injection e with e
      subst e
      rw [choice_auto hauto]
      exact best_ne (by simpa using he)
  | locked c pend =>
    simp only [State.actLocked]
    split
    · exact poolFits_applySwitchRule (by rw [hs]; rfl) c
    · exact poolFits_loseReference (by rw [hs]; rfl) c x
  | bridge c left =>
    simp only [State.actBridge]
    have hself := unbridge_shelf s sh c
    split
    · exact poolFits_trans_out (poolFits_unbridge hs c) (poolFits_applySwitchRule (by rw [hself]; rfl) c) (by rw [hs]; rfl)
        (by rw [hself]; rfl) (by rw [hself]; rfl) (by rw [hs]; exact nofun)
    · split
      · exact .refl s sh
      · exact poolFits_reselect _ fun q left e => by rw [hs] at e; cases e

/-- Dropping a steering, and a pending target with it, keeps the pool sound. -/
theorem poolSound_unsteered (h : s.poolSound) : (s.unsteered sh).poolSound := by
  have hget : (s.unsteered sh).shelves[sh] = { s.shelves[sh] with steering := .auto, state := s.shelves[sh].state.unpended } :=
    (setShelf_get_self s sh _).trans rfl
  have hother : ∀ x : ShelfId, x ≠ sh → (s.unsteered sh).shelves[x] = s.shelves[x] := fun x hx =>
    setShelf_get_ne s sh x _ hx.symm
  cases hs : s.shelves[sh].state with
  | locked c pend =>
    cases pend with
    | none =>
      refine h.congr (sh := sh) ⟨rfl, ?_, hother⟩ ?_ ?_
      · simp only [State.unsteered, hs, ShelfState.pending?, Option.isSome_none, Bool.false_eq_true, if_false]
      · rw [hget, hs]; rfl
      · rw [hget, hs]; rfl
    | some pair =>
      refine (poolFits_dropPending (sh := sh) (by rw [hs]; rfl) c h).1.congr (sh := sh) ⟨rfl, ?_, fun x hx => ?_⟩ ?_ ?_
      · simp only [State.unsteered, hs, ShelfState.pending?, Option.isSome_some, if_true]
        rfl
      · rw [hother x hx]
        exact (setShelf_get_ne s sh x _ hx.symm).symm
      · rw [hget, dropPending_shelf, hs]; rfl
      · rw [hget, dropPending_shelf, hs]; rfl
  | _ =>
    refine h.congr (sh := sh) ⟨rfl, ?_, hother⟩ ?_ ?_
    · simp only [State.unsteered, hs, ShelfState.pending?, Option.isSome_none, Bool.false_eq_true, if_false]
    · rw [hget, hs]; rfl
    · rw [hget, hs]; rfl

/-- A shelf whose steering is lost moves from the part without it. -/
theorem poolFits_actUnsteered (x : Ctx) : PoolFits (s.unsteered sh) (s.actUnsteered sh x) sh := by
  intro h
  rw [actUnsteered_eq]
  have hshelves : ((s.unsteered sh).raiseShelf sh .steerLost).shelves = (s.unsteered sh).shelves :=
    raiseShelfOpt_shelves _ sh (some .steerLost)
  have hunits : ((s.unsteered sh).raiseShelf sh .steerLost).units = (s.unsteered sh).units :=
    raiseShelfOpt_units _ sh (some .steerLost)
  have hqueue : ((s.unsteered sh).raiseShelf sh .steerLost).queue = (s.unsteered sh).queue :=
    raiseShelfOpt_queue _ sh (some .steerLost)
  have hfits := poolFits_actAuto (s := (s.unsteered sh).raiseShelf sh .steerLost) (sh := sh)
    (by rw [unsteered_shelf]) { x with strict := true }
  obtain ⟨hsound, hfollows⟩ := hfits (h.congr (sh := sh) ⟨hunits, hqueue, fun x _ => by rw [hshelves]⟩
    (by rw [hshelves]) (by rw [hshelves]))
  exact ⟨hsound, hfollows.congr hunits.symm hqueue.symm (by rw [hshelves]) rfl rfl rfl⟩

/-- A shelf acts within the pool rules, or loses its steering and acts so without it. -/
theorem poolFits_actSteer (p : PortId) (x : Ctx) :
    PoolFits s (s.actSteer sh p x) sh ∧ (s.actSteer sh p x).shelves[sh].steering = s.shelves[sh].steering ∨
      s.actSteer sh p x = s.actUnsteered sh x := by
  unfold State.actSteer
  cases hs : s.shelves[sh].state with
  | locked c pend =>
    simp only
    split
    · split
      · exact .inl ⟨.refl s sh, rfl⟩
      · split
        · exact .inl ⟨poolFits_bridge (by rw [hs]; rfl) p _, by rw [bridge_shelf]; rfl⟩
        · exact .inr rfl
    · split
      · split
        · exact .inl ⟨.refl s sh, rfl⟩
        · exact .inl ⟨poolFits_toward _ _ fun q left e => by (rw [hs] at e; cases e), toward_steering (by rw [hs]; rfl) _ _⟩
      · exact .inr rfl
  | bridge c left =>
    simp only
    split
    · exact .inl ⟨poolFits_unbridge hs c, by rw [unbridge_shelf]; rfl⟩
    · split
      · exact .inl ⟨.refl s sh, rfl⟩
      · exact .inr rfl
  | queued t =>
    simp only
    split
    · exact .inl ⟨.refl s sh, rfl⟩
    · exact .inr rfl
  | acquire t left =>
    simp only
    split
    · exact .inl ⟨.refl s sh, rfl⟩
    · exact .inr rfl
  | _ => exact .inl ⟨.refl s sh, rfl⟩

theorem poolFits_actPinActive (p : PortId) (x : Ctx) : PoolFits s (s.actPinActive sh p x) sh := by
  unfold State.actPinActive
  cases hs : s.shelves[sh].state with
  | locked c pend =>
    simp only
    split
    · exact poolFits_toward _ _ fun q left e => by rw [hs] at e; cases e
    · exact .refl s sh
  | bridge c left =>
    simp only
    split
    · exact poolFits_unbridge hs c
    · exact .refl s sh
  | freerun => exact poolFits_toward _ _ fun q left e => by rw [hs] at e; cases e
  | holdover _ => exact poolFits_toward _ _ fun q left e => by rw [hs] at e; cases e
  | _ => exact .refl s sh

theorem poolFits_actPinInactive (p : PortId) (x : Ctx) : PoolFits s (s.actPinInactive sh p x) sh := by
  unfold State.actPinInactive
  cases hs : s.shelves[sh].state with
  | locked c pend =>
    simp only
    split
    · exact poolFits_bridge (by rw [hs]; rfl) _ _
    · exact poolFits_rest _
  | queued _ => exact poolFits_rest _
  | acquire _ _ => exact poolFits_rest _
  | _ => exact .refl s sh

theorem poolFits_actPin (p : PortId) (x : Ctx) :
    PoolFits s (s.actPin sh p x) sh ∧ (s.actPin sh p x).shelves[sh].steering = s.shelves[sh].steering ∨
      s.actPin sh p x = s.actUnsteered sh x := by
  unfold State.actPin
  split
  · exact .inr rfl
  · split
    · exact .inl ⟨poolFits_actPinActive p x, (acts_actPinActive p x).choose_spec.2.1⟩
    · exact .inl ⟨poolFits_actPinInactive p x, (acts_actPinInactive p x).choose_spec.2.1⟩

/-- A shelf acts within the pool rules with its steering kept, or it loses its steering and acts so without it. -/
theorem poolFits_or_unsteers_act (s : State) (sh : ShelfId) (x : Ctx) :
    PoolFits s (s.act sh x) sh ∧ (s.act sh x).shelves[sh].steering = s.shelves[sh].steering ∨
      s.shelves[sh].steering ≠ .auto ∧ s.act sh x = s.actUnsteered sh x := by
  unfold State.act
  cases h : s.shelves[sh].steering with
  | auto => exact .inl ⟨poolFits_actAuto h x, (acts_actAuto h x).choose_spec.2.1.trans h⟩
  | steer p => exact (poolFits_actSteer p x).imp (fun ⟨hf, hs⟩ => ⟨hf, hs.trans h⟩) fun e => ⟨nofun, e⟩
  | pin p => exact (poolFits_actPin p x).imp (fun ⟨hf, hs⟩ => ⟨hf, hs.trans h⟩) fun e => ⟨nofun, e⟩

/-- The part that a shelf's move starts from: without its steering, where the move takes it. -/
def State.unsteeredIfLost (s t : State) (sh : ShelfId) : State :=
  if s.shelves[sh].steering ≠ .auto ∧ t.shelves[sh].steering = .auto then s.unsteered sh else s

theorem poolFits_act (h : s.poolSound) (x : Ctx) : (s.act sh x).poolSound ∧
    PoolFollows (s.unsteeredIfLost (s.act sh x) sh) (s.act sh x) sh := by
  unfold State.unsteeredIfLost
  rcases poolFits_or_unsteers_act s sh x with ⟨hf, hs⟩ | ⟨hne, e⟩
  · rw [if_neg fun ⟨hne, hauto⟩ => hne (by rw [← hs]; exact hauto)]
    exact hf h
  · have hauto : (s.act sh x).shelves[sh].steering = .auto := by
      rw [e]
      obtain ⟨K, -, -, hauto, -⟩ := moved_actUnsteered s sh x
      exact hauto
    rw [if_pos ⟨hne, hauto⟩, e]
    exact poolFits_actUnsteered x (poolSound_unsteered h)

end

end Sys2Proof.Machine
end

section
/-!
PROOFS. What a move leaves once validity and nominees have followed it (R71, R105): the relations of Safety.lean survive a
refresh, and a start from the part with a steering changed.
-/

namespace Sys2Proof.Machine

section
variable {s t u b : State} {sh : ShelfId}

/-! ## Shelves that keep their record -/

theorem ShelfKept.state_of_not_held (h : ShelfKept s t sh) (hn : s.shelves[sh].state.isHeld = false) :
    t.shelves[sh].state = s.shelves[sh].state := h.2.resolve_right fun e => by
  rw [e.1] at hn
  cases hn

theorem ShelfKept.isHeld (h : ShelfKept s t sh) : t.shelves[sh].state.isHeld = s.shelves[sh].state.isHeld := by
  rcases h.2 with e | ⟨e, e'⟩
  · rw [e]
  · rw [e, e']

theorem ShelfKept.fields (h : ShelfKept s t sh) :
    t.shelves[sh].steering = s.shelves[sh].steering ∧ t.shelves[sh].learned = s.shelves[sh].learned ∧
      t.shelves[sh].lastCause = s.shelves[sh].lastCause ∧ t.shelves[sh].changed = s.shelves[sh].changed := by
  rw [h.1]
  exact ⟨rfl, rfl, rfl, rfl⟩

/-- The kinds a change of state raises do not tell two HELD states apart. -/
theorem shelfRaises_held {a c d : ShelfState} (hc : c.isHeld = true) (hd : d.isHeld = true) (lost : Bool) (k : DomainEvent) :
    shelfRaises a c lost k = shelfRaises a d lost k := by
  cases c <;> simp only [ShelfState.isHeld, Bool.false_eq_true] at hc
  cases d <;> simp only [ShelfState.isHeld, Bool.false_eq_true] at hd
  cases k <;> simp [shelfRaises, ShelfState.isQueued, ShelfState.isAcquire, ShelfState.isLocked,
      ShelfState.isBridge, ShelfState.isHoldover, ShelfState.isFreerun]

theorem ShelfKept.raises (h : ShelfKept u t sh) (a : ShelfState) (lost : Bool) (k : DomainEvent) :
    shelfRaises a t.shelves[sh].state lost k = shelfRaises a u.shelves[sh].state lost k := by
  rcases h.2 with e | ⟨e, e'⟩
  · rw [e]
  · exact shelfRaises_held e' e lost k

/-! ## Refreshing after a move -/

theorem EventsOfMoves.kept (h : EventsOfMoves s u) (k : ShelvesKept u t) : EventsOfMoves s t := by
  obtain ⟨-, -, he, hk⟩ := k
  intro d e
  have hsteer : ∀ x : ShelfId, t.shelves[x].steering = u.shelves[x].steering := fun x => (hk x).fields.1
  simp only [(hk _).raises, hsteer]
  unfold State.masked State.latched
  rw [he]
  exact h d e

theorem Undisturbed.kept (h : Undisturbed s u sh) (k : ShelfKept u t sh) : Undisturbed s t sh := by
  rcases h with h | h
  · exact .inl (h.trans k)
  · refine .inr ?_
    have hacq := h.acquires.1
    have hstate : t.shelves[sh].state = u.shelves[sh].state := k.state_of_not_held (by
      cases hs : u.shelves[sh].state <;> rw [hs] at hacq <;> first | rfl | cases hacq)
    obtain ⟨hq, ⟨p, hs, ht⟩ | ⟨c, p, cause, hs, ht⟩⟩ := h.cases
    · refine .queued hq hs ?_
      rw [k.1, hstate, ht]
    · refine .locked hq hs ?_
      rw [k.1, hstate, ht]

theorem Raised.kept {k : DomainEvent} (h : Raised s u sh k) (he : t.domainEvents = u.domainEvents) : Raised s t sh k :=
  fun d hd hm => by
    unfold State.latched
    rw [he]
    exact h d hd hm

/-- Raised from another start with the same partition and the same masks. -/
theorem Raised.start {k : DomainEvent} (h : Raised b t sh k) (hc : Consequences s b) (hm : b.domainEvents = s.domainEvents) :
    Raised s t sh k := fun d hd hmask => by
  refine h d (by rw [hc.shelfDomain]; exact hd) ?_
  unfold State.masked
  rw [hm]
  exact hmask

/-- In HELD, or where the state stays, a refresh changes nothing for the pool rules. -/
theorem PoolFollows.kept (h : PoolFollows s u sh) (hs : s.poolSound) (k : ShelvesKept u t)
    (hheld : u.shelves[sh].state.isHeld = s.shelves[sh].state.isHeld) : PoolFollows s t sh := by
  obtain ⟨hunits, hqueue, -, hk⟩ := k
  rcases (hk sh).2 with e | ⟨hu, ht⟩
  · exact h.congr rfl rfl rfl hunits hqueue e
  · have hplain : ∀ {st : ShelfState}, st.isHeld = true → st.isAcquire = false ∧ st.waits = false := by
      intro st hst
      cases st <;> first | exact ⟨rfl, rfl⟩ | cases hst
    obtain ⟨ha, -⟩ := hplain (hheld ▸ hu)
    obtain ⟨hua, huw⟩ := hplain hu
    obtain ⟨hta, htw⟩ := hplain ht
    have hout := (h.2.2 (hs.no_unit ha)).2.2 huw hua
    refine poolFollows_of_no_unit hs ha ?_ ?_ fun _ _ => by rw [hunits, hqueue]; exact hout
    · rw [htw]; exact nofun
    · rw [hta]; exact nofun

/-! ## Moves from another start

`b` is the part with a steering changed or a pending target dropped, from which a rule's move starts. -/

theorem EventsOfMoves.start (h : EventsOfMoves b t) (hc : Consequences s b) (he : b.domainEvents = s.domainEvents)
    (hr : ∀ (x : ShelfId) (k : DomainEvent), shelfRaises b.shelves[x].state t.shelves[x].state (steeringLost b t x) k =
      shelfRaises s.shelves[x].state t.shelves[x].state (steeringLost s t x) k) : EventsOfMoves s t := by
  intro d k
  have h := h d k
  have hr : ∀ x : ShelfId, _ = _ := fun x => hr x k
  unfold steeringLost at hr
  simp only [hr, hc.shelfDomain, State.masked, State.latched, he] at h
  exact h

/-- What the rest of a move leaves of another shelf, where the start left it alone. -/
theorem Undisturbed.start (h : Undisturbed b t sh) (hc : Consequences s b) (hs : b.shelves[sh] = s.shelves[sh])
    (hq : sh ∈ b.queue → sh ∈ s.queue) : Undisturbed s t sh := by
  rcases h with h | h
  · refine .inl ?_
    unfold ShelfKept at h ⊢
    rw [hs] at h
    exact h
  · refine .inr ?_
    obtain ⟨hb, ⟨p, hst, ht⟩ | ⟨c, p, cause, hst, ht⟩⟩ := h.cases
    · rw [hs] at hst
      exact .queued (hq hb) hst (by rw [hs, hc.settleMs] at ht; exact ht)
    · rw [hs] at hst
      exact .locked (hq hb) hst (by rw [hs, hc.settleMs] at ht; exact ht)

/-! ## Going toward a port, resting, bridging -/

theorem GoesToward.kept {p : PortId} {cause : Cause} (h : GoesToward s u sh p cause) (k : ShelvesKept u t) :
    GoesToward s t sh p cause := by
  obtain ⟨-, -, he, hk⟩ := k
  obtain ⟨hstate, hcause, hchanged, hraised⟩ := h
  obtain ⟨-, -, hc, hch⟩ := (hk sh).fields
  have hst : t.shelves[sh].state = u.shelves[sh].state :=
    (hk sh).state_of_not_held (by rcases hstate with e | e <;> rw [e] <;> rfl)
  exact ⟨hst ▸ hstate, hc.trans hcause, hch.trans hchanged, fun hq => (hraised hq).kept he⟩

theorem Rests.kept {cause : Cause} (h : Rests s u sh cause) (k : ShelvesKept u t) : Rests s t sh cause := by
  obtain ⟨-, hqueue, he, hk⟩ := k
  obtain ⟨hstate, hcause, hchanged, hmem, hraised⟩ := h
  obtain ⟨-, -, hc, hch⟩ := (hk sh).fields
  have hst : t.shelves[sh].state = u.shelves[sh].state :=
    (hk sh).state_of_not_held (by rw [hstate]; split <;> rfl)
  exact ⟨hst.trans hstate, hc.trans hcause, hch.trans hchanged, by rw [hqueue]; exact hmem, hraised.kept he⟩

theorem Bridges.kept {c : PortId} {cause : Cause} (h : Bridges s u sh c cause) (k : ShelvesKept u t) :
    Bridges s t sh c cause := by
  obtain ⟨-, hqueue, he, hk⟩ := k
  obtain ⟨hstate, hcause, hchanged, hmem, hraised⟩ := h
  obtain ⟨-, -, hc, hch⟩ := (hk sh).fields
  have hst : t.shelves[sh].state = u.shelves[sh].state := (hk sh).state_of_not_held (by rw [hstate]; rfl)
  exact ⟨hst.trans hstate, hc.trans hcause, hch.trans hchanged, by rw [hqueue]; exact hmem, hraised.kept he⟩

theorem Reselects.kept {choice : Option PortId} {cause : Cause} (h : Reselects s u sh choice cause) (k : ShelvesKept u t) :
    Reselects s t sh choice cause := by
  cases choice with
  | some p => exact GoesToward.kept h k
  | none => exact Rests.kept h k

theorem GoesToward.start {p : PortId} {cause : Cause} (h : GoesToward b t sh p cause) (hc : Consequences s b)
    (he : b.domainEvents = s.domainEvents) (hq : b.shelves[sh].state.isQueued = s.shelves[sh].state.isQueued) :
    GoesToward s t sh p cause := by
  obtain ⟨hstate, hcause, hchanged, hraised⟩ := h
  rw [hc.settleMs] at hstate
  exact ⟨hstate, hcause, hchanged, fun e => (hraised (hq.trans e)).start hc he⟩

theorem Rests.start {cause : Cause} (h : Rests b t sh cause) (hc : Consequences s b)
    (he : b.domainEvents = s.domainEvents) (hl : b.shelves[sh].learned = s.shelves[sh].learned) : Rests s t sh cause := by
  obtain ⟨hstate, hcause, hchanged, hmem, hraised⟩ := h
  rw [hc.holdoverValid hl, hc.limitMs] at hstate
  rw [hc.holdoverValid hl] at hraised
  exact ⟨hstate, hcause, hchanged, hmem, hraised.start hc he⟩

theorem Bridges.start {c : PortId} {cause : Cause} (h : Bridges b t sh c cause) (hc : Consequences s b)
    (he : b.domainEvents = s.domainEvents) : Bridges s t sh c cause := by
  obtain ⟨hstate, hcause, hchanged, hmem, hraised⟩ := h
  rw [hc.shelfHoldOff] at hstate
  exact ⟨hstate, hcause, hchanged, hmem, hraised.start hc he⟩

theorem Reselects.start {choice : Option PortId} {cause : Cause} (h : Reselects b t sh choice cause) (hc : Consequences s b)
    (he : b.domainEvents = s.domainEvents) (hq : b.shelves[sh].state.isQueued = s.shelves[sh].state.isQueued)
    (hl : b.shelves[sh].learned = s.shelves[sh].learned) : Reselects s t sh choice cause := by
  cases choice with
  | some p => exact GoesToward.start h hc he hq
  | none => exact Rests.start h hc he hl

end

end Sys2Proof.Machine
end

section
/-!
PROOFS. The steering requests: STEER (R124, R125), PIN (R128, R129) and CLEAR STEERING (R132). Each sets the steering and
then moves the shelf by one row of its table; what the move leaves is what Moves.lean's operations leave.
-/

namespace Sys2Proof.Machine

/-! ## The rows as moves -/

/-- A move with exactly its events, within the pool rules. -/
def Fits (s t : State) (sh : ShelfId) : Prop := Acts s t sh ∧ PoolFits s t sh

section
variable {s : State} {sh : ShelfId}

theorem Fits.refl (s : State) (sh : ShelfId) : Fits s s sh := ⟨.refl s sh, .refl s sh⟩

theorem fits_toward (hheld : s.shelves[sh].state.isHeld = false) {p : PortId} (cause : Cause)
    (hq : ∀ q left, s.shelves[sh].state = .acquire q left → q ≠ p) : Fits s (s.toward sh p cause) sh :=
  ⟨acts_toward hheld cause hq, poolFits_toward p cause hq⟩

/-- From a state that is not ACQUIRE a shelf may go toward any port. -/
theorem fits_toward_free (hheld : s.shelves[sh].state.isHeld = false) (ha : s.shelves[sh].state.isAcquire = false)
    (p : PortId) (cause : Cause) : Fits s (s.toward sh p cause) sh :=
  fits_toward hheld cause fun q left e => by rw [e] at ha; cases ha

theorem fits_acquire {q p : PortId} {left : Nat} (h : s.shelves[sh].state = .acquire q left) (cause : Cause) :
    Fits s (if q = p then s else s.toward sh p cause) sh := by
  split
  · exact .refl s sh
  · next hq =>
    refine fits_toward (by rw [h]; rfl) cause fun q' left' e => ?_
    rw [h] at e
    injection e with e
    exact e ▸ hq

theorem fits_queued {q p : PortId} (h : s.shelves[sh].state = .queued q) (cause : Cause) :
    Fits s (if q = p then s else s.toward sh p cause) sh := by
  split
  · exact .refl s sh
  · exact fits_toward_free (by rw [h]; rfl) (by rw [h]; rfl) p cause

theorem fits_locked {c p : PortId} {pend : Option (PortId × Cause)} (h : s.shelves[sh].state = .locked c pend)
    (cause : Cause) : Fits s (if c = p then s.dropPending sh c else s.gainPending sh c p cause) sh := by
  have hlocked : s.shelves[sh].state.isLocked = true := by rw [h]; rfl
  split
  · exact ⟨acts_dropPending hlocked c, poolFits_dropPending hlocked c⟩
  · exact ⟨acts_gainPending hlocked c p cause, poolFits_gainPending hlocked c p cause⟩

theorem fits_rest (hn : s.shelves[sh].state.names = true) (cause : Cause) : Fits s (s.rest sh cause) sh := by
  obtain ⟨hheld, -, hho, hf⟩ := names_iff.mp hn
  exact ⟨acts_rest hheld hho hf cause, poolFits_rest cause⟩

theorem fits_unless_rest (hn : s.shelves[sh].state.names = true) (c p : PortId) (cause : Cause) :
    Fits s (if c = p then s else s.rest sh cause) sh := by
  split
  · exact .refl s sh
  · exact fits_rest hn cause

theorem fits_steerTo (s : State) (sh : ShelfId) (p : PortId) : Fits s (s.steerTo sh p) sh := by
  unfold State.steerTo
  cases h : s.shelves[sh].state with
  | held _ => exact .refl s sh
  | parked => exact .refl s sh
  | locked c pend => exact fits_locked h .steer
  | acquire q left => exact fits_acquire h .steer
  | queued q => exact fits_queued h .steer
  | _ => exact fits_toward_free (by rw [h]; rfl) (by rw [h]; rfl) p .steer

theorem fits_pinToLive (s : State) (sh : ShelfId) (p : PortId) : Fits s (s.pinToLive sh p) sh := by
  unfold State.pinToLive
  cases h : s.shelves[sh].state with
  | held _ => exact .refl s sh
  | parked => exact .refl s sh
  | locked c pend => exact fits_locked h .pin
  | acquire q left => exact fits_acquire h .pin
  | queued q => exact fits_queued h .pin
  | bridge c left =>
    simp only
    split
    · exact ⟨acts_unbridge h, poolFits_unbridge h c⟩
    · exact fits_toward_free (by rw [h]; rfl) (by rw [h]; rfl) p .pin
  | _ => exact fits_toward_free (by rw [h]; rfl) (by rw [h]; rfl) p .pin

theorem fits_pinToQuiet (s : State) (sh : ShelfId) (p : PortId) : Fits s (s.pinToQuiet sh p) sh := by
  unfold State.pinToQuiet
  cases h : s.shelves[sh].state with
  | locked c pend => exact fits_unless_rest (by rw [h]; rfl) c p .pin
  | acquire q left => exact fits_unless_rest (by rw [h]; rfl) q p .pin
  | queued q => exact fits_unless_rest (by rw [h]; rfl) q p .pin
  | bridge c left => exact fits_unless_rest (by rw [h]; rfl) c p .pin
  | _ => exact .refl s sh

theorem fits_pinTo (s : State) (sh : ShelfId) (p : PortId) : Fits s (s.pinTo sh p) sh := by
  unfold State.pinTo
  split
  · exact fits_pinToLive s sh p
  · exact fits_pinToQuiet s sh p

end

/-! ## A steering set, and the shelf moved -/

theorem setSteering_self (s : State) (sh : ShelfId) (st : Steering) :
    (s.setSteering sh st).shelves[sh] = { s.shelves[sh] with steering := st } := setShelf_get_self s sh _

theorem setSteering_other (s : State) {sh x : ShelfId} (st : Steering) (hx : x ≠ sh) :
    (s.setSteering sh st).shelves[x] = s.shelves[x] := setShelf_get_ne s sh x _ hx.symm

section
variable {s u t : State} {sh : ShelfId} {st : Steering}

theorem setSteering_consequences (s : State) (sh : ShelfId) (st : Steering) : Consequences s (s.setSteering sh st) :=
  (moves_setSteering s sh st).consequences

/-- What a request leaves that sets a shelf's steering and makes one move with exactly its events. -/
theorem steered_acts (h : Acts (s.setSteering sh st) u sh) (k : ShelvesKept u t) :
    EventsOfMoves (s.setSteering sh st) t ∧ (∀ other : ShelfId, other ≠ sh → Undisturbed s t other) ∧
      t.shelves[sh].steering = st ∧ t.shelves[sh].learned = s.shelves[sh].learned := by
  have hself := setSteering_self s sh st
  have hev := h.eventsOfMoves
  obtain ⟨K, hm, hs, -⟩ := h
  have hk := k.2.2.2
  refine ⟨hev.kept k, fun x hx => ?_, ?_, ?_⟩
  · exact ((hm.undisturbed x hx).kept (hk x)).start (setSteering_consequences s sh st) (setSteering_other s st hx) id
  · rw [(hk sh).fields.1, hs, hself]
  · rw [(hk sh).fields.2.1, hm.learned, hself]

/-- And where the move is within the pool rules, so is the request's. -/
theorem steered (h : Fits (s.setSteering sh st) u sh) (k : ShelvesKept u t) :
    EventsOfMoves (s.setSteering sh st) t ∧ (∀ other : ShelfId, other ≠ sh → Undisturbed s t other) ∧
      (s.poolSound → PoolFollows s t sh) ∧ t.shelves[sh].steering = st ∧
      t.shelves[sh].learned = s.shelves[sh].learned := by
  have hself := setSteering_self s sh st
  obtain ⟨ha, hf⟩ := h
  obtain ⟨hev, hother, hsteer, hlearned⟩ := steered_acts ha k
  obtain ⟨K, hm, -⟩ := ha
  refine ⟨hev, hother, fun hp => ?_, hsteer, hlearned⟩
  have hp' : (s.setSteering sh st).poolSound :=
    hp.congr (sh := sh) ⟨rfl, rfl, fun x hx => setSteering_other s st hx⟩ (by rw [hself]) (by rw [hself])
  exact ((hf hp').2.kept hp' k hm.held).congr rfl rfl (by rw [hself]) rfl rfl rfl

/-- A steering set other than AUTO is not lost: the events are those of the change of state. -/
theorem eventsOfMoves_steered (h : EventsOfMoves (s.setSteering sh st) t) (hst : st ≠ .auto)
    (ht : t.shelves[sh].steering = st) : EventsOfMoves s t := by
  refine h.start (setSteering_consequences s sh st) rfl fun x k => ?_
  by_cases hx : x = sh
  · subst hx
    have hne : (t.shelves[x].steering == .auto) = false := by rw [ht]; exact beq_false_of_ne hst
    unfold steeringLost
    rw [hne, Bool.and_false, Bool.and_false, setSteering_self]
  · unfold steeringLost
    rw [setSteering_other s st hx]

/-- A HELD shelf moves only in its nominee. -/
theorem held_refreshed {nom : Option PortId} (hu : u = s.setSteering sh st) (hs : s.shelves[sh].state = .held nom)
    (ht : t.shelves[sh] = (State.refresh s u).shelves[sh]) :
    t.shelves[sh].state = .held ((s.setSteering sh st).nomineeOf sh) ∧ MarksKept s t sh := by
  have hself := setSteering_self s sh st
  unfold MarksKept
  rw [ht, refresh_shelf, hu, hself, hs]
  exact ⟨rfl, rfl, rfl⟩

/-- A shelf whose record the move leaves alone keeps state and marks. -/
theorem marksKept_of_same (k : ShelfKept u t sh) (hl : u.shelves[sh].lastCause = s.shelves[sh].lastCause)
    (hc : u.shelves[sh].changed = s.shelves[sh].changed) : MarksKept s t sh :=
  ⟨k.fields.2.2.1.trans hl, k.fields.2.2.2.trans hc⟩

end

end Sys2Proof.Machine
end

section
/-!
PROOFS. STEER and PIN (R124, R125, R128, R129): each row of their tables is the shelf's record after one branch of the
request's rule.
-/

namespace Sys2Proof.Machine

section
variable {s u t : State} {sh : ShelfId} {p : PortId}

/-- What a request that sets a steering and moves its shelf to `u` answers, and what is then left of shelves and pool. -/
theorem exec_steered {i : Instr} {cp : ControlPort} {r : Request} {st : Steering} (hi : i.request? = some (cp, r))
    (h : s.readyActive cp = true) (hr : r ≠ .restart) (hu : Moves (s.setSteering sh st) u)
    (ha : s.carryOut cp r = (State.refresh s u, Reply.ok [])) :
    ∃ t, exec i s = .next t ∧ Answers s t cp .ok [] ∧ RequestConsequences s t ∧ ShelvesKept u t ∧
      t.shelves = (State.refresh s u).shelves := by
  have hc : Consequences s (State.refresh s u) :=
    ((setSteering_consequences s sh st).trans hu.consequences).trans (refresh_consequences s u)
  obtain ⟨hexec, hans, hcons⟩ := exec_changed hi h hr ha hc
  exact ⟨_, hexec, hans, hcons, shelvesKept_answered (refresh_shelvesKept s u) _ _ _, answered_shelves _ _ _ _⟩

theorem Acts.moves (h : Acts s t sh) : Moves s t := by
  obtain ⟨K, hm, -⟩ := h
  exact hm.moves

/-- A shelf that a row leaves alone. -/
theorem row_stays (k : ShelfKept u t sh) (hn : s.shelves[sh].state.isHeld = false)
    (hs : u.shelves[sh].state = s.shelves[sh].state) (hl : u.shelves[sh].lastCause = s.shelves[sh].lastCause)
    (hc : u.shelves[sh].changed = s.shelves[sh].changed) :
    t.shelves[sh].state = s.shelves[sh].state ∧ MarksKept s t sh :=
  ⟨(k.state_of_not_held (by rw [hs]; exact hn)).trans hs, marksKept_of_same k hl hc⟩

/-- A shelf that a row sends toward its port. -/
theorem row_toward {b : State} {cause : Cause} (k : ShelfKept u t sh) (hu : u = b.toward sh p cause)
    (hb : Consequences s b) :
    (t.shelves[sh].state = .queued p ∨ t.shelves[sh].state = .acquire p (s.settleMs sh)) ∧
      t.shelves[sh].lastCause = some cause ∧ t.shelves[sh].changed = true := by
  obtain ⟨hstate, hcause, hchanged⟩ := toward_shelf b sh p cause
  rw [← hu] at hstate hcause hchanged
  have hst := k.state_of_not_held (by rcases hstate with e | e <;> rw [e] <;> rfl)
  obtain ⟨-, -, hl, hc⟩ := k.fields
  rw [hb.settleMs] at hstate
  rw [hst, hl, hc]
  exact ⟨hstate, hcause, hchanged⟩

/-- A shelf that a row lets rest. -/
theorem row_rest {b : State} {cause : Cause} (k : ShelvesKept u t) (hu : u = b.rest sh cause) (hb : Consequences s b)
    (hl : b.shelves[sh].learned = s.shelves[sh].learned) :
    t.shelves[sh].state = (if s.holdoverValid sh then .holdover (s.limitMs sh) else .freerun) ∧
      t.shelves[sh].lastCause = some cause ∧ t.shelves[sh].changed = true ∧ sh ∉ t.queue := by
  have hstate : u.shelves[sh] = b.shelves[sh].entered (b.restState sh) (some cause) := by rw [hu, rest_shelf]
  have hrest : b.restState sh = if s.holdoverValid sh then .holdover (s.limitMs sh) else .freerun := by
    rw [State.restState, hb.holdoverValid hl, hb.limitMs]
  obtain ⟨-, hqueue, -, hk⟩ := k
  have hst := (hk sh).state_of_not_held (by rw [hstate]; exact restState_not_held b sh)
  obtain ⟨-, -, hc, hch⟩ := (hk sh).fields
  rw [hst, hc, hch, hstate, hqueue, hu]
  exact ⟨hrest, rfl, rfl, not_mem_rest b sh cause⟩

/-- A LOCKED shelf whose pending target a row drops. -/
theorem row_dropPending {b : State} {c : PortId} (k : ShelvesKept u t) (hu : u = b.dropPending sh c)
    (hl : b.shelves[sh].lastCause = s.shelves[sh].lastCause) (hc : b.shelves[sh].changed = s.shelves[sh].changed) :
    t.shelves[sh].state = .locked c none ∧ sh ∉ t.queue ∧ MarksKept s t sh := by
  have hshelf := dropPending_shelf b sh c
  obtain ⟨-, hqueue, -, hk⟩ := k
  rw [← hu] at hshelf
  refine ⟨?_, ?_, marksKept_of_same (hk sh) (by rw [hshelf]; exact hl) (by rw [hshelf]; exact hc)⟩
  · rw [(hk sh).state_of_not_held (by rw [hshelf]; rfl), hshelf]
  · rw [hqueue, hu]
    exact not_mem_dropPending b sh c

/-- A LOCKED shelf that gains a pending target: it waits for it, or is lent a unit at once. -/
theorem row_gainPending {b : State} {c q : PortId} {cause : Cause} (k : ShelvesKept u t) (hu : u = b.gainPending sh c q cause)
    (hb : Consequences s b) (hl : b.shelves[sh].lastCause = s.shelves[sh].lastCause)
    (hc : b.shelves[sh].changed = s.shelves[sh].changed) :
    t.shelves[sh].state = .locked c (some (q, cause)) ∧ sh ∈ t.queue ∧ MarksKept s t sh ∨
      t.shelves[sh].state = .acquire q (s.settleMs sh) ∧ t.shelves[sh].lastCause = some cause ∧
        t.shelves[sh].changed = true := by
  have hmem := gainPending_mem b sh c q cause
  have hshelf := gainPending_shelf b sh c q cause
  obtain ⟨-, hqueue, -, hk⟩ := k
  rw [← hu] at hshelf hmem
  rcases hshelf with hshelf | ⟨hst, hcause, hch⟩
  · refine .inl ⟨?_, ?_, marksKept_of_same (hk sh) (by rw [hshelf]; exact hl) (by rw [hshelf]; exact hc)⟩
    · rw [(hk sh).state_of_not_held (by rw [hshelf]; rfl), hshelf]
    · rw [hqueue]
      exact hmem (by rw [hshelf]; rfl)
  · refine .inr ⟨?_, (hk sh).fields.2.2.1.trans hcause, (hk sh).fields.2.2.2.trans hch⟩
    rw [(hk sh).state_of_not_held (by rw [hst]; rfl), hst, hb.settleMs]

end

/-- The record of a shelf whose steering has just been set. -/
theorem setSteering_fields (s : State) (sh : ShelfId) (st : Steering) :
    (s.setSteering sh st).shelves[sh].state = s.shelves[sh].state ∧
      (s.setSteering sh st).shelves[sh].lastCause = s.shelves[sh].lastCause ∧
      (s.setSteering sh st).shelves[sh].changed = s.shelves[sh].changed ∧
      (s.setSteering sh st).shelves[sh].learned = s.shelves[sh].learned := by
  rw [setSteering_self]
  exact ⟨rfl, rfl, rfl, rfl⟩

/-- Settles O38: the rows of R125. -/
theorem steerMovesTheShelfTowardItsPort : Obligations.SteerMovesTheShelfTowardItsPort := by
  intro cp n m s h
  refine ⟨fun hbad => ?bad, ?rows⟩
  case bad =>
    refine exec_active (r := .steer n m) (reply := Reply.plain .badField) rfl h (by simp) ?_
    rw [State.carryOut, State.doSteer]
    rcases hbad with hn | hm
    · rw [shelfOf_eq_none hn]
    · rw [portOf_eq_none hm]
      cases shelfOf n <;> rfl
  case rows =>
    rintro sh p rfl rfl
    refine ⟨fun hsame => ?same, fun hnew he => ?notEligible, fun hnew he => ?steer⟩
    case same =>
      refine exec_active (r := .steer sh.val p.val) (reply := Reply.plain .noChange) rfl h (by simp) ?_
      simp only [State.carryOut, State.doSteer, shelfOf_val, portOf_val, if_pos hsame]
    case notEligible =>
      refine exec_active (r := .steer sh.val p.val) (reply := Reply.plain .notEligible) rfl h (by simp) ?_
      simp only [State.carryOut, State.doSteer, shelfOf_val, portOf_val, if_neg hnew, he, Bool.false_eq_true, if_false]
    case steer =>
      have hrule : s.carryOut cp (.steer sh.val p.val) =
          (State.refresh s ((s.setSteering sh (.steer p)).steerTo sh p), Reply.ok []) := by
        simp only [State.carryOut, State.doSteer, shelfOf_val, portOf_val, if_neg hnew, he, if_true]
      have hfits := fits_steerTo (s.setSteering sh (.steer p)) sh p
      obtain ⟨t, hexec, hans, hcons, k, hshelves⟩ := exec_steered (i := .steer cp sh.val p.val) rfl h (by simp) hfits.1.moves hrule
      obtain ⟨hev, hother, hpool, hsteer, hlearned⟩ := steered hfits k
      obtain ⟨hst, hl, hc, -⟩ := setSteering_fields s sh (.steer p)
      have hb := setSteering_consequences s sh (.steer p)
      have hk := k.2.2.2 sh
      unfold State.steerTo at k hk hshelves
      refine ⟨t, hexec, hans, hcons, eventsOfMoves_steered hev nofun hsteer, hother, hpool, hsteer, hlearned, ?held, ?lockedTo,
        ?locked, ?acquire, ?queued, ?away⟩
      case held =>
        intro nom hs
        simp only [hst, hs] at hshelves
        obtain ⟨hheld, hmarks⟩ := held_refreshed (t := t) rfl hs (by rw [hshelves])
        refine ⟨hheld.trans (congrArg _ ?_), hmarks⟩
        obtain ⟨-, hadm⟩ : _ ∧ s.admissible sh p = true := Bool.and_eq_true_iff.mp he
        have he' : (s.setSteering sh (.steer p)).eligible sh p = true := by rw [(hb.sameInputs.verdicts sh).2.1, he]
        unfold State.nomineeOf
        rw [hb.shelfDomain, setSteering_self]
        unfold State.admissible at hadm
        cases hd : s.shelfDomain sh with
        | none => rw [hd] at hadm; cases hadm
        | some d => simp only [he', if_true]
      case lockedTo =>
        intro pend hs
        simp only [hst, hs, if_true] at k
        exact row_dropPending k rfl hl hc
      case locked =>
        intro c pend hs hne
        simp only [hst, hs, if_neg hne] at k
        exact row_gainPending k rfl hb hl hc
      case acquire =>
        intro left hs
        simp only [hst, hs, if_true] at hk
        rw [← hs]
        exact row_stays hk (by rw [hs]; rfl) hst hl hc
      case queued =>
        intro hs
        simp only [hst, hs, if_true] at hk
        rw [← hs]
        exact row_stays hk (by rw [hs]; rfl) hst hl hc
      case away =>
        rintro (⟨q, left, hs, hne⟩ | ⟨q, hs, hne⟩ | ⟨c, left, hs⟩ | ⟨left, hs⟩ | hs)
        · simp only [hst, hs, if_neg hne] at hk
          exact row_toward hk rfl hb
        · simp only [hst, hs, if_neg hne] at hk
          exact row_toward hk rfl hb
        all_goals
          simp only [hst, hs] at hk
          exact row_toward hk rfl hb

/-- Settles O39: the two columns of R129. -/
theorem pinMovesTheShelfTowardItsPortOrRests : Obligations.PinMovesTheShelfTowardItsPortOrRests := by
  intro cp n m s h
  refine ⟨fun hbad => ?bad, ?rows⟩
  case bad =>
    refine exec_active (r := .pin n m) (reply := Reply.plain .badField) rfl h (by simp) ?_
    rw [State.carryOut, State.doPin]
    rcases hbad with hn | hm
    · rw [shelfOf_eq_none hn]
    · rw [portOf_eq_none hm]
      cases shelfOf n <;> rfl
  case rows =>
    rintro sh p rfl rfl
    refine ⟨fun hsame => ?same, fun hnew hd => ?notInDomain, fun hnew hd hoff => ?off, fun hnew hd hoff => ?pin⟩
    case same =>
      refine exec_active (r := .pin sh.val p.val) (reply := Reply.plain .noChange) rfl h (by simp) ?_
      simp only [State.carryOut, State.doPin, shelfOf_val, portOf_val, if_pos hsame]
    case notInDomain =>
      refine exec_active (r := .pin sh.val p.val) (reply := Reply.plain .notInDomain) rfl h (by simp) ?_
      simp only [State.carryOut, State.doPin, shelfOf_val, portOf_val, if_neg hnew, hd, Bool.not_false, if_true]
    case off =>
      refine exec_active (r := .pin sh.val p.val) (reply := Reply.plain .notEligible) rfl h (by simp) ?_
      simp only [State.carryOut, State.doPin, shelfOf_val, portOf_val, if_neg hnew, hd, Bool.not_true, Bool.false_eq_true,
        if_false, if_pos hoff]
    case pin =>
      have hrule : s.carryOut cp (.pin sh.val p.val) =
          (State.refresh s ((s.setSteering sh (.pin p)).pinTo sh p), Reply.ok []) := by
        simp only [State.carryOut, State.doPin, shelfOf_val, portOf_val, if_neg hnew, hd, Bool.not_true, Bool.false_eq_true,
          if_false, if_neg hoff]
      have hfits := fits_pinTo (s.setSteering sh (.pin p)) sh p
      obtain ⟨t, hexec, hans, hcons, k, hshelves⟩ := exec_steered (i := .pin cp sh.val p.val) rfl h (by simp) hfits.1.moves hrule
      obtain ⟨hev, hother, hpool, hsteer, hlearned⟩ := steered hfits k
      obtain ⟨hst, hl, hc, hlearn⟩ := setSteering_fields s sh (.pin p)
      have hb := setSteering_consequences s sh (.pin p)
      have hk := k.2.2.2 sh
      refine ⟨t, hexec, hans, hcons, eventsOfMoves_steered hev nofun hsteer, hother, hpool, hsteer, hlearned, ?held,
        fun hactive => ?live, fun hquiet => ?quiet⟩
      case held =>
        intro nom hs
        have hu : (s.setSteering sh (.pin p)).pinTo sh p = s.setSteering sh (.pin p) := by
          unfold State.pinTo State.pinToLive State.pinToQuiet
          simp only [hst, hs, ite_self]
        rw [hu] at hshelves
        obtain ⟨hheld, hmarks⟩ := held_refreshed (t := t) rfl hs (by rw [hshelves])
        refine ⟨hheld.trans (congrArg _ ?_), hmarks⟩
        unfold State.nomineeOf
        rw [hb.shelfDomain, setSteering_self]
        unfold State.sameDomain at hd
        cases hdom : s.shelfDomain sh with
        | none => rw [hdom] at hd; cases hd
        | some d => rfl
      case live =>
        have hu : (s.setSteering sh (.pin p)).pinTo sh p = (s.setSteering sh (.pin p)).pinToLive sh p := if_pos hactive
        rw [hu, State.pinToLive] at k hk
        refine ⟨?lockedTo, ?bridgeTo, ?locked, ?acquire, ?queued, ?away⟩
        case lockedTo =>
          intro pend hs
          simp only [hst, hs, if_true] at k
          exact row_dropPending k rfl hl hc
        case bridgeTo =>
          intro left hs
          simp only [hst, hs, if_true] at hk
          have hself := unbridge_shelf (s.setSteering sh (.pin p)) sh p
          refine ⟨?_, ?_, ?_⟩
          · rw [hk.state_of_not_held (by rw [hself]; rfl), hself]
            rfl
          · rw [hk.fields.2.2.1, hself]
            exact hl
          · rw [hk.fields.2.2.2, hself]
            rfl
        case locked =>
          intro c pend hs hne
          simp only [hst, hs, if_neg hne] at k
          exact row_gainPending k rfl hb hl hc
        case acquire =>
          intro left hs
          simp only [hst, hs, if_true] at hk
          rw [← hs]
          exact row_stays hk (by rw [hs]; rfl) hst hl hc
        case queued =>
          intro hs
          simp only [hst, hs, if_true] at hk
          rw [← hs]
          exact row_stays hk (by rw [hs]; rfl) hst hl hc
        case away =>
          rintro (⟨q, left, hs, hne⟩ | ⟨q, hs, hne⟩ | ⟨c, left, hs, hne⟩ | ⟨left, hs⟩ | hs)
          · simp only [hst, hs, if_neg hne] at hk
            exact row_toward hk rfl hb
          · simp only [hst, hs, if_neg hne] at hk
            exact row_toward hk rfl hb
          · simp only [hst, hs, if_neg hne] at hk
            exact row_toward hk rfl hb
          all_goals
            simp only [hst, hs] at hk
            exact row_toward hk rfl hb
      case quiet =>
        have hu : (s.setSteering sh (.pin p)).pinTo sh p = (s.setSteering sh (.pin p)).pinToQuiet sh p :=
          if_neg (by show ¬ s.ports[p].activity = true; rw [hquiet]; exact Bool.false_ne_true)
        rw [hu, State.pinToQuiet] at k hk
        refine ⟨?stay, ?rest⟩
        case stay =>
          rintro (⟨left, hs⟩ | hs | hs | ⟨left, hs⟩ | ⟨left, hs⟩ | ⟨pend, hs⟩) <;>
            simp only [hst, hs, if_true] at hk <;>
            exact row_stays hk (by rw [hs]; rfl) hst hl hc
        case rest =>
          rintro (⟨c, pend, hs, hne⟩ | ⟨q, left, hs, hne⟩ | ⟨q, hs, hne⟩ | ⟨c, left, hs, hne⟩) <;>
            simp only [hst, hs, if_neg hne] at k <;>
            exact row_rest k rfl hb hlearn

end Sys2Proof.Machine
end

section
/-!
PROOFS. CLEAR STEERING (R132): the steering becomes AUTO, a pending target is dropped, and the shelf is evaluated again with
cause CLEARED.
-/

namespace Sys2Proof.Machine

section
variable {s u t v : State} {sh : ShelfId}

/-! ## The re-evaluation as a move -/

theorem markCleared_of_not {sh : ShelfId} (h : v.shelves[sh].state.isAcquire = false) : v.markCleared sh = v := by
  unfold State.markCleared
  rw [if_neg (by rw [h]; exact Bool.false_ne_true)]

/-- Marking a shelf CLEARED writes its last cause alone. -/
theorem markCleared_self (v : State) (sh : ShelfId) :
    (v.markCleared sh).shelves[sh] = { v.shelves[sh] with
      lastCause := if v.shelves[sh].state.isAcquire = true then some .cleared else v.shelves[sh].lastCause } := by
  unfold State.markCleared
  split
  · rw [setShelf_get_self]
  · rfl

theorem markCleared_samePool (v : State) (sh : ShelfId) : SamePool v (v.markCleared sh) sh := by
  unfold State.markCleared
  split
  · exact samePool_setShelf v sh _
  · exact .refl v sh

theorem moved_markCleared (v : State) (sh : ShelfId) : Moved v (v.markCleared sh) sh [] := by
  unfold State.markCleared
  split
  · exact moved_setShelf v rfl rfl rfl .inl
  · exact .refl v sh

/-- A LOCKED shelf's re-evaluation, once its pending target is dropped. -/
theorem acts_unsteer_locked {c : PortId} {pend : Option (PortId × Cause)} (h : s.shelves[sh].state = .locked c pend) :
    Acts s (((s.dropPending sh c).actLocked sh c Ctx.clearing).markCleared sh) sh := by
  have hdrop := moved_dropPending (s := s) (sh := sh) (by rw [h]; rfl) c
  have hself := dropPending_shelf s sh c
  obtain ⟨K, hm, hs, hK⟩ := acts_actLocked (s := s.dropPending sh c) (sh := sh) (pend := none) (by rw [hself]) Ctx.clearing
  have hunpend : (ShelfState.locked c none) = (ShelfState.locked c pend).unpended := by cases pend <;> rfl
  refine .of_moved ((hdrop.then hm).quiet (moved_markCleared _ sh)) ?_ fun k => ?_
  · rw [markCleared_self, hs, hself]
  · rw [markCleared_self, hK, hself, h, hunpend]
    dsimp only
    rw [shelfRaises_unpended]

theorem acts_unsteer (hauto : s.shelves[sh].steering = .auto) : Acts s (s.unsteer sh) sh := by
  unfold State.unsteer
  cases h : s.shelves[sh].state with
  | locked c pend => exact acts_unsteer_locked h
  | acquire q left =>
    simp only
    split
    · exact .refl s sh
    · next hn =>
      refine acts_reselect (by rw [h]; rfl) _ fun q' left' e => ?_
      rw [h] at e
      injection e with e
      subst e
      rw [choice_auto hauto]
      intro hbest
      exact hn (by rw [(best_listed hbest).1, hbest, beq_self_eq_true]; rfl)
  | bridge c left =>
    simp only
    split
    · exact .refl s sh
    · exact acts_reselect (by rw [h]; rfl) _ fun q' left' e => by rw [h] at e; cases e
  | _ => exact acts_actAuto hauto Ctx.clearing

theorem poolFits_unsteer (hauto : s.shelves[sh].steering = .auto) (hn : s.shelves[sh].state.isLocked = false) :
    PoolFits s (s.unsteer sh) sh := by
  unfold State.unsteer
  cases h : s.shelves[sh].state with
  | locked c pend => rw [h] at hn; cases hn
  | acquire q left =>
    simp only
    split
    · exact .refl s sh
    · next hno =>
      refine poolFits_reselect _ fun q' left' e => ?_
      rw [h] at e
      injection e with e
      subst e
      rw [choice_auto hauto]
      intro hbest
      exact hno (by rw [(best_listed hbest).1, hbest, beq_self_eq_true]; rfl)
  | bridge c left =>
    simp only
    split
    · exact .refl s sh
    · exact poolFits_reselect _ fun q' left' e => by rw [h] at e; cases e
  | _ => exact poolFits_actAuto hauto Ctx.clearing

/-- The move starts, for the pool rules, from the part without the steering and the pending target. -/
theorem poolFits_unsteer_locked {c : PortId} (hself : s.shelves[sh].state = .locked c none)
    (hauto : s.shelves[sh].steering = .auto) :
    PoolFits s ((s.actLocked sh c Ctx.clearing).markCleared sh) sh := by
  intro h
  have hfits := poolFits_actAuto hauto Ctx.clearing h
  rw [State.actAuto, hself] at hfits
  obtain ⟨hsound, hfollows⟩ := hfits
  have hmark := markCleared_self (s.actLocked sh c Ctx.clearing) sh
  have hsame := markCleared_samePool (s.actLocked sh c Ctx.clearing) sh
  exact ⟨hsound.congr hsame (by rw [hmark]) (by rw [hmark]),
    hfollows.congr rfl rfl rfl hsame.units hsame.queue (by rw [hmark])⟩

theorem unsteered_self (s : State) (sh : ShelfId) :
    (s.unsteered sh).shelves[sh] = { s.shelves[sh] with steering := .auto, state := s.shelves[sh].state.unpended } :=
  (setShelf_get_self s sh _).trans rfl

/-- Without a pending target there is only the steering to drop. -/
theorem unsteered_queue (h : s.shelves[sh].state.pending? = none) : (s.unsteered sh).queue = s.queue := by
  simp only [State.unsteered, h, Option.isSome_none, Bool.false_eq_true, if_false]

/-- A record marked CLEARED still goes toward its port with that cause. -/
theorem GoesToward.marked {p : PortId} (h : GoesToward s v sh p .cleared) : GoesToward s (v.markCleared sh) sh p .cleared := by
  obtain ⟨hstate, hcause, hchanged, hraised⟩ := h
  have hself := markCleared_self v sh
  refine ⟨by rw [hself]; exact hstate, ?_, by rw [hself]; exact hchanged, fun hq => (hraised hq).kept ?_⟩
  · rw [hself]
    dsimp only
    split
    · rfl
    · exact hcause
  · unfold State.markCleared
    split <;> rfl

theorem Reselects.marked {choice : Option PortId} (h : Reselects s v sh choice .cleared) :
    Reselects s (v.markCleared sh) sh choice .cleared := by
  cases choice with
  | some p => exact GoesToward.marked h
  | none =>
    have hrest : Rests s v sh .cleared := h
    rw [markCleared_of_not]
    · exact h
    · rw [hrest.1]
      split <;> rfl

theorem Bridges.marked {c : PortId} (h : Bridges s v sh c .cleared) : Bridges s (v.markCleared sh) sh c .cleared := by
  rw [markCleared_of_not]
  · exact h
  · rw [h.1]
    rfl

/-- A LOCKED shelf whose reference is not eligible when its steering is cleared (R97, R132). -/
theorem clears_reference {c : PortId} {pend : Option (PortId × Cause)} (hs : s.shelves[sh].state = .locked c pend)
    (hauto : s.shelves[sh].steering = .auto) (he : s.eligible sh c = false) :
    if s.admissible sh c = true ∧ s.shelfHoldOff sh ≠ 0 then
      Bridges s ((s.actLocked sh c Ctx.clearing).markCleared sh) sh c .cleared
    else Reselects s ((s.actLocked sh c Ctx.clearing).markCleared sh) sh (s.best sh) .cleared := by
  have hheld : s.shelves[sh].state.isHeld = false := by rw [hs]; rfl
  have hreselect := (reselects_best hauto hheld .cleared).marked
  have hact : s.actLocked sh c Ctx.clearing = s.loseReference sh c Ctx.clearing := by
    rw [State.actLocked, if_neg (by rw [he]; exact Bool.false_ne_true)]
  rw [hact, State.loseReference]
  by_cases ha : s.admissible sh c = true
  · by_cases hh : s.shelfHoldOff sh = 0
    · rw [if_neg fun e => e.2 hh, if_pos ha, if_pos hh]
      exact hreselect
    · rw [if_pos ⟨ha, hh⟩, if_pos ha, if_neg hh]
      exact (bridges_bridge hheld c .cleared).marked
  · rw [if_neg fun e => ha e.1, if_neg ha]
    exact hreselect

end

/-- Settles O40: the rows of R132. -/
theorem clearSteeringReturnsTheShelfToAuto : Obligations.ClearSteeringReturnsTheShelfToAuto := by
  intro cp n s h
  refine ⟨fun hn => ?bad, ?rows⟩
  case bad =>
    refine exec_active (r := .clearSteering n) (reply := Reply.plain .badField) rfl h (by simp) ?_
    rw [State.carryOut, State.doClearSteering, shelfOf_eq_none hn]
  case rows =>
    rintro sh rfl
    refine ⟨fun hsame => ?same, fun hne => ?clear⟩
    case same =>
      refine exec_active (r := .clearSteering sh.val) (reply := Reply.plain .noChange) rfl h (by simp) ?_
      simp only [State.carryOut, State.doClearSteering, shelfOf_val, if_pos hsame]
    case clear =>
      have hrule : s.carryOut cp (.clearSteering sh.val) =
          (State.refresh s ((s.setSteering sh .auto).unsteer sh), Reply.ok []) := by
        simp only [State.carryOut, State.doClearSteering, shelfOf_val, if_neg hne]
      have hself := setSteering_self s sh .auto
      have hauto : (s.setSteering sh .auto).shelves[sh].steering = .auto := by rw [hself]
      have hacts := acts_unsteer hauto
      obtain ⟨t, hexec, hans, hcons, k, hshelves⟩ :=
        exec_steered (i := .clearSteering cp sh.val) rfl h (by simp) hacts.moves hrule
      obtain ⟨hev, hother, hsteer, hlearned⟩ := steered_acts hacts k
      obtain ⟨hst, hl, hc, hlearn⟩ := setSteering_fields s sh .auto
      have hb := setSteering_consequences s sh .auto
      have hbest : (s.setSteering sh .auto).best sh = s.best sh := by
        rw [State.best, State.best, hb.sameInputs.eligibleList]
      have hin := hb.sameInputs.verdicts sh
      have hk := k.2.2.2 sh
      -- the LOCKED rows start from the part without the pending target
      have hlocked : ∀ c pend, s.shelves[sh].state = .locked c pend →
          ShelvesKept ((((s.setSteering sh .auto).dropPending sh c).actLocked sh c Ctx.clearing).markCleared sh) t := by
        intro c pend hs
        have hu : (s.setSteering sh .auto).unsteer sh =
            ((((s.setSteering sh .auto).dropPending sh c).actLocked sh c Ctx.clearing).markCleared sh) := by
          rw [State.unsteer, hst, hs]
        rwa [hu] at k
      have hdrop : ∀ c pend, s.shelves[sh].state = .locked c pend →
          Consequences s ((s.setSteering sh .auto).dropPending sh c) ∧
          ((s.setSteering sh .auto).dropPending sh c).shelves[sh] =
            { s.shelves[sh] with steering := .auto, state := .locked c none } := by
        intro c pend hs
        refine ⟨hb.trans (moves_dropPending _ sh c).consequences, ?_⟩
        rw [dropPending_shelf, hself]
      refine ⟨t, hexec, hans, hcons, hev, hother, fun hp => ?pool, hsteer, hlearned, ?held, ?keeps, ?wants, ?lost, ?acquire,
        ?queued, ?bridge, ?rests⟩
      case pool =>
        have hp' := poolSound_unsteered (sh := sh) hp
        have hkept : ∀ {b u : State}, PoolFits b u sh → ShelvesKept u t →
            u.shelves[sh].state.isHeld = b.shelves[sh].state.isHeld →
            b.units = s.units → b.queue = (s.unsteered sh).queue →
            b.shelves[sh].state = (s.unsteered sh).shelves[sh].state →
            (∀ x, x ≠ sh → b.shelves[x] = s.shelves[x]) → PoolFollows (s.unsteered sh) t sh := by
          intro b u hf hk hheld hunits hqueue hstate hoth
          have hbsound : b.poolSound := hp'.congr (sh := sh) ⟨hunits, hqueue, fun x hx => (hoth x hx).trans
            (setShelf_get_ne s sh x _ hx.symm).symm⟩ (by rw [hstate]) (by rw [hstate])
          exact ((hf hbsound).2.kept hbsound hk hheld).congr hunits.symm hqueue.symm hstate.symm rfl rfl rfl
        cases hs : s.shelves[sh].state with
        | locked c pend =>
          obtain ⟨-, hd⟩ := hdrop c pend hs
          have hfits := poolFits_unsteer_locked (s := (s.setSteering sh .auto).dropPending sh c) (sh := sh) (c := c)
            (by rw [hd]) (by rw [hd])
          refine hkept hfits (hlocked c pend hs) ?_ rfl ?_ ?_ fun x hx => ?_
          · obtain ⟨K, hm, -⟩ := acts_actLocked (s := (s.setSteering sh .auto).dropPending sh c) (sh := sh) (c := c)
              (pend := none) (by rw [hd]) Ctx.clearing
            exact (hm.quiet (moved_markCleared _ sh)).held
          · show s.queue.filter (· != sh) = _
            cases pend with
            | none =>
              rw [unsteered_queue (by rw [hs]; rfl)]
              exact filter_ne_of_not_mem (hp.not_mem (by rw [hs]; rfl))
            | some pair => simp only [State.unsteered, hs, ShelfState.pending?, Option.isSome_some, if_true]
          · rw [hd, unsteered_self, hs]
            cases pend <;> rfl
          · exact (setShelf_get_ne (s.setSteering sh .auto) sh x _ hx.symm).trans (setSteering_other s .auto hx)
        | _ =>
          obtain ⟨K, hm, -⟩ := hacts
          refine hkept (poolFits_unsteer hauto (by rw [hst, hs]; rfl)) k hm.held rfl ?_ ?_
            fun x hx => setSteering_other s .auto hx
          · exact (unsteered_queue (by rw [hs]; rfl)).symm
          · rw [hst, unsteered_self, hs]
            rfl
      case held =>
        intro nom hs
        have hu : (s.setSteering sh .auto).unsteer sh = s.setSteering sh .auto := by
          unfold State.unsteer State.actAuto
          simp only [hst, hs]
        rw [hu] at hshelves
        obtain ⟨hheld, hmarks⟩ := held_refreshed (t := t) rfl hs (by rw [hshelves])
        refine ⟨hmarks, fun hd => hheld.trans (congrArg _ ?_)⟩
        unfold State.nomineeOf
        rw [hb.shelfDomain, hself, hbest]
        cases hdom : s.shelfDomain sh with
        | none => exact absurd hdom hd
        | some d => rfl
      case keeps =>
        intro c pend hs he hw
        obtain ⟨hcd, hd⟩ := hdrop c pend hs
        have kd := hlocked c pend hs
        have hwd : ((s.setSteering sh .auto).dropPending sh c).switchWanted sh c = none := by
          unfold State.switchWanted at hw ⊢
          rw [hcd.shelfRecord, hcd.sameInputs.eligibleList]
          exact hw
        have hact : ((s.setSteering sh .auto).dropPending sh c).actLocked sh c Ctx.clearing =
            (s.setSteering sh .auto).dropPending sh c := by
          rw [State.actLocked, if_pos (by rw [(hcd.sameInputs.verdicts sh).2.1, he]), State.applySwitchRule, hwd, hd]
          rfl
        rw [hact, markCleared_of_not (by rw [hd]; rfl)] at kd
        exact row_dropPending kd rfl hl hc
      case wants =>
        intro c pend b cause hs he hw
        obtain ⟨hcd, hd⟩ := hdrop c pend hs
        have kd := hlocked c pend hs
        have hwd : ((s.setSteering sh .auto).dropPending sh c).switchWanted sh c = some (b, cause) := by
          unfold State.switchWanted at hw ⊢
          rw [hcd.shelfRecord, hcd.sameInputs.eligibleList]
          exact hw
        have hact : ((s.setSteering sh .auto).dropPending sh c).actLocked sh c Ctx.clearing =
            ((s.setSteering sh .auto).dropPending sh c).gainPending sh c b cause := by
          rw [State.actLocked, if_pos (by rw [(hcd.sameInputs.verdicts sh).2.1, he]), State.applySwitchRule, hwd]
        rw [hact] at kd
        rcases gainPending_shelf ((s.setSteering sh .auto).dropPending sh c) sh c b cause with e | ⟨e, -, hch⟩
        · rw [markCleared_of_not (by rw [e]; rfl)] at kd
          rcases row_gainPending kd rfl hcd (by rw [hd]) (by rw [hd]) with hrow | ⟨hrow, -⟩
          · exact .inl hrow
          · rw [(kd.2.2.2 sh).state_of_not_held (by rw [e]; rfl), e] at hrow
            cases hrow
        · have hmark := markCleared_self (((s.setSteering sh .auto).dropPending sh c).gainPending sh c b cause) sh
          rw [e] at hmark
          have hkd := kd.2.2.2 sh
          refine .inr ⟨?_, ?_, ?_⟩
          · rw [hkd.fields.2.2.1, hmark]
            rfl
          · rw [hkd.state_of_not_held (by rw [hmark, e]; rfl), hmark, e, hcd.settleMs]
          · rw [hkd.fields.2.2.2, hmark]
            exact hch
      case lost =>
        intro c pend hs he
        obtain ⟨hcd, hd⟩ := hdrop c pend hs
        have hrow := clears_reference (s := (s.setSteering sh .auto).dropPending sh c) (sh := sh) (c := c) (pend := none)
          (by rw [hd]) (by rw [hd]) (by rw [(hcd.sameInputs.verdicts sh).2.1, he])
        have hbd : ((s.setSteering sh .auto).dropPending sh c).best sh = s.best sh := by
          rw [State.best, State.best, hcd.sameInputs.eligibleList]
        rw [(hcd.sameInputs.verdicts sh).2.2.1, hcd.shelfHoldOff, hbd] at hrow
        have kd := hlocked c pend hs
        split
        · next hif =>
          rw [if_pos hif] at hrow
          exact (hrow.kept kd).start hcd rfl
        · next hif =>
          rw [if_neg hif] at hrow
          exact (hrow.kept kd).start hcd rfl (by rw [hd, hs]; rfl) (by rw [hd])
      case acquire =>
        intro q left hs
        have hu : (s.setSteering sh .auto).unsteer sh = if s.eligible sh q = true ∧ s.best sh = some q then
            s.setSteering sh .auto else (s.setSteering sh .auto).reselect sh .cleared := by
          unfold State.unsteer
          simp only [hst, hs]
          rw [hin.2.1, hbest]
          simp only [Bool.and_eq_true, beq_iff_eq]
        rw [hu] at k hk
        split
        · next hif =>
          rw [if_pos hif] at hk
          rw [← hs]
          exact row_stays hk (by rw [hs]; rfl) hst hl hc
        · next hif =>
          rw [if_neg hif] at k
          have hrow := (reselects_best hauto (by rw [hst, hs]; rfl) .cleared).kept k
          rw [hbest] at hrow
          exact hrow.start hb rfl (by rw [hst]) hlearn
      case queued =>
        intro q hs
        have hu : (s.setSteering sh .auto).unsteer sh = (s.setSteering sh .auto).actQueued sh q Ctx.clearing := by
          unfold State.unsteer State.actAuto
          simp only [hst, hs]
        rw [hu, State.actQueued, choice_auto hauto, hbest] at k hk
        refine ⟨fun b hb' => ?_, fun hb' => ?_⟩
        · simp only [hb', Ctx.clearing, Bool.false_and, Bool.false_eq_true, if_false] at k hk
          by_cases hbq : b = q
          · rw [if_pos hbq] at k hk
            obtain ⟨hstate, hlast, hch⟩ := row_stays hk (by rw [hs]; rfl) hst hl hc
            refine ⟨by rw [hstate, hs, hbq], k.2.1, hlast, ?_⟩
            rw [hch, hbq, bne_self_eq_false, Bool.or_false]
          · rw [if_neg hbq] at k hk
            have hent := enterState_self (s.setSteering sh .auto) sh (.queued b) none none
            refine ⟨?_, ?_, ?_, ?_⟩
            · rw [hk.state_of_not_held (by rw [hent]; rfl), hent]
              rfl
            · rw [k.2.1, enterState_queue]
              rfl
            · rw [hk.fields.2.2.1, hent]
              exact hl
            · rw [hk.fields.2.2.2, hent, bne_iff_ne.mpr hbq, Bool.or_true]
              rfl
        · simp only [hb', Ctx.clearing, Bool.false_and, Bool.false_eq_true, if_false] at k
          exact ((rests_rest (by rw [hst, hs]; rfl) .cleared).kept k).start hb rfl hlearn
      case bridge =>
        intro c left hs
        have hu : (s.setSteering sh .auto).unsteer sh = if s.admissible sh c = true then
            s.setSteering sh .auto else (s.setSteering sh .auto).reselect sh .cleared := by
          unfold State.unsteer
          simp only [hst, hs]
          rw [hin.2.2.1]
        rw [hu] at k hk
        split
        · next hif =>
          rw [if_pos hif] at hk
          rw [← hs]
          exact row_stays hk (by rw [hs]; rfl) hst hl hc
        · next hif =>
          rw [if_neg hif] at k
          have hrow := (reselects_best hauto (by rw [hst, hs]; rfl) .cleared).kept k
          rw [hbest] at hrow
          exact hrow.start hb rfl (by rw [hst]) hlearn
      case rests =>
        intro hs
        have hu : (s.setSteering sh .auto).unsteer sh = match s.best sh with
            | some b => (s.setSteering sh .auto).toward sh b .cleared
            | none => s.setSteering sh .auto := by
          unfold State.unsteer State.actAuto
          rw [hst, choice_auto hauto, hbest]
          rcases hs with ⟨left, hs⟩ | hs <;> simp only [hs] <;> rfl
        have hheld : s.shelves[sh].state.isHeld = false := by rcases hs with ⟨left, hs⟩ | hs <;> rw [hs] <;> rfl
        rw [hu] at k hk
        refine ⟨fun hb' => ?_, fun b hb' => ?_⟩
        · rw [hb'] at hk
          exact row_stays hk hheld hst hl hc
        · rw [hb'] at k
          exact ((goesToward_toward (by rw [hst]; exact hheld) b .cleared).kept k).start hb rfl (by rw [hst])

end Sys2Proof.Machine
end

section
/-!
PROOFS. HOLD_OFF_EXPIRY (R100, R127, R130) and SETTLE_COMPLETE (R92): a shelf's own moves after some time.
-/

namespace Sys2Proof.Machine

/-! ## Time and the shelf's own fields -/

theorem elapse_shelf_fields (s : State) (d : Nat) (sh : ShelfId) :
    (s.elapse d).shelves[sh].steering = s.shelves[sh].steering ∧
      (s.elapse d).shelves[sh].lastCause = s.shelves[sh].lastCause ∧
      (s.elapse d).shelves[sh].changed = s.shelves[sh].changed := by
  rcases Nat.eq_zero_or_pos d with rfl | hd
  · rw [elapse_zero]
    exact ⟨rfl, rfl, rfl⟩
  · rw [elapse_shelves_get s hd]
    exact ⟨rfl, rfl, rfl⟩

section
variable {s t u v : State} {sh : ShelfId}

/-! ## Units that lending gives out (R82) -/

theorem grant_units {x y : ShelfId} {a w : UnitId} (h : (s.grant x a).units[w] = some y) :
    s.units[w] = some y ∨ (s.grant x a).shelves[y].state.isAcquire = true := by
  cases hw : s.shelves[x].state.waits with
  | true =>
    obtain ⟨hunits, -, hacq, -⟩ := grant_waits hw a
    rw [hunits, units_set_get] at h
    split at h
    · obtain rfl := Option.some.inj h
      exact .inr hacq
    · exact .inl h
  | false =>
    have hsame : s.grant x a = s := by
      unfold State.grant
      cases hs : s.shelves[x].state with
      | queued _ => rw [hs] at hw; cases hw
      | locked c pend =>
        cases pend with
        | none => rfl
        | some _ => rw [hs] at hw; cases hw
      | _ => rfl
    rw [hsame] at h
    exact .inl h

/-- A unit is lent to a shelf that is then in ACQUIRE. -/
theorem lendTimes_units (n : Nat) {w : UnitId} {y : ShelfId} (h : (State.lendTimes n s).units[w] = some y) :
    s.units[w] = some y ∨ (State.lendTimes n s).shelves[y].state.isAcquire = true := by
  induction n generalizing s with
  | zero => exact .inl h
  | succ n ih =>
    refine (ih (s := s.lendOne) h).elim (fun hone => ?_) .inr
    have hkept : s.lendOne.shelves[y].state.isAcquire = true →
        (State.lendTimes (n + 1) s).shelves[y].state.isAcquire = true := fun ha => by
      have he : (State.lendTimes (n + 1) s).shelves[y] = s.lendOne.shelves[y] :=
        (lendTimes_lending n s.lendOne).shelf_of_not_waits (waits_of_isAcquire ha)
      rw [he]
      exact ha
    unfold State.lendOne at hone hkept
    split at hone
    · next x rest a hq hi =>
      rw [hq, hi] at hkept
      exact (grant_units hone).imp_right hkept
    · exact .inl hone

/-- A shelf that gives up its unit and is not lent one holds none. -/
theorem freeUnit_no_unit (hw : s.shelves[sh].state.waits = false) (ha : s.shelves[sh].state.isAcquire = false) (a : UnitId) :
    (s.freeUnit sh).units[a] ≠ some sh := fun h => by
  rcases lendTimes_units (s := s.reclaim sh) 6 h with e | e
  · have hget : (s.reclaim sh).units[a] = if s.units[a] == some sh then none else s.units[a] := by simp [State.reclaim]
    rw [hget] at e
    split at e
    · cases e
    · next hne => exact hne (beq_iff_eq.mpr e)
  · have he : (s.freeUnit sh).shelves[sh].state.isAcquire = true := e
    rw [freeUnit_shelf hw, ha] at he
    cases he

theorem gainPending_no_unit {c b : PortId} {cause : Cause} {a : UnitId} (hu : s.units[a] ≠ some sh)
    (h : (s.gainPending sh c b cause).shelves[sh].state.isAcquire = false) :
    (s.gainPending sh c b cause).units[a] ≠ some sh := fun e => by
  rcases lendTimes_units (s := (s.setShelf sh { s.shelves[sh] with state := .locked c (some (b, cause)) }).queued sh) 6 e with
    e' | e'
  · refine hu ?_
    unfold State.queued at e'
    split at e' <;> exact e'
  · have he : (s.gainPending sh c b cause).shelves[sh].state.isAcquire = true := e'
    rw [h] at he
    cases he

/-- A reselection sets the cause and the changed flag. -/
theorem Reselects.marks {choice : Option PortId} {cause : Cause} (h : Reselects s t sh choice cause) :
    t.shelves[sh].lastCause = some cause ∧ t.shelves[sh].changed = true := by
  cases choice with
  | some p =>
    have hgo : GoesToward s t sh p cause := h
    obtain ⟨-, hc, hch, -⟩ := hgo
    exact ⟨hc, hch⟩
  | none =>
    have hrest : Rests s t sh cause := h
    obtain ⟨-, hc, hch, -⟩ := hrest
    exact ⟨hc, hch⟩

theorem Reselects.toward {p : PortId} {cause : Cause} (h : Reselects s t sh (some p) cause) :
    t.shelves[sh].state = .queued p ∨ t.shelves[sh].state = .acquire p (s.settleMs sh) := And.left h

theorem Reselects.rests {cause : Cause} (h : Reselects s t sh none cause) :
    t.shelves[sh].state = if s.holdoverValid sh = true then .holdover (s.limitMs sh) else .freerun := And.left h

/-! ## HOLD_OFF_EXPIRY -/

/-- The end of a hold-off as one move: its events, its pool rules, and the steering it leaves (R100, R127). -/
theorem endHoldOff_moves {c : PortId} {left : Nat} (hs : s.shelves[sh].state = .bridge c left) :
    (∃ K, Moved s (s.endHoldOff sh) sh K) ∧ EventsOfMoves s (s.endHoldOff sh) ∧ PoolFits s (s.endHoldOff sh) sh := by
  have hnq : ∀ {r : State}, r.shelves[sh].state = .bridge c left → ∀ q l, r.shelves[sh].state = .acquire q l →
      r.choice sh ≠ some q := fun hr q l e => by rw [hr] at e; cases e
  have hplain : (∃ K, Moved s (s.reselect sh .lost) sh K) ∧ EventsOfMoves s (s.reselect sh .lost) ∧
      PoolFits s (s.reselect sh .lost) sh := by
    have hacts := acts_reselect (s := s) (sh := sh) (by rw [hs]; rfl) .lost (hnq hs)
    refine ⟨?_, hacts.eventsOfMoves, poolFits_reselect .lost (hnq hs)⟩
    obtain ⟨K, hm, -⟩ := hacts
    exact ⟨K, hm⟩
  unfold State.endHoldOff
  cases hst : s.shelves[sh].steering with
  | auto => exact hplain
  | pin p => exact hplain
  | steer p =>
    have hself := loseSteering_self s sh
    have hls : (s.loseSteering sh).shelves[sh].state = .bridge c left := by rw [hself]; exact hs
    obtain ⟨K, hm, hsteer, hK⟩ := acts_reselect (s := s.loseSteering sh) (sh := sh) (by rw [hls]; rfl) .lost (hnq hls)
    have hmoved := (moved_loseSteering s sh).trans hm
    refine ⟨⟨_, hmoved⟩, hmoved.eventsOfMoves fun k => ?_, fun hp => ?_⟩
    · have hlost : steeringLost s ((s.loseSteering sh).reselect sh .lost) sh = true := by
        unfold steeringLost
        rw [hsteer, hself, hst]
        rfl
      rw [hlost, List.mem_append, List.mem_singleton, hK, hself, shelfRaises_lost _ _ true]
      simp
    · have hother : ∀ x, x ≠ sh → (s.loseSteering sh).shelves[x] = s.shelves[x] := fun x hx => by
        rw [loseSteering_get, if_neg hx.symm]
      have hp' : (s.loseSteering sh).poolSound := hp.congr (sh := sh)
        ⟨loseSteering_units s sh, loseSteering_queue s sh, hother⟩ (by rw [hself]) (by rw [hself])
      obtain ⟨hsound, hfollows⟩ := poolFits_reselect .lost (hnq hls) hp'
      exact ⟨hsound, hfollows.congr (loseSteering_units s sh).symm (loseSteering_queue s sh).symm (by rw [hself]) rfl rfl rfl⟩

/-- The part that the shelf reselects in when its hold-off ends: without a STEER. -/
def State.beforeReselect (s : State) (sh : ShelfId) : State :=
  match s.shelves[sh].steering with
  | .steer _ => s.loseSteering sh
  | _ => s

theorem beforeReselect_self (s : State) (sh : ShelfId) : (s.beforeReselect sh).shelves[sh] =
    { s.shelves[sh] with steering := (match s.shelves[sh].steering with | .steer _ => .auto | st => st) } := by
  unfold State.beforeReselect
  cases h : s.shelves[sh].steering with
  | steer p => exact loseSteering_self s sh
  | _ =>
    simp only
    rw [← h]

theorem beforeReselect_consequences (s : State) (sh : ShelfId) : Consequences s (s.beforeReselect sh) := by
  unfold State.beforeReselect
  cases s.shelves[sh].steering with
  | steer p => exact (moves_loseSteering s sh).consequences
  | _ => exact .refl s

theorem endHoldOff_eq (s : State) (sh : ShelfId) : s.endHoldOff sh = (s.beforeReselect sh).reselect sh .lost := by
  unfold State.endHoldOff State.beforeReselect
  cases s.shelves[sh].steering <;> rfl

/-- What the end of a hold-off leaves of the shelf, once validity and nominees have followed it. -/
theorem endHoldOff_shelf {c : PortId} {left : Nat} (hs : s.shelves[sh].state = .bridge c left)
    (k : ShelvesKept (s.endHoldOff sh) t) :
    Reselects (s.beforeReselect sh) t sh ((s.beforeReselect sh).choice sh) .lost ∧
      t.shelves[sh].steering = (match s.shelves[sh].steering with | .steer _ => .auto | st => st) := by
  have hbase := beforeReselect_self s sh
  have hheld : (s.beforeReselect sh).shelves[sh].state.isHeld = false := by rw [hbase, hs]; rfl
  rw [endHoldOff_eq] at k
  refine ⟨(reselects_reselect hheld .lost).kept k, ?_⟩
  rw [(k.2.2.2 sh).fields.1]
  have hkept : ((s.beforeReselect sh).reselect sh .lost).shelves[sh].steering = (s.beforeReselect sh).shelves[sh].steering := by
    unfold State.reselect
    split
    · exact toward_steering hheld _ _
    · exact rest_steering _ sh _
  rw [hkept, hbase]

/-- Under a steering other than STEER the shelf reselects as it is. -/
theorem beforeReselect_of_not_steer (h : ∀ p, s.shelves[sh].steering ≠ .steer p) : s.beforeReselect sh = s := by
  unfold State.beforeReselect
  cases hs : s.shelves[sh].steering with
  | steer p => exact absurd hs (h p)
  | _ => rfl

/-- Under STEER it reselects under AUTO. -/
theorem beforeReselect_choice_steer {p : PortId} (h : s.shelves[sh].steering = .steer p) :
    (s.beforeReselect sh).choice sh = s.best sh := by
  rw [choice_auto (by rw [beforeReselect_self, h]), State.best, State.best,
    (beforeReselect_consequences s sh).sameInputs.eligibleList]

end

/-- Settles O22: the shelf reselects with cause LOST, without its STEER. -/
theorem holdOffExpiryReselectsWithCauseLost : Obligations.HoldOffExpiryReselectsWithCauseLost := by
  intro sh s u hr
  refine ⟨fun hno => ?idle, ?expires⟩
  case idle =>
    show execHoldOffExpiry sh s = _
    rw [execHoldOffExpiry, live_of_not_inReset s _ hr]
    cases hs : s.shelves[sh].state with
    | bridge c left => exact absurd hs (hno c left)
    | _ => rfl
  case expires =>
    rintro c left hs rfl
    have hexec : exec (.holdOffExpiry sh) s =
        .next (State.refresh (s.elapse left) ((s.elapse left).endHoldOff sh)) := by
      show execHoldOffExpiry sh s = _
      rw [execHoldOffExpiry, live_of_not_inReset s _ hr]
      simp only [hs]
    have hu := elapse_bridge left hs
    obtain ⟨hsteer, -, -⟩ := elapse_shelf_fields s left sh
    rw [← hsteer]
    obtain ⟨⟨K, hm⟩, hev, hfits⟩ := endHoldOff_moves hu
    have k := refresh_shelvesKept (s.elapse left) ((s.elapse left).endHoldOff sh)
    have hcons := hm.moves.consequences.trans (refresh_consequences (s.elapse left) ((s.elapse left).endHoldOff sh))
    obtain ⟨hrow, hst⟩ := endHoldOff_shelf hu k
    have hbc := beforeReselect_consequences (s.elapse left) sh
    have hlearn : ((s.elapse left).beforeReselect sh).shelves[sh].learned = (s.elapse left).shelves[sh].learned := by
      rw [beforeReselect_self]
    refine ⟨_, hexec, hcons, hev.kept k, fun x hx => (hm.undisturbed x hx).kept (k.2.2.2 x),
      fun hp => (hfits hp).2.kept hp k hm.held, hrow.marks.1, hrow.marks.2, (k.2.2.2 sh).fields.2.1.trans hm.learned,
      ?steered, ?kept, ?choice, ?best, ?none⟩
    case steered =>
      intro p hp
      rw [hp] at hst
      refine ⟨hst, fun d hd hmask => ((hev.kept k) d .steerLost).2.mpr (.inr ⟨hmask, sh, hd, ?_⟩)⟩
      rw [hst, hp]
      rfl
    case kept =>
      intro hne
      rw [hst]
      cases h : (s.elapse left).shelves[sh].steering with
      | steer p => exact absurd h (hne p)
      | _ => rfl
    case choice =>
      intro b hne hb
      have hself := beforeReselect_of_not_steer hne
      rw [hself, hb] at hrow
      exact hrow.toward
    case best =>
      intro p b hp hb
      rw [beforeReselect_choice_steer hp, hb] at hrow
      have hgo := hrow.toward
      rwa [hbc.settleMs] at hgo
    case none =>
      intro hnone
      have hch : ((s.elapse left).beforeReselect sh).choice sh = none := by
        cases h : (s.elapse left).shelves[sh].steering with
        | steer p =>
          rw [beforeReselect_choice_steer h]
          rcases hnone with hnone | ⟨-, hnone⟩
          · simp only [State.choice, h] at hnone
            cases hnone
          · exact hnone
        | _ =>
          rw [beforeReselect_of_not_steer fun p hp => by rw [h] at hp; cases hp]
          rcases hnone with hnone | ⟨⟨p, hp⟩, -⟩
          · exact hnone
          · rw [h] at hp
            cases hp
      rw [hch] at hrow
      have hrest := hrow.rests
      rwa [hbc.holdoverValid hlearn, hbc.limitMs] at hrest

end Sys2Proof.Machine
end

section
/-!
PROOFS. SETTLE_COMPLETE (R92): the shelf locks, its unit goes to the head of the queue, and it acts on its ranking.
-/

namespace Sys2Proof.Machine

section
variable {s t u v : State} {sh : ShelfId}

/-! ## A shelf LOCKED without a pending target acts -/

/-- The switch rule never wants the reference itself (R95). -/
theorem switchWanted_ne {c b : PortId} {cause : Cause} (h : s.switchWanted sh c = some (b, cause)) : b ≠ c := by
  unfold State.switchWanted at h
  split at h
  · split at h
    · cases h
    · next hb =>
      split at h
      · simp only [Option.some.injEq, Prod.mk.injEq] at h
        exact h.1 ▸ hb
      · split at h
        · simp only [Option.some.injEq, Prod.mk.injEq] at h
          exact h.1 ▸ hb
        · cases h
  · cases h

/-- What acting leaves of a shelf that has just locked: a set changed flag stays set, and it does not go back to acquiring
its reference. -/
def LeavesLock (t : State) (sh : ShelfId) (c : PortId) : Prop :=
  t.shelves[sh].changed = true ∧ ∀ left, t.shelves[sh].state ≠ .acquire c left

theorem Bridges.leavesLock {c : PortId} {cause : Cause} (h : Bridges s t sh c cause) : LeavesLock t sh c := by
  obtain ⟨hstate, -, hchanged, -⟩ := h
  exact ⟨hchanged, fun left e => by rw [hstate] at e; cases e⟩

theorem GoesToward.leavesLock {c p : PortId} {cause : Cause} (h : GoesToward s t sh p cause) (hne : p ≠ c) :
    LeavesLock t sh c := by
  obtain ⟨hstate, -, hchanged, -⟩ := h
  refine ⟨hchanged, fun left e => ?_⟩
  rcases hstate with hs | hs <;> rw [hs] at e
  · cases e
  · injection e with e
    exact hne e

theorem Rests.leavesLock {cause : Cause} (h : Rests s t sh cause) (c : PortId) : LeavesLock t sh c := by
  obtain ⟨hstate, -, hchanged, -⟩ := h
  refine ⟨hchanged, fun left e => ?_⟩
  rw [hstate] at e
  split at e <;> cases e

theorem Reselects.leavesLock {choice : Option PortId} {c : PortId} {cause : Cause} (h : Reselects s t sh choice cause)
    (hne : choice ≠ some c) : LeavesLock t sh c := by
  cases choice with
  | some p => exact GoesToward.leavesLock h fun e => hne (congrArg some e)
  | none => exact Rests.leavesLock h c

theorem ActsUnderAuto.leavesLock {strict : Bool} {c : PortId} (h : ActsUnderAuto s t sh strict)
    (hs : s.shelves[sh].state = .locked c none) (hc : s.shelves[sh].changed = true) : LeavesLock t sh c := by
  unfold ActsUnderAuto at h
  simp only [hs] at h
  split at h
  · obtain ⟨happly, -, hkeep⟩ := h
    unfold AppliesSwitchRule at happly
    cases hw : s.switchWanted sh c with
    | none =>
      rw [hw] at happly
      obtain ⟨hstate, -⟩ := happly
      exact ⟨(hkeep (by rw [hstate]; rfl)).trans hc, fun left e => by rw [hstate] at e; cases e⟩
    | some pair =>
      obtain ⟨b, cause⟩ := pair
      rw [hw] at happly
      rcases happly with ⟨hstate, -⟩ | ⟨hstate, -, hchanged, -⟩
      · exact ⟨(hkeep (by rw [hstate]; rfl)).trans hc, fun left e => by rw [hstate] at e; cases e⟩
      · refine ⟨hchanged, fun left e => switchWanted_ne hw ?_⟩
        rw [hstate] at e
        injection e
  · next he =>
    split at h
    · exact h.leavesLock
    · exact h.leavesLock (best_ne he)

theorem LosesSteering.leavesLock {c : PortId} (h : LosesSteering s t sh)
    (hs : s.shelves[sh].state = .locked c none) (hc : s.shelves[sh].changed = true) : LeavesLock t sh c := by
  have hself := unsteered_shelf s sh
  obtain ⟨-, -, hact⟩ := h
  exact hact.leavesLock (by rw [hself, hs]; rfl) (by rw [hself]; exact hc)

theorem leavesLock_refl {c : PortId} (hs : s.shelves[sh].state = .locked c none) (hc : s.shelves[sh].changed = true) :
    LeavesLock s sh c := ⟨hc, fun left e => by rw [hs] at e; cases e⟩

/-- Whatever its steering, a shelf that has just locked acts so. -/
theorem act_leavesLock {x : Ctx} {c : PortId} (hx : x.forced = none) (hs : s.shelves[sh].state = .locked c none)
    (hc : s.shelves[sh].changed = true) : LeavesLock (s.act sh x) sh c := by
  have hrefl := leavesLock_refl hs hc
  unfold State.act
  cases hst : s.shelves[sh].steering with
  | auto => exact (actsUnderAuto hst hx).leavesLock hs hc
  | steer p =>
    have h := actsUnderSteer (s := s) (sh := sh) hx p
    simp only
    generalize s.actSteer sh p x = t at h ⊢
    unfold ActsUnderSteer at h
    simp only [hs] at h
    split at h
    · next hcp =>
      subst hcp
      split at h
      · rw [h]; exact hrefl
      · split at h
        · exact h.leavesLock
        · exact h.leavesLock hs hc
    · next hcp =>
      split at h
      · exact h.leavesLock hs hc
      · split at h
        · rw [h]; exact hrefl
        · exact h.leavesLock fun e => hcp e.symm
  | pin p =>
    have h := actsUnderPin (s := s) (sh := sh) hx p
    simp only
    generalize s.actPin sh p x = t at h ⊢
    unfold ActsUnderPin at h
    simp only [hs] at h
    split at h
    · exact h.leavesLock hs hc
    · split at h
      · split at h
        · rw [h]; exact hrefl
        · next hcp => exact h.leavesLock fun e => hcp (.inl e.symm)
      · split at h
        · next hcp => exact hcp.1 ▸ h.leavesLock
        · exact h.leavesLock c

/-! ## The shelf locks -/

/-- The part after the settle of a shelf: LOCKED, its learned time 0, its unit freed (R83, R92). -/
def State.settled (s : State) (sh : ShelfId) (p : PortId) : State :=
  ((s.setShelf sh { s.shelves[sh] with learned := 0 }).enterState sh (.locked p none) none (some .lock)).freeUnit sh

/-- The part with the learned time of a shelf at 0, from which the move starts. -/
def State.unlearned (s : State) (sh : ShelfId) : State := s.setShelf sh { s.shelves[sh] with learned := 0 }

theorem unlearned_self (s : State) (sh : ShelfId) : (s.unlearned sh).shelves[sh] = { s.shelves[sh] with learned := 0 } :=
  setShelf_get_self s sh _

theorem unlearned_other (s : State) {sh x : ShelfId} (hx : x ≠ sh) : (s.unlearned sh).shelves[x] = s.shelves[x] :=
  setShelf_get_ne s sh x _ hx.symm

theorem unlearned_consequences (s : State) (sh : ShelfId) : Consequences s (s.unlearned sh) :=
  (moves_setShelf s sh _).consequences

theorem completeSettle_eq (s : State) (sh : ShelfId) (p : PortId) :
    s.completeSettle sh p = (s.settled sh p).act sh Ctx.ranking := rfl

theorem settled_shelf (s : State) (sh : ShelfId) (p : PortId) :
    (s.settled sh p).shelves[sh] = { s.shelves[sh] with learned := 0, state := .locked p none, changed := true } := by
  have hself := enterState_self (s.unlearned sh) sh (.locked p none) none (some .lock)
  have hfree := freeUnit_shelf (s := (s.unlearned sh).enterState sh (.locked p none) none (some .lock)) (sh := sh)
    (by rw [hself]; rfl)
  show (State.freeUnit ((s.unlearned sh).enterState sh (.locked p none) none (some .lock)) sh).shelves[sh] = _
  rw [hfree, hself, unlearned_self]
  rfl

/-- The shelf has given up its unit. -/
theorem settled_no_unit (s : State) (sh : ShelfId) (p : PortId) (a : UnitId) : (s.settled sh p).units[a] ≠ some sh := by
  have henter := enterState_self (s.unlearned sh) sh (.locked p none) none (some .lock)
  exact freeUnit_no_unit (s := (s.unlearned sh).enterState sh (.locked p none) none (some .lock)) (by rw [henter]; rfl)
    (by rw [henter]; rfl) a

theorem moved_settled {p q : PortId} {left : Nat} (hs : s.shelves[sh].state = .acquire q left) :
    Moved (s.unlearned sh) (s.settled sh p) sh [.lock] := by
  have hself := enterState_self (s.unlearned sh) sh (.locked p none) none (some .lock)
  refine (moved_enterState (s.unlearned sh) (sh := sh) (st := .locked p none) none (some .lock) ?_ nofun).quiet
    (moved_freeUnit (by rw [hself]; rfl))
  rw [unlearned_self, hs]
  rfl

/-- The lock as a move within the pool rules. -/
theorem poolFits_settled {p q : PortId} {left : Nat} (hs : s.shelves[sh].state = .acquire q left) :
    PoolFits s (s.settled sh p) sh := by
  intro h
  have hself := settled_shelf s sh p
  obtain ⟨unit, hunit⟩ := h.2.1 sh (by rw [hs]; rfl)
  have hsame : SamePool s ((s.unlearned sh).enterState sh (.locked p none) none (some .lock)) sh :=
    (samePool_setShelf s sh _).trans (samePool_enterState _ sh _ _ _)
  have henter := enterState_self (s.unlearned sh) sh (.locked p none) none (some .lock)
  obtain ⟨haside, hshape⟩ := poolAside_freeUnit h hunit hsame (by rw [henter]; rfl)
  have hshape' : match s.queue with
      | [] => (s.settled sh p).units = s.units.set unit none ∧ (s.settled sh p).queue = []
      | head :: rest => (s.settled sh p).units = s.units.set unit (some head) ∧ (s.settled sh p).queue = rest := hshape
  refine ⟨State.PoolAside.sound haside ?_ ?_, fun he => ?_, fun v hv _ => ?_, fun hno => absurd hunit (hno unit)⟩
  · show (s.settled sh p).shelves[sh].state.waits = false
    rw [hself]
    rfl
  · show (s.settled sh p).shelves[sh].state.isAcquire = false
    rw [hself]
    rfl
  · rw [hself, hs] at he
    cases he
  · obtain rfl : v = unit := h.2.2.1 v unit sh hv hunit
    rw [hself]
    cases hq : s.queue with
    | nil =>
      rw [hq] at hshape'
      exact ⟨hshape'.2, fun _ => hshape'.1, nofun⟩
    | cons head rest =>
      rw [hq] at hshape'
      exact ⟨hshape'.1, hshape'.2⟩

/-- Settling as a whole: lock, lend and act. -/
theorem completeSettle_moved {p q : PortId} {left : Nat} (hs : s.shelves[sh].state = .acquire q left) :
    ∃ K, Moved (s.unlearned sh) (s.completeSettle sh p) sh K ∧ .lock ∈ K := by
  obtain ⟨K, hm⟩ := moved_act (s.settled sh p) sh Ctx.ranking
  exact ⟨_, (moved_settled hs).trans hm, List.mem_append_left _ (.head _)⟩

theorem poolFits_completeSettle {p : PortId} {left : Nat} (hs : s.shelves[sh].state = .acquire p left) :
    PoolFits s (s.completeSettle sh p) sh := by
  have hself := settled_shelf s sh p
  have hleaves := act_leavesLock (x := Ctx.ranking) (c := p) rfl (by rw [hself]) (by rw [hself])
  have hact : PoolFits (s.settled sh p) (s.completeSettle sh p) sh := by
    intro h
    obtain ⟨hsound, hfollows⟩ := poolFits_act (sh := sh) h Ctx.ranking
    refine ⟨hsound, ?_⟩
    unfold State.unsteeredIfLost at hfollows
    split at hfollows
    · refine hfollows.congr rfl (unsteered_queue ?_).symm ?_ rfl rfl rfl
      · rw [hself]
        rfl
      · rw [unsteered_self, hself]
        rfl
    · exact hfollows
  refine poolFits_trans_out (poolFits_settled hs) hact (by rw [hs]; rfl) (by rw [hself]; rfl) (by rw [hself]; rfl) fun _ e => ?_
  rw [hs] at e
  exact hleaves.2 _ e

/-! ## From the part before -/

theorem shelfRaises_lock (c : PortId) (pend : Option (PortId × Cause)) (q : PortId) (left : Nat) (k : DomainEvent) :
    shelfRaises (.acquire q left) (.locked c pend) false k = true ↔ k = .lock := by
  cases k <;> simp [shelfRaises, ShelfState.isQueued, ShelfState.isAcquire, ShelfState.isLocked, ShelfState.isBridge,
    ShelfState.isHoldover, ShelfState.isFreerun]

/-- A shelf that settles and stays LOCKED raises exactly LOCK. -/
theorem eventsOfMoves_lock {q c : PortId} {left : Nat} {pend : Option (PortId × Cause)}
    (hs : s.shelves[sh].state = .acquire q left) (hm : Moved (s.unlearned sh) t sh [.lock])
    (ht : t.shelves[sh].state = .locked c pend) : EventsOfMoves s t := by
  have hself := unlearned_self s sh
  have hsteer := hm.steering_kept (by simp)
  have hev : EventsOfMoves (s.unlearned sh) t := hm.eventsOfMoves fun k => by
    rw [steeringLost_same hsteer, hself, hs, ht, shelfRaises_lock, List.mem_singleton]
  refine hev.start (unlearned_consequences s sh) rfl fun x k => ?_
  by_cases hx : x = sh
  · subst hx
    unfold steeringLost
    rw [hself]
  · unfold steeringLost
    rw [unlearned_other s hx]

/-- The ranking inputs are not touched as the shelf locks. -/
theorem settled_inputs (s : State) {p q : PortId} {left : Nat} (hs : s.shelves[sh].state = .acquire q left) :
    Consequences s (s.settled sh p) ∧ (s.settled sh p).switchWanted sh p = s.switchWanted sh p := by
  have hc := (unlearned_consequences s sh).trans (moved_settled (p := p) hs).moves.consequences
  refine ⟨hc, ?_⟩
  unfold State.switchWanted
  rw [hc.shelfRecord, hc.sameInputs.eligibleList]

/-- Where nothing calls it elsewhere the shelf stands LOCKED to its target (R92). -/
theorem completeSettle_stays {p q : PortId} {left : Nat} (hs : s.shelves[sh].state = .acquire q left)
    (hstay : (s.shelves[sh].steering = .auto ∧ s.eligible sh p = true ∧ s.switchWanted sh p = none) ∨
      (s.shelves[sh].steering = .steer p ∧ s.eligible sh p = true) ∨
      (s.shelves[sh].steering = .pin p ∧ s.sameDomain sh p = true ∧ s.ports[p].state ≠ .off ∧
        s.ports[p].activity = true)) : s.completeSettle sh p = s.settled sh p := by
  have hself := settled_shelf s sh p
  obtain ⟨hc, hwanted⟩ := settled_inputs (p := p) s hs
  have hin := hc.sameInputs.verdicts sh
  rw [completeSettle_eq, State.act, hself]
  rcases hstay with ⟨hst, he, hw⟩ | ⟨hst, he⟩ | ⟨hst, hd, hoff, ha⟩
  · have hact := actsUnderAuto (s := s.settled sh p) (sh := sh) (x := Ctx.ranking) (by rw [hself]; exact hst) rfl
    unfold ActsUnderAuto at hact
    simp only [hself, hin.2.1, he, if_true, hwanted] at hact
    simp only [hst]
    exact hact.2.1 hw trivial
  · have hact := actsUnderSteer (s := s.settled sh p) (sh := sh) (x := Ctx.ranking) rfl p
    unfold ActsUnderSteer at hact
    simp only [hself, hin.2.1, he, if_true] at hact
    simp only [hst]
    exact hact
  · have hact := actsUnderPin (s := s.settled sh p) (sh := sh) (x := Ctx.ranking) rfl p
    unfold ActsUnderPin at hact
    simp only [hself, hin.2.2.2, hc.ports, hd, ha, Bool.true_eq_false, or_false, if_neg hoff, if_true, true_or] at hact
    simp only [hst]
    exact hact

/-- Where the switch rule wants another port the shelf gains it as its pending target (R92, R95). -/
theorem completeSettle_wants {p q b : PortId} {left : Nat} {cause : Cause} (hs : s.shelves[sh].state = .acquire q left)
    (hst : s.shelves[sh].steering = .auto) (he : s.eligible sh p = true) (hw : s.switchWanted sh p = some (b, cause)) :
    s.completeSettle sh p = (s.settled sh p).gainPending sh p b cause := by
  have hself := settled_shelf s sh p
  obtain ⟨hc, hwanted⟩ := settled_inputs (p := p) s hs
  have hin := hc.sameInputs.verdicts sh
  rw [completeSettle_eq, State.act, hself]
  simp only [hst, State.actAuto, hself, State.actLocked, hin.2.1, he, if_true, State.applySwitchRule, hwanted, hw]

/-- Then it waits, LOCKED, for a unit, or is lent one at once (R96). -/
theorem settled_gainPending {p q b : PortId} {left : Nat} {cause : Cause} (hs : s.shelves[sh].state = .acquire q left)
    (hst : s.shelves[sh].steering = .auto) (k : ShelvesKept ((s.settled sh p).gainPending sh p b cause) t) :
    t.shelves[sh].steering = .auto ∧
      ((t.shelves[sh].state = .locked p (some (b, cause)) ∧ t.shelves[sh].lastCause = s.shelves[sh].lastCause ∧
          sh ∈ t.queue ∧ (∀ v : UnitId, t.units[v] ≠ some sh) ∧ EventsOfMoves s t) ∨
        (t.shelves[sh].state = .acquire b (s.settleMs sh) ∧ t.shelves[sh].lastCause = some cause ∧
          Raised s t sh .switch)) := by
  have hself := settled_shelf s sh p
  have hsettled := moved_settled (p := p) hs
  obtain ⟨hc, -⟩ := settled_inputs (p := p) s hs
  obtain ⟨L, hmg, hsg, hL⟩ := acts_gainPending (s := s.settled sh p) (sh := sh) (by rw [hself]; rfl) p b cause
  have hk := k.2.2.2 sh
  refine ⟨by rw [hk.fields.1, hsg, hself]; exact hst, ?_⟩
  rcases gainPending_shelf (s.settled sh p) sh p b cause with e | ⟨e, hcs, -⟩
  · have hstate := hk.state_of_not_held (by rw [e]; rfl)
    rw [e] at hstate
    have hmem := gainPending_mem (s.settled sh p) sh p b cause (by rw [e]; rfl)
    have hquiet : Moved (s.unlearned sh) ((s.settled sh p).gainPending sh p b cause) sh [.lock] := by
      refine (hsettled.trans hmg).kinds fun k => ?_
      rw [List.mem_append, hL, e, hself]
      simp only
      rw [shelfRaises_locked rfl]
      simp
    refine .inl ⟨hstate, ?_, ?_, fun a => ?_, (eventsOfMoves_lock hs hquiet (by rw [e])).kept k⟩
    · rw [hk.fields.2.2.1, e, hself]
    · rw [k.2.1]
      exact hmem
    · rw [k.1]
      exact gainPending_no_unit (settled_no_unit s sh p a) (by rw [e]; rfl)
  · refine .inr ⟨?_, hk.fields.2.2.1.trans hcs, ?_⟩
    · rw [hk.state_of_not_held (by rw [e]; rfl), e, hc.settleMs]
    · have hraised := (hsettled.trans hmg).raised (k := .switch) (List.mem_append_right _ ((hL _).mpr (by
        rw [e, hself]
        rfl)))
      exact (hraised.kept k.2.2.1).start (unlearned_consequences s sh) rfl

end

/-- Settles O23. -/
theorem settleCompletionLocksAndFreesTheUnit : Obligations.SettleCompletionLocksAndFreesTheUnit := by
  intro sh s u hr
  refine ⟨fun hno => ?idle, ?settles⟩
  case idle =>
    show execSettleComplete sh s = _
    rw [execSettleComplete, live_of_not_inReset s _ hr]
    cases hs : s.shelves[sh].state with
    | acquire p left => exact absurd hs (hno p left)
    | _ => rfl
  case settles =>
    rintro p left hs rfl
    have hexec : exec (.settleComplete sh) s =
        .next (State.refresh (s.elapse left) ((s.elapse left).completeSettle sh p)) := by
      show execSettleComplete sh s = _
      rw [execSettleComplete, live_of_not_inReset s _ hr]
      simp only [hs]
    have hu := elapse_acquire left hs
    obtain ⟨hsteer, hcause, -⟩ := elapse_shelf_fields s left sh
    rw [← hsteer, ← hcause]
    generalize s.elapse left = u at hexec hu
    obtain ⟨K, hm, hlock⟩ := completeSettle_moved (p := p) hu
    have k := refresh_shelvesKept u (u.completeSettle sh p)
    have hcons := ((unlearned_consequences u sh).trans hm.moves.consequences).trans
      (refresh_consequences u (u.completeSettle sh p))
    have hself := settled_shelf u sh p
    have hleaves := act_leavesLock (x := Ctx.ranking) (c := p) rfl (by rw [hself]) (by rw [hself])
    refine ⟨_, hexec, hcons, (k.2.2.2 sh).fields.2.1.trans (hm.learned.trans (by rw [unlearned_self])),
      fun x hx => (((hm.undisturbed x hx).kept (k.2.2.2 x)).start (unlearned_consequences u sh) (unlearned_other u hx) id),
      fun hp => ?pool, (k.2.2.2 sh).fields.2.2.2.trans hleaves.1, ?lock, fun hstay => ?stays, ?wants⟩
    case pool =>
      refine (poolFits_completeSettle hu hp).2.kept hp k ?_
      rw [hm.held, unlearned_self]
    case lock => exact ((hm.raised hlock).kept k.2.2.1).start (unlearned_consequences u sh) rfl
    case stays =>
      rw [completeSettle_stays hu hstay] at k ⊢
      have hk := k.2.2.2 sh
      have hstate := hk.state_of_not_held (by rw [hself]; rfl)
      rw [hself] at hstate
      refine ⟨hstate, ?_, ?_, fun a => ?_, (eventsOfMoves_lock hu (moved_settled hu) (by rw [hself])).kept k⟩
      · rw [hk.fields.2.2.1, hself]
      · rw [hk.fields.1, hself]
      · rw [k.1]
        exact settled_no_unit u sh p a
    case wants =>
      intro b cause hst he hw
      rw [completeSettle_wants hu hst he hw] at k ⊢
      exact settled_gainPending hu hst k

end Sys2Proof.Machine
end

section
/-!
PROOFS. The events of ports (R17, R36, R54): what writing port and grade records raises, that the moves of shelves raise
none of these kinds, and that a committed change of ranking inputs makes exactly the shelves it reaches act (R68).
-/

namespace Sys2Proof.Machine

section
variable {s t u v : State}

/-! ## The events of the records written -/

/-- Exactly the kinds that the ports' records raise have been raised, and no other kind. -/
def PortsRaise (s t : State) : Prop :=
  Raises s t fun d k => ∃ p : PortId, s.portDomain p = some d ∧
    portRaises s.ports[p] t.ports[p] s.grades[p] t.grades[p] k = true

theorem portRaises_self (r : Port) (g : Grade) (k : DomainEvent) : portRaises r r g g k = false := by
  cases k <;> simp [portRaises]

/-- What no port's record raises. -/
theorem portRaises_other {r r' : Port} {g g' : Grade} {k : DomainEvent} (h : portRaises r r' g g' k = true) :
    k = .port ∨ k = .grade ∨ k = .loop := by
  cases k <;> simp_all [portRaises]

theorem PortsRaise.eventsOfPorts (h : PortsRaise s t) : EventsOfPorts s t := fun d k _ => (h d k).2

/-- The kinds of the shelves are as they were. -/
theorem PortsRaise.others (h : PortsRaise s t) (d : DomainId) (k : DomainEvent) :
    t.masked d k = s.masked d k ∧ (k ≠ .port → k ≠ .grade → k ≠ .loop → t.latched d k = s.latched d k) := by
  obtain ⟨hm, hl⟩ := h d k
  refine ⟨hm, fun h1 h2 h3 => Bool.eq_iff_iff.mpr ?_⟩
  rw [hl]
  refine ⟨fun h => h.resolve_right ?_, .inl⟩
  rintro ⟨-, p, -, hr⟩
  rcases portRaises_other hr with e | e | e
  · exact h1 e
  · exact h2 e
  · exact h3 e

/-- No record of a port changes what it raises by, and nothing is raised. -/
theorem portsRaise_none (hd : t.domainEvents = s.domainEvents)
    (h : ∀ (p : PortId) (k : DomainEvent), portRaises s.ports[p] t.ports[p] s.grades[p] t.grades[p] k = false) :
    PortsRaise s t := (raises_none hd).congr fun d k => by
  refine ⟨False.elim, fun ⟨p, _, hr⟩ => ?_⟩
  rw [h] at hr
  cases hr

theorem PortsRaise.refl (s : State) : PortsRaise s s := portsRaise_none rfl fun _ k => portRaises_self _ _ k

theorem raises_raisePort (s : State) (p : PortId) (e : DomainEvent) :
    Raises s (s.raisePort p e) fun d k => s.portDomain p = some d ∧ k = e := fun d k =>
  ⟨masked_raiseIn s _ _ _ _, by
    rw [State.raisePort, latched_raiseIn]
    constructor
    · rintro (h | ⟨hd, rfl, hm⟩)
      · exact .inl h
      · exact .inr ⟨hm, hd, rfl⟩
    · rintro (h | ⟨hm, hd, rfl⟩)
      · exact .inl h
      · exact .inr ⟨hd, rfl, hm⟩⟩

/-- A kind raised under a condition. -/
theorem raises_raisePort_if (s : State) (p : PortId) (e : DomainEvent) (c : Prop) [Decidable c] :
    Raises s (if c then s.raisePort p e else s) fun d k => s.portDomain p = some d ∧ k = e ∧ c := by
  split
  · next h => exact (raises_raisePort s p e).congr fun d k => by simp [h]
  · next h => exact (raises_none rfl).congr fun d k => by simp [h]

/-- One port's records written: what they raise is what that port raises. -/
theorem portsRaise_of_one {p : PortId} {E : DomainEvent → Prop} (hports : ∀ q, q ≠ p → t.ports[q] = s.ports[q])
    (hgrades : ∀ q, q ≠ p → t.grades[q] = s.grades[q])
    (hE : ∀ k, portRaises s.ports[p] t.ports[p] s.grades[p] t.grades[p] k = true ↔ E k)
    (h : Raises s t fun d k => s.portDomain p = some d ∧ E k) : PortsRaise s t := h.congr fun d k => by
  constructor
  · rintro ⟨hd, hk⟩
    exact ⟨p, hd, (hE k).mpr hk⟩
  · rintro ⟨q, hd, hr⟩
    by_cases hq : q = p
    · subst hq
      exact ⟨hd, (hE k).mp hr⟩
    · rw [hports q hq, hgrades q hq, portRaises_self] at hr
      cases hr

/-- A port record written raises PORT as its state changes (R17). -/
theorem raises_putPort (s : State) (p : PortId) (r : Port) :
    Raises s (s.putPort p r) fun d k => s.portDomain p = some d ∧ k = .port ∧ r.state ≠ s.ports[p].state := by
  have heq : s.putPort p r = if r.state ≠ s.ports[p].state then (s.setPort p r).raisePort p .port else s.setPort p r := by
    unfold State.putPort
    by_cases h : r.state = s.ports[p].state
    · rw [if_pos h, if_neg (not_not.mpr h)]
    · rw [if_neg h, if_pos h]
  rw [heq]
  exact fun d k => raises_raisePort_if (s.setPort p r) p .port (r.state ≠ s.ports[p].state) d k

theorem putPort_get_self (s : State) (p : PortId) (r : Port) : (s.putPort p r).ports[p] = r := by
  rw [putPort_ports]
  exact (setPort_get s p p r).trans (if_pos rfl)

theorem putPort_get_other (s : State) {p q : PortId} (r : Port) (h : q ≠ p) : (s.putPort p r).ports[q] = s.ports[q] := by
  rw [putPort_ports]
  exact (setPort_get s p q r).trans (if_neg h.symm)

theorem putGrade_get_self (s : State) (p : PortId) (g : Grade) : (s.putGrade p g).grades[p] = g := by
  rw [putGrade_grades]
  exact (setGrade_get s p p g).trans (if_pos rfl)

theorem putGrade_get_other (s : State) {p q : PortId} (g : Grade) (h : q ≠ p) : (s.putGrade p g).grades[q] = s.grades[q] := by
  rw [putGrade_grades]
  exact (setGrade_get s p q g).trans (if_neg h.symm)

theorem portsRaise_putPort (s : State) (p : PortId) (r : Port) : PortsRaise s (s.putPort p r) := by
  refine portsRaise_of_one (p := p) (fun q hq => putPort_get_other s r hq) (fun q _ => ?_) (fun k => ?_) (raises_putPort s p r)
  · rw [putPort_only]
  · have hg : (s.putPort p r).grades[p] = s.grades[p] := by rw [putPort_only]
    rw [putPort_get_self, hg]
    cases k <;> simp [portRaises]

/-- A grade record written raises GRADE as the accepted grade changes and LOOP as the loop flag sets (R36). -/
theorem raises_putGrade (s : State) (p : PortId) (g : Grade) :
    Raises s (s.putGrade p g) fun d k => s.portDomain p = some d ∧ (k = .grade ∧ g.accepted ≠ s.grades[p].accepted ∨
      k = .loop ∧ (g.loopFlag && !s.grades[p].loopFlag) = true) := by
  have h1 : Raises s (if g.accepted ≠ s.grades[p].accepted then (s.setGrade p g).raisePort p .grade else s.setGrade p g)
      fun d k => s.portDomain p = some d ∧ k = .grade ∧ g.accepted ≠ s.grades[p].accepted :=
    fun d k => raises_raisePort_if (s.setGrade p g) p .grade _ d k
  have heq : s.putGrade p g = if (g.loopFlag && !s.grades[p].loopFlag) = true then
      (if g.accepted ≠ s.grades[p].accepted then (s.setGrade p g).raisePort p .grade else s.setGrade p g).raisePort p .loop
      else if g.accepted ≠ s.grades[p].accepted then (s.setGrade p g).raisePort p .grade else s.setGrade p g := by
    unfold State.putGrade
    by_cases h : g.accepted = s.grades[p].accepted
    · simp only [if_pos h, if_neg (not_not.mpr h)]
    · simp only [if_neg h, ne_eq, if_pos h]
  have hdom : (if g.accepted ≠ s.grades[p].accepted then (s.setGrade p g).raisePort p .grade else s.setGrade p g).portDomain p =
      s.portDomain p := by
    split
    · simp only [State.portDomain, raisePort_current]
      rfl
    · rfl
  rw [heq]
  refine (h1.trans (raises_raisePort_if _ p .loop _)).congr fun d k => ?_
  rw [hdom]
  tauto

theorem portsRaise_putGrade (s : State) (p : PortId) (g : Grade) : PortsRaise s (s.putGrade p g) := by
  refine portsRaise_of_one (p := p) (fun q _ => ?_) (fun q hq => putGrade_get_other s g hq) (fun k => ?_) (raises_putGrade s p g)
  · rw [putGrade_only]
  · have hp : (s.putGrade p g).ports[p] = s.ports[p] := by rw [putGrade_only]
    rw [putGrade_get_self, hp]
    cases k <;> simp [portRaises]

/-- A grade record written in fields that raise nothing. -/
theorem portsRaise_setGrade (s : State) {p : PortId} {g : Grade} (ha : g.accepted = s.grades[p].accepted)
    (hl : g.loopFlag = s.grades[p].loopFlag) : PortsRaise s (s.setGrade p g) := by
  refine portsRaise_none rfl fun q k => ?_
  rw [setGrade_get]
  split
  · next hq =>
    subst hq
    cases k <;> simp [portRaises, ha, hl, State.setGrade]
  · exact portRaises_self _ _ k

theorem portsRaise_completeMessage (s : State) (p : PortId) (bytes : List Byte) (bad : Bool) :
    PortsRaise s (s.completeMessage p bytes bad) := by
  unfold State.completeMessage
  split
  · exact portsRaise_putGrade s p _
  · exact portsRaise_setGrade s rfl rfl

theorem portsRaise_receiveByte (s : State) (p : PortId) (b : Byte) (bad : Bool) : PortsRaise s (s.receiveByte p b bad) := by
  unfold State.receiveByte
  split
  · exact .refl s
  · split
    · split
      · exact .refl s
      · exact portsRaise_setGrade s rfl rfl
    · split
      · exact portsRaise_setGrade s rfl rfl
      · exact portsRaise_setGrade s rfl rfl
    · split
      · exact portsRaise_setGrade s rfl rfl
      · exact portsRaise_completeMessage s p _ _

/-! ## Every loop flag recomputed (R34) -/

theorem raises_reloop (own : NodeId) (l : List PortId) (hl : l.Nodup) (s : State) :
    Raises s (l.foldl (fun t p => t.putGrade p (t.grades[p].reloop own)) s) fun d k => ∃ p ∈ l, s.portDomain p = some d ∧
      k = .loop ∧ ((s.grades[p].reloop own).loopFlag && !s.grades[p].loopFlag) = true := by
  induction l generalizing s with
  | nil => exact (raises_none rfl).congr fun d k => by simp
  | cons p rest ih =>
    obtain ⟨hp, hrest⟩ := List.nodup_cons.mp hl
    rw [List.foldl_cons]
    refine ((raises_putGrade s p _).trans (ih hrest _)).congr fun d k => ?_
    have hdom : ∀ q, (s.putGrade p (s.grades[p].reloop own)).portDomain q = s.portDomain q := fun q => by
      rw [putGrade_only]
      rfl
    have hget : ∀ q ∈ rest, (s.putGrade p (s.grades[p].reloop own)).grades[q] = s.grades[q] := fun q hq =>
      putGrade_get_other s _ fun e => hp (e ▸ hq)
    simp only [hdom, List.mem_cons, exists_eq_or_imp]
    refine or_congr ?_ (exists_congr fun q => and_congr_right fun hq => ?_)
    · refine and_congr_right fun _ => ?_
      have hacc : (s.grades[p].reloop own).accepted = s.grades[p].accepted := rfl
      simp only [hacc, ne_eq, not_true_eq_false, and_false, false_or]
    · rw [hget q hq]

theorem portsRaise_setNodeId (s : State) (own : NodeId) : PortsRaise s (s.setNodeId own) := by
  have h := raises_reloop own (List.finRange 24) (List.nodup_finRange 24) { s with nodeId := own }
  have h' : Raises s (s.setNodeId own) fun d k => ∃ p ∈ List.finRange 24, s.portDomain p = some d ∧
      k = .loop ∧ ((s.grades[p].reloop own).loopFlag && !s.grades[p].loopFlag) = true := h
  refine h'.congr fun d k => ?_
  simp only [List.mem_finRange, true_and, setNodeId_ports, setNodeId_grade]
  refine exists_congr fun p => and_congr_right fun _ => ?_
  generalize s.grades[p] = g
  cases k <;> simp [portRaises, Grade.reloop]

/-! ## A new setup (R7, R18, R35) -/

theorem replaceSetup_port (s : State) (p q : PortId) (new : PortSetup) :
    (s.replaceSetup p new).ports[q] = if p = q then s.setupRecord p new else s.ports[q] := by
  rw [replaceSetup_ports]
  exact setPort_get s p q _

theorem replaceSetup_grade (s : State) (p q : PortId) (new : PortSetup) :
    (s.replaceSetup p new).grades[q] = if p = q then s.setupGrade p new else s.grades[q] := by
  rw [replaceSetup_grades]
  exact setGrade_get s p q _

/-- What a new setup raises is what the port's records raise (R17, R36). -/
theorem raises_replaceSetup (s : State) (p : PortId) (new : PortSetup) :
    Raises s (s.replaceSetup p new) fun d k => s.portDomain p = some d ∧
      portRaises s.ports[p] (s.setupRecord p new) s.grades[p] (s.setupGrade p new) k = true := by
  have hport : ∀ (r : Port) (t : State), t.domainEvents = (s.putPort p r).domainEvents →
      Raises s t fun d k => s.portDomain p = some d ∧ k = .port ∧ r.state ≠ s.ports[p].state := by
    intro r t ht d k
    have h := raises_putPort s p r d k
    unfold State.masked State.latched at h ⊢
    rwa [ht]
  unfold State.replaceSetup State.setupRecord State.setupGrade
  dsimp only
  cases ho : s.ports[p].setup.enabled <;> cases hn : new.enabled <;> simp only
  case true.false =>
    -- PORT as the port goes OFF, GRADE as its grade is dropped
    generalize ht : (s.putPort p { s.ports[p].disable s.now with setup := new }).setGrade p s.grades[p].disable = t
    have hset := hport { s.ports[p].disable s.now with setup := new } t (by rw [← ht]; rfl)
    have hdom : t.portDomain p = s.portDomain p := by rw [← ht, putPort_only]; rfl
    have heq : (if s.grades[p].accepted = 0 then t else t.raisePort p .grade) =
        if s.grades[p].accepted ≠ 0 then t.raisePort p .grade else t := by
      by_cases h : s.grades[p].accepted = 0
      · rw [if_pos h, if_neg (not_not.mpr h)]
      · rw [if_neg h, if_pos h]
    rw [heq]
    refine (hset.trans (raises_raisePort_if t p .grade _)).congr fun d k => ?_
    rw [hdom]
    generalize s.grades[p] = g
    cases k <;> simp [portRaises, Grade.disable, eq_comm (a := 0)]
  all_goals
    refine (hport _ _ rfl).congr fun d k => and_congr_right fun _ => ?_
    generalize s.grades[p] = g
    cases k <;> simp [portRaises]

theorem portsRaise_replaceSetup (s : State) (p : PortId) (new : PortSetup) : PortsRaise s (s.replaceSetup p new) := by
  refine portsRaise_of_one (p := p) (fun q hq => ?_) (fun q hq => ?_) (fun k => ?_) (raises_replaceSetup s p new)
  · rw [replaceSetup_port, if_neg hq.symm]
  · rw [replaceSetup_grade, if_neg hq.symm]
  · rw [replaceSetup_port, replaceSetup_grade, if_pos rfl, if_pos rfl]

end

end Sys2Proof.Machine
end

section
/-!
PROOFS. Port events (R3 to R13, R17): activity, measurement windows, restore timers and waivers.
-/

namespace Sys2Proof.Machine

/-! ## Shelves raise no kind of a port -/

/-- PORT, GRADE and LOOP are latched as they were. -/
def PortKindsKept (s t : State) : Prop :=
  ∀ (d : DomainId) (k : DomainEvent), k = .port ∨ k = .grade ∨ k = .loop →
    t.masked d k = s.masked d k ∧ t.latched d k = s.latched d k

section
variable {s t u v : State}

theorem PortKindsKept.trans (h : PortKindsKept s t) (k : PortKindsKept t u) : PortKindsKept s u := fun d e he =>
  ⟨(k d e he).1.trans (h d e he).1, (k d e he).2.trans (h d e he).2⟩

theorem portKindsKept_of_same (h : t.domainEvents = s.domainEvents) : PortKindsKept s t := fun d k _ => by
  unfold State.masked State.latched
  rw [h]
  exact ⟨rfl, rfl⟩

/-- No move of a shelf raises a kind of a port (R78). -/
theorem shelfRaises_port_kind {a b : ShelfState} {lost : Bool} {k : DomainEvent} (hk : k = .port ∨ k = .grade ∨ k = .loop) :
    shelfRaises a b lost k = false := by
  rcases hk with rfl | rfl | rfl <;> rfl

theorem EventsOfMoves.portKindsKept (h : EventsOfMoves s t) : PortKindsKept s t := fun d k hk => by
  obtain ⟨hm, hl⟩ := h d k
  refine ⟨hm, Bool.eq_iff_iff.mpr (hl.trans ⟨fun e => e.resolve_right ?_, .inl⟩)⟩
  rintro ⟨-, sh, -, hr⟩
  rw [shelfRaises_port_kind hk] at hr
  cases hr

theorem portKindsKept_foldl {f : State → ShelfId → State} (hf : ∀ s sh, PortKindsKept s (f s sh)) (l : List ShelfId) (s : State) :
    PortKindsKept s (l.foldl f s) := by
  induction l generalizing s with
  | nil => exact portKindsKept_of_same rfl
  | cons sh rest ih => exact (hf s sh).trans (ih _)

theorem portKindsKept_rerank (old s : State) (x : Ctx) : PortKindsKept s (State.rerank old s x) := by
  obtain ⟨order, n, -, h⟩ := inTurn_order s (State.handedNew old s) fun s sh => State.meet old s sh x
  unfold State.rerank
  rw [h]
  exact (portKindsKept_of_same (t := { s with freeCount := n }) rfl).trans
    (portKindsKept_foldl (fun s sh => (eventsOfMoves_act s sh _).portKindsKept) order _)

theorem portKindsKept_commit (old s : State) (x : Ctx) : PortKindsKept s (State.commit old s x) :=
  (portKindsKept_rerank old s x).trans (portKindsKept_of_same (refresh_pool old _).2.2)

/-- What a committed change of ports raises of their kinds is what the ports' records raise (R17, R36). -/
theorem eventsOfPorts_commit (h : PortsRaise u v) (x : Ctx) : EventsOfPorts u (State.commit u v x) := by
  intro d k hk
  have hc := commit_consequences u v x
  rw [hc.ports, hc.grades, (portKindsKept_commit u v x d k hk).2]
  exact h.eventsOfPorts d k hk

/-- A port whose state has changed has raised PORT in its domain (R17). -/
theorem EventsOfPorts.port (h : EventsOfPorts s t) {p : PortId} (hne : t.ports[p].state ≠ s.ports[p].state) (d : DomainId)
    (hd : s.portDomain p = some d) (hm : s.masked d .port = false) : t.latched d .port = true :=
  (h d .port (.inl rfl)).mpr (.inr ⟨hm, p, hd, by simp only [portRaises, bne_iff_ne]; exact hne⟩)

theorem EventsOfPorts.grade (h : EventsOfPorts s t) {p : PortId} (hne : t.grades[p].accepted ≠ s.grades[p].accepted)
    (d : DomainId) (hd : s.portDomain p = some d) (hm : s.masked d .grade = false) : t.latched d .grade = true :=
  (h d .grade (.inr (.inl rfl))).mpr (.inr ⟨hm, p, hd, by simp only [portRaises, bne_iff_ne]; exact hne⟩)

theorem EventsOfPorts.loop (h : EventsOfPorts s t) {p : PortId} (hs : s.grades[p].loopFlag = false)
    (ht : t.grades[p].loopFlag = true) (d : DomainId) (hd : s.portDomain p = some d) (hm : s.masked d .loop = false) :
    t.latched d .loop = true :=
  (h d .loop (.inr (.inr rfl))).mpr (.inr ⟨hm, p, hd, by simp only [portRaises, hs, ht]; rfl⟩)

/-! ## A port record written and committed -/

/-- What writing one port record leaves, with its consequences. -/
theorem commit_putPort (u : State) (p : PortId) (r : Port) :
    Consequences { u with ports := (State.commit u (u.putPort p r) Ctx.ranking).ports }
        (State.commit u (u.putPort p r) Ctx.ranking) ∧
      EventsOfPorts u (State.commit u (u.putPort p r) Ctx.ranking) ∧
      (∀ q : PortId, q ≠ p → (State.commit u (u.putPort p r) Ctx.ranking).ports[q] = u.ports[q]) ∧
      (State.commit u (u.putPort p r) Ctx.ranking).ports[p] = r := by
  have hc := commit_consequences u (u.putPort p r) Ctx.ranking
  refine ⟨?_, eventsOfPorts_commit (portsRaise_putPort u p r) _, fun q hq => ?_, ?_⟩
  · refine Consequences.trans ?_ hc
    rw [hc.ports]
    unfold Consequences
    rw [putPort_only, putPort_ports]
  · rw [hc.ports, putPort_get_other u r hq]
  · rw [hc.ports, putPort_get_self]

/-! ## The qualification decision (R9) -/

/-- The decision as R9 says it. -/
theorem qualifiedIn_qualify {p : PortId} {r : Port} (h : r.waiver = s.ports[p].waiver) : QualifiedIn s p (s.qualify p r) := by
  have hwaived : r.waived s.now = true ↔ ∃ w, s.ports[p].waiver = some w ∧ s.now ≤ w := by
    unfold Port.waived
    rw [h]
    cases s.ports[p].waiver <;> simp
  unfold QualifiedIn State.qualify
  cases hd : s.portDomain p with
  | none => exact ⟨fun _ => ⟨rfl, rfl⟩, nofun⟩
  | some d =>
    simp only
    constructor
    · intro hup
      rw [if_pos]
      · exact ⟨rfl, rfl⟩
      · simp only [Bool.or_eq_true, bne_iff_ne, beq_iff_eq, hwaived]
        rcases hup with hw | hp | hd' | ⟨d', hd', hz⟩
        · exact .inl (.inl hw)
        · exact .inl (.inr hp)
        · cases hd'
        · obtain rfl := Option.some.inj hd'
          exact .inr hz
    · intro d' hw hp hd' hz
      obtain rfl := Option.some.inj hd'
      rw [if_neg]
      · exact ⟨rfl, rfl⟩
      · simp only [Bool.or_eq_true, bne_iff_ne, beq_iff_eq, hwaived]
        rintro ((⟨w, hw', hle⟩ | hp') | hz')
        · exact absurd (hw w hw') (Nat.not_lt.mpr hle)
        · exact hp' hp
        · exact hz hz'

/-- The decision writes the state and the restore time alone, and ends in UP or QUALIFYING. -/
theorem qualify_fields (s : State) (p : PortId) (r : Port) :
    s.qualify p r = { r with state := (s.qualify p r).state, restoreLeft := (s.qualify p r).restoreLeft } ∧
      ((s.qualify p r).state = .up ∨ (s.qualify p r).state = .qualifying) := by
  rcases qualify_cases s p r with h | ⟨d, -, -, -, -, h⟩ <;> rw [h]
  · exact ⟨rfl, .inl rfl⟩
  · exact ⟨rfl, .inr rfl⟩

end

/-- An event of a part out of reset after some time. -/
theorem live_after {s : State} (hr : s.inReset = false) (d : Nat) (f : State → State) :
    s.live (fun s => s.after d f) = .next (State.commit (s.elapse d) (f (s.elapse d)) Ctx.ranking) :=
  live_of_not_inReset s _ hr

/-- Settles O13. -/
theorem activityConfirmationQualifiesThePort : Obligations.ActivityConfirmationQualifiesThePort := by
  rintro p s u hr hdown hact rfl
  have hexec : exec (.activityConfirmation p) s =
      .next (State.commit (s.elapse (s.ports[p].since + s.ports[p].setup.lossDwell - s.now))
        ((s.elapse (s.ports[p].since + s.ports[p].setup.lossDwell - s.now)).confirmActivity p) Ctx.ranking) := by
    show execActivityConfirmation p s = _
    rw [execActivityConfirmation, live_of_not_inReset s _ hr, if_pos (by rw [hdown, hact]; rfl)]
    rfl
  have hu := elapse_port_fields s (s.ports[p].since + s.ports[p].setup.lossDwell - s.now) p
  generalize s.elapse (s.ports[p].since + s.ports[p].setup.lossDwell - s.now) = u at hexec hu
  have hudown : u.ports[p].state = .down := by rw [hu]; exact hdown
  obtain ⟨hcons, hev, hother, hself⟩ := commit_putPort u p
    ((u.qualify p { u.ports[p] with activity := true, since := u.now }).syncWindow u.mayMeasure)
  obtain ⟨hfields, hstate⟩ := qualify_fields u p { u.ports[p] with activity := true, since := u.now }
  have hq : QualifiedIn u p (u.qualify p { u.ports[p] with activity := true, since := u.now }) := qualifiedIn_qualify rfl
  have hwrite : u.confirmActivity p =
      u.putPort p ((u.qualify p { u.ports[p] with activity := true, since := u.now }).syncWindow u.mayMeasure) := rfl
  rw [← hwrite] at hcons hev hother hself
  refine ⟨_, hexec, hcons, hev, hother, ?_, ?_, ?_, hev.port ?_⟩
  · rw [hself]
    unfold Port.syncWindow
    rw [hfields]
  · rw [hself]
    exact hq.1
  · rw [hself]
    exact hq.2
  · rw [hself, hudown]
    show (u.qualify p _).state ≠ .down
    rcases hstate with e | e <;> rw [e] <;> exact nofun

/-- What leaving UP takes along (R12). -/
theorem leaveUp_fields (s : State) (p : PortId) (r : Port) :
    (s.leaveUp p r).dropped = (r.dropped || r.state == .up) ∧
      (∀ d, r.state = .up → s.portDomain p = some d → s.domains[d].holdOff ≠ 0 →
        (s.leaveUp p r).waiver = some (s.now + s.domains[d].holdOff)) ∧
      (r.state ≠ .up ∨ s.portDomain p = none ∨ (∃ d, s.portDomain p = some d ∧ s.domains[d].holdOff = 0) →
        (s.leaveUp p r).waiver = r.waiver) := by
  unfold State.leaveUp
  by_cases hup : r.state = .up
  · rw [if_pos (by rw [hup]; rfl), hup]
    refine ⟨by simp, fun d _ hd hz => ?_, fun h => ?_⟩
    · simp only [hd, if_neg hz]
    · rcases h with h | h | ⟨d, hd, hz⟩
      · exact absurd rfl h
      · simp only [h]
      · simp only [hd, if_pos hz]
  · have hne : (r.state == .up) = false := beq_false_of_ne hup
    rw [hne]
    exact ⟨by simp, fun d h => absurd h hup, fun _ => rfl⟩

/-- Settles O14. -/
theorem activityLossTakesThePortDown : Obligations.ActivityLossTakesThePortDown := by
  rintro p s u hr rfl
  refine ⟨fun hact => ?_, fun hact => ?_⟩
  · show execActivityLoss p s = _
    rw [execActivityLoss, live_of_not_inReset s _ hr, if_neg (by rw [hact]; exact Bool.false_ne_true)]
  · have hexec : exec (.activityLoss p) s =
        .next (State.commit (s.elapse (s.ports[p].since + s.ports[p].setup.lossDwell - s.now))
          ((s.elapse (s.ports[p].since + s.ports[p].setup.lossDwell - s.now)).loseActivity p) Ctx.ranking) := by
      show execActivityLoss p s = _
      rw [execActivityLoss, live_of_not_inReset s _ hr, if_pos hact]
      rfl
    generalize s.elapse (s.ports[p].since + s.ports[p].setup.lossDwell - s.now) = u at hexec
    obtain ⟨hcons, hev, hother, hself⟩ := commit_putPort u p ((u.leaveUp p u.ports[p]).enterDown u.now)
    have hwrite : u.loseActivity p = u.putPort p ((u.leaveUp p u.ports[p]).enterDown u.now) := rfl
    rw [← hwrite] at hcons hev hother hself
    obtain ⟨hdropped, hwaiver, hkept⟩ := leaveUp_fields u p u.ports[p]
    refine ⟨_, hexec, hcons, hev, hother, ?_, ?_, ?_, fun d hne => hev.port ?_ d⟩
    · rw [hself]
      unfold Port.enterDown
      rw [leaveUp_only, hdropped]
    · intro d hup hd hz
      rw [hself]
      exact hwaiver d hup hd hz
    · intro h
      rw [hself]
      exact hkept h
    · rw [hself]
      exact Ne.symm hne

/-! ## Measurement windows -/

/-- The rounding of R5. -/
theorem roundOffset_bounds (m : Int) : |roundOffset m| ≤ 32767 ∧ (|m| ≤ 327670 → |10 * roundOffset m - m| ≤ 5) ∧
    (327670 ≤ m → roundOffset m = 32767) ∧ (m ≤ -327670 → roundOffset m = -32767) := by
  unfold roundOffset
  dsimp only
  generalize Config.roundTieUp m = up
  simp only [abs_le]
  split
  · refine ⟨by omega, fun h => by omega, fun h => by omega, fun h => by omega⟩
  · split
    · refine ⟨by omega, fun h => by omega, fun h => by omega, fun h => by omega⟩
    · split
      · refine ⟨by omega, fun h => by omega, fun h => by omega, fun h => by omega⟩
      · refine ⟨by omega, fun h => by omega, fun h => by omega, fun h => by omega⟩

/-- Settles O15. -/
theorem measurementWindowGivesAVerdict : Obligations.MeasurementWindowGivesAVerdict := by
  refine ⟨roundOffset_bounds, ?_⟩
  rintro p m e s u hr hwin rfl
  have hexec : exec (.measurementWindowComplete p m) s =
      .next (State.commit (s.elapse (1000 - e)) ((s.elapse (1000 - e)).completeWindow p m) Ctx.ranking) := by
    show execMeasurementWindowComplete p m s = _
    rw [execMeasurementWindowComplete, live_of_not_inReset s _ hr]
    simp only [hwin]
    rfl
  generalize s.elapse (1000 - e) = u at hexec
  by_cases hband : |roundOffset m| ≤ u.ports[p].setup.band.limit
  · have hwrite : u.completeWindow p m =
        u.putPort p (u.inBand p { u.ports[p] with offset := some (roundOffset m), window := some 0 }) := by
      unfold State.completeWindow
      dsimp only
      rw [if_pos hband]
    rw [hwrite] at hexec
    obtain ⟨hcons, hev, hother, hself⟩ := commit_putPort u p
      (u.inBand p { u.ports[p] with offset := some (roundOffset m), window := some 0 })
    refine ⟨_, hexec, hcons, hev, hother, ?_⟩
    rw [hself]
    unfold State.inBand
    dsimp only
    split
    · next hend =>
      obtain ⟨hrun, hfault⟩ := Bool.and_eq_true_iff.mp hend
      have hrun := of_decide_eq_true hrun
      have hq := qualifiedIn_qualify (s := u) (p := p) (r := { u.ports[p] with
        offset := some (roundOffset m), window := some 0, outRun := 0, inRun := min 2 (u.ports[p].inRun + 1), fault := false }) rfl
      obtain ⟨hfields, hstate⟩ := qualify_fields u p { u.ports[p] with
        offset := some (roundOffset m), window := some 0, outRun := 0, inRun := min 2 (u.ports[p].inRun + 1), fault := false }
      generalize u.qualify p _ = r at hq hfields hstate ⊢
      rw [hfields]
      refine ⟨rfl, rfl, rfl, rfl, fun _ => ⟨rfl, rfl, rfl, rfl, rfl, fun _ _ => ⟨rfl, hstate, hfields ▸ hq⟩, ?_⟩,
        fun hout => absurd hband (not_le.mpr hout)⟩
      rintro (hf | hf)
      · rw [hf] at hfault
        cases hfault
      · exact absurd hrun hf
    · next hend =>
      refine ⟨rfl, rfl, rfl, rfl, fun _ => ⟨rfl, rfl, rfl, rfl, rfl, fun hf hrun => ?_, fun _ => ⟨rfl, rfl, rfl⟩⟩,
        fun hout => absurd hband (not_le.mpr hout)⟩
      exact absurd (Bool.and_eq_true_iff.mpr ⟨decide_eq_true hrun, hf⟩) hend
  · have hwrite : u.completeWindow p m =
        u.putPort p (u.outOfBand p { u.ports[p] with offset := some (roundOffset m), window := some 0 }) := by
      unfold State.completeWindow
      dsimp only
      rw [if_neg hband]
    rw [hwrite] at hexec
    obtain ⟨hcons, hev, hother, hself⟩ := commit_putPort u p
      (u.outOfBand p { u.ports[p] with offset := some (roundOffset m), window := some 0 })
    refine ⟨_, hexec, hcons, hev, hother, ?_⟩
    rw [hself]
    unfold State.outOfBand
    dsimp only
    split
    · next hend =>
      obtain ⟨hrun, hfault⟩ := Bool.and_eq_true_iff.mp hend
      have hrun := of_decide_eq_true hrun
      have hleave := leaveUp_only u p { u.ports[p] with
        offset := some (roundOffset m), window := some 0, inRun := 0, outRun := min 2 (u.ports[p].outRun + 1) }
      obtain ⟨hdropped, hwaiver, hkept⟩ := leaveUp_fields u p { u.ports[p] with
        offset := some (roundOffset m), window := some 0, inRun := 0, outRun := min 2 (u.ports[p].outRun + 1) }
      generalize u.leaveUp p _ = r at hleave hdropped hwaiver hkept ⊢
      rw [hleave]
      refine ⟨rfl, rfl, rfl, rfl, fun hin => absurd hin hband, fun _ => ⟨rfl, rfl,
        fun _ _ => ⟨rfl, rfl, rfl, rfl, hdropped, hwaiver, hkept⟩, ?_⟩⟩
      rintro (hf | hf)
      · rw [hf] at hfault
        cases hfault
      · exact absurd hrun hf
    · next hend =>
      refine ⟨rfl, rfl, rfl, rfl, fun hin => absurd hin hband, fun _ => ⟨rfl, rfl, fun hf hrun => ?_,
        fun _ => ⟨rfl, rfl, rfl, rfl, rfl, rfl⟩⟩⟩
      exact absurd (Bool.and_eq_true_iff.mpr ⟨decide_eq_true hrun, by rw [hf]; rfl⟩) hend

/-- Settles O16. -/
theorem restoreTimerAndWaiverEndOnTime : Obligations.RestoreTimerAndWaiverEndOnTime := by
  intro p n s hr
  refine ⟨fun hq hleft => ?_, fun hq => ?_, fun hw => ?_, fun hw => ?_⟩
  · have hexec : exec (.restoreTimerExpiry p) s =
        .next (State.commit (s.elapse n) ((s.elapse n).expireRestore p) Ctx.ranking) := by
      show execRestoreTimerExpiry p s = _
      rw [execRestoreTimerExpiry, live_of_not_inReset s _ hr]
      simp only [hleft, hq, beq_self_eq_true, if_true]
      rfl
    have hu := elapse_port_fields s n p
    have hdom : (s.elapse n).portDomain p = s.portDomain p := by rw [elapse_only]; rfl
    have hmask : ∀ d k, (s.elapse n).masked d k = s.masked d k := fun d k => by rw [elapse_only]; rfl
    generalize s.elapse n = u at hexec hu hdom hmask
    obtain ⟨-, hev, -, hself⟩ := commit_putPort u p { u.ports[p] with state := .up, restoreLeft := none }
    have hc := commit_consequences u (u.expireRestore p) Ctx.ranking
    have hwrite : u.expireRestore p = u.putPort p { u.ports[p] with state := .up, restoreLeft := none } := rfl
    rw [← hwrite] at hev hself
    refine ⟨_, hexec, ?_, fun d hd hm => hev.port ?_ d (by rw [hdom]; exact hd) (by rw [hmask]; exact hm)⟩
    · refine Consequences.trans ?_ hc
      rw [hwrite]
      unfold Consequences
      rw [putPort_only, putPort_ports]
      rfl
    · rw [hself, hu]
      show PortState.up ≠ s.ports[p].state
      rw [hq]
      exact nofun
  · show execRestoreTimerExpiry p s = _
    rw [execRestoreTimerExpiry, live_of_not_inReset s _ hr]
    cases s.ports[p].restoreLeft with
    | none => rfl
    | some left => simp only [beq_false_of_ne hq, Bool.false_eq_true, if_false]
  · show execWaiverDeadlinePasses p s = _
    rw [execWaiverDeadlinePasses, live_of_not_inReset s _ hr]
    simp only [hw]
    rfl
  · show execWaiverDeadlinePasses p s = _
    rw [execWaiverDeadlinePasses, live_of_not_inReset s _ hr]
    simp only [hw]

end Sys2Proof.Machine
end

section
/-!
PROOFS. Grade messages and the bytes of a grade line (R22 to R31, R36), NODE IDENTIFIER (R185) and PORT SETUP (R18).
-/

namespace Sys2Proof.Machine

/-! ## What a change of ranking inputs keeps of the shelves -/

/-- What holds at any count of free choices and is kept as a shelf acts holds once every shelf has acted (R68). -/
theorem rerank_induction {P : State → Prop} (old v : State) (x : Ctx) (h0 : ∀ n, P { v with freeCount := n })
    (hact : ∀ (t : State) (sh : ShelfId) (y : Ctx), P t → P (t.act sh y)) : P (State.rerank old v x) := by
  obtain ⟨order, n, -, h⟩ := inTurn_order v (State.handedNew old v) fun s sh => State.meet old s sh x
  have hfold : ∀ (l : List ShelfId) (t : State), P t → P (l.foldl (fun s sh => State.meet old s sh x) t) := by
    intro l
    induction l with
    | nil => exact fun _ h => h
    | cons sh rest ih => exact fun t h => ih _ (hact t sh _ h)
  unfold State.rerank
  rw [h]
  exact hfold order _ (h0 n)

section
variable {s t u v : State} {p : PortId}

/-- No shelf enters or leaves HELD as a shelf acts. -/
theorem act_isHeld (s : State) (sh y : ShelfId) (x : Ctx) : (s.act sh x).shelves[y].state.isHeld = s.shelves[y].state.isHeld := by
  obtain ⟨K, h⟩ := moved_act s sh x
  by_cases hy : y = sh
  · rw [hy]
    exact h.held
  · rcases h.others y hy with e | e
    · rw [e]
    · exact e.kept.2.2.1

theorem rerank_isHeld (old v : State) (x : Ctx) (y : ShelfId) :
    (State.rerank old v x).shelves[y].state.isHeld = v.shelves[y].state.isHeld :=
  rerank_induction (P := fun t => t.shelves[y].state.isHeld = v.shelves[y].state.isHeld) old v x (fun _ => rfl)
    fun t sh c h => (act_isHeld t sh y c).trans h

/-- The output of a HELD shelf stands low (R150). -/
theorem drive_of_held {setup : OutputSetup} {st : ShelfState} (h : st.isHeld = true) (g : Nat) :
    (driveOf setup st g).1.fixed = true := by
  unfold driveOf
  rw [if_pos h]
  split <;> rfl

theorem rebuilt_drive (old u : State) (sh : ShelfId) : (State.rebuilt old u sh).drive =
    (u.driveUnder sh (u.setupNow sh (State.frozenOf old u sh)).1 (State.frozenOf old u sh)).1 := rfl

theorem refreshOutputs_held_fixed (old u : State) {sh : ShelfId} (h : u.shelves[sh].state.isHeld = true) :
    (State.refreshOutputs old u).outputs[sh].drive.fixed = true := by
  rw [refreshOutputs_get, (retime_fields _ _ _).2.2.1, rebuilt_drive]
  unfold State.driveUnder
  exact drive_of_held h _

theorem refreshed_held {s : State} {sh : ShelfId} (h : s.shelves[sh].state.isHeld = true) :
    (s.refreshNominees.syncValid).shelves[sh].state.isHeld = true := by
  rw [syncValid_shelf, refreshNominees_shelf, if_pos h]
  rfl

/-- The message of an enabled output of a HELD shelf is SHUN (R157). -/
theorem refresh_held_shun (old s : State) {sh : ShelfId} (h : s.shelves[sh].state.isHeld = true) :
    (State.refresh old s).outputs[sh].active.enabled = true →
      (State.refresh old s).outputs[sh].outgoing = some (shunMsg s.nodeId) := by
  have hn : s.refreshNominees.syncValid.nodeId = s.nodeId := by simp only [State.syncValid, State.refreshNominees]
  have hheld := refreshed_held h
  unfold State.refresh
  generalize s.refreshNominees.syncValid = u at hn hheld
  have hshun := (refreshOutputs_shun old u sh).1
  have hfixed := refreshOutputs_held_fixed old u hheld
  rw [hn] at hshun
  generalize State.refreshOutputs old u = w at hshun hfixed
  exact fun he => hshun he hfixed

/-! ## Grade messages -/

/-- R28 and R29: what a valid message makes of the accepted and the pending grade. -/
theorem judge_atOnce {g : Grade} {c m : Nat} (h : m = 0 ∨ m = 15 ∨ gradeRank g.accepted ≤ gradeRank m) :
    g.judge c m = (m, none) := by
  unfold Grade.judge
  rw [if_pos]
  simpa [or_assoc] using h

theorem judge_better {g : Grade} {c m : Nat} (h0 : m ≠ 0) (h15 : m ≠ 15) (hr : gradeRank m < gradeRank g.accepted) :
    (c = 1 → g.judge c m = (m, none)) ∧
      (∀ n, 1 < c → g.pendingGrade = some (m, n) →
        (c ≤ n + 1 → g.judge c m = (m, none)) ∧ (n + 1 < c → g.judge c m = (g.accepted, some (m, n + 1)))) ∧
      (1 < c → (∀ n, g.pendingGrade ≠ some (m, n)) → g.judge c m = (g.accepted, some (m, 1))) := by
  unfold Grade.judge
  rw [if_neg (by simpa [h0, h15] using hr)]
  refine ⟨fun h => if_pos (by omega), fun n hc hp => ?_, fun hc hp => ?_⟩
  · rw [if_neg (by omega), hp]
    simp only [if_true]
    exact ⟨fun h => if_pos h, fun h => if_neg (by omega)⟩
  · rw [if_neg (by omega)]
    cases hg : g.pendingGrade with
    | none => rfl
    | some w =>
      obtain ⟨value, count⟩ := w
      exact if_neg fun e => hp count (by rw [hg, e])

/-- A committed change of a grade record. -/
theorem commit_gradesOnly (h : GradesOnly u v) (hn : v.nodeId = u.nodeId) (x : Ctx) :
    Consequences { u with grades := v.grades } (State.commit u v x) := by
  refine Consequences.trans ?_ (commit_consequences u v x)
  unfold GradesOnly at h
  unfold Consequences
  rw [h, hn]

theorem exec_gradeMessage (hr : s.inReset = false) (hoff : s.ports[p].state ≠ .off) (bytes : List Byte) (bad : Bool) :
    exec (.gradeMessage p bytes bad) s = .next (State.commit s (s.completeMessage p bytes bad) Ctx.ranking) := by
  show execGradeMessage p bytes bad s = _
  rw [execGradeMessage, live_of_not_inReset s _ hr, if_neg (by simpa using hoff)]
  show Host.Outcome.next (State.commit (s.elapse 0) ((s.elapse 0).completeMessage p bytes bad) Ctx.ranking) = _
  rw [elapse_zero]

theorem completeMessage_malformed {bytes : List Byte} {bad : Bool} (h : GradeMsg.ofBytes bytes bad = none) :
    s.completeMessage p bytes bad = s.setGrade p s.grades[p].malform := by
  rw [State.completeMessage, h]

theorem completeMessage_valid {bytes : List Byte} {bad : Bool} {m : GradeMsg} (h : GradeMsg.ofBytes bytes bad = some m) :
    s.completeMessage p bytes bad = s.putGrade p (s.grades[p].receive s.ports[p].setup s.nodeId m) := by
  rw [State.completeMessage, h]

end

/-- Settles O17. -/
theorem gradeMessageIsAcceptedConfirmedOrDiscarded : Obligations.GradeMessageIsAcceptedConfirmedOrDiscarded := by
  intro p bytes bad s hr
  refine ⟨fun hoff => ?off, fun hoff hm => ?malformed, fun m hoff hm => ?valid⟩
  case off =>
    show execGradeMessage p bytes bad s = _
    rw [execGradeMessage, live_of_not_inReset s _ hr, if_pos (by rw [hoff]; rfl)]
  case malformed =>
    refine ⟨_, exec_gradeMessage hr hoff bytes bad, ?_⟩
    rw [completeMessage_malformed hm]
    exact commit_consequences s _ _
  case valid =>
    have hev := eventsOfPorts_commit (portsRaise_completeMessage s p bytes bad) Ctx.ranking
    refine ⟨_, s.grades[p].receive s.ports[p].setup s.nodeId m, exec_gradeMessage hr hoff bytes bad, ?_, ?_, fun h => ?_,
      fun h0 h15 hlt => ?_, fun d hd hk hne => hev.grade ?_ d hd hk, fun d hd hk hold hnew => hev.loop hold ?_ d hd hk⟩
    · rw [completeMessage_valid hm]
      have hput := commit_gradesOnly (gradesOnly_putGrade s p (s.grades[p].receive s.ports[p].setup s.nodeId m))
        (by rw [putGrade_only]) Ctx.ranking
      rwa [putGrade_grades] at hput
    · rfl
    · have hj := judge_atOnce (c := s.ports[p].setup.confirmCount) h
      exact ⟨congrArg Prod.fst hj, congrArg Prod.snd hj⟩
    · obtain ⟨hone, hcount, hfirst⟩ := judge_better (c := s.ports[p].setup.confirmCount) h0 h15 hlt
      exact ⟨fun hc => ⟨congrArg Prod.fst (hone hc), congrArg Prod.snd (hone hc)⟩,
        fun n hc hp => ⟨fun hn => ⟨congrArg Prod.fst ((hcount n hc hp).1 hn), congrArg Prod.snd ((hcount n hc hp).1 hn)⟩,
          fun hn => ⟨congrArg Prod.fst ((hcount n hc hp).2 hn), congrArg Prod.snd ((hcount n hc hp).2 hn)⟩⟩,
        fun hc hp => ⟨congrArg Prod.fst (hfirst hc hp), congrArg Prod.snd (hfirst hc hp)⟩⟩
    · rw [(commit_consequences s _ _).grades, completeMessage_valid hm, putGrade_get_self]
      exact hne
    · rw [(commit_consequences s _ _).grades, completeMessage_valid hm, putGrade_get_self]
      exact hnew

section
variable {s : State} {p : PortId}

theorem exec_gradeLineByte (hr : s.inReset = false) (b : Byte) (bad : Bool) :
    exec (.gradeLineByteReceived p b bad) s = .next (State.commit s (s.receiveByte p b bad) Ctx.ranking) := by
  show execGradeLineByteReceived p b bad s = _
  rw [execGradeLineByteReceived, live_of_not_inReset s _ hr]
  show Host.Outcome.next (State.commit (s.elapse 0) ((s.elapse 0).receiveByte p b bad) Ctx.ranking) = _
  rw [elapse_zero]

/-- A byte whose effect is known is committed. -/
theorem gradeLineByte_receives (hr : s.inReset = false) {b : Byte} {bad : Bool} {v : State} (h : s.receiveByte p b bad = v) :
    ∃ t, exec (.gradeLineByteReceived p b bad) s = .next t ∧ Consequences v t :=
  ⟨_, exec_gradeLineByte hr b bad, h ▸ commit_consequences s _ _⟩

theorem gradeLengths_contains (b : Byte) :
    gradeLengths.contains b.toNat = true ↔ b.toNat ∈ [5, 7, 9, 11, 13, 15, 17, 19] := List.contains_iff_mem

/-- What a byte does on an enabled port, by the receiver's state (R22). -/
theorem receiveByte_collecting (hoff : s.ports[p].state ≠ .off) {len : Byte} {rest : List Byte} {f : Bool}
    (h : s.grades[p].receiver = .collecting (len :: rest) f) (b : Byte) (bad : Bool) :
    s.receiveByte p b bad = if rest.length + 1 < len.toNat then
        s.setGrade p { s.grades[p] with receiver := .collecting (len :: (rest ++ [b])) (f || bad) }
      else s.completeMessage p (len :: (rest ++ [b])) (f || bad) := by
  unfold State.receiveByte
  rw [if_neg (by simpa using hoff), h]

theorem receiveByte_length (hoff : s.ports[p].state ≠ .off) {f : Bool} (h : s.grades[p].receiver = .collecting [] f)
    (b : Byte) (bad : Bool) :
    s.receiveByte p b bad = if bad || !gradeLengths.contains b.toNat then s.setGrade p s.grades[p].malform
      else s.setGrade p { s.grades[p] with receiver := .collecting [b] false } := by
  unfold State.receiveByte
  rw [if_neg (by simpa using hoff), h]

theorem receiveByte_hunting (hoff : s.ports[p].state ≠ .off) (h : s.grades[p].receiver = .hunting) (b : Byte) (bad : Bool) :
    s.receiveByte p b bad = if bad || b != 0x7E#8 then s
      else s.setGrade p { s.grades[p] with receiver := .collecting [] false } := by
  unfold State.receiveByte
  rw [if_neg (by simpa using hoff), h]

theorem receiveByte_off (hoff : s.ports[p].state = .off) (b : Byte) (bad : Bool) : s.receiveByte p b bad = s := by
  unfold State.receiveByte
  rw [if_pos (by rw [hoff]; rfl)]

end

/-- Settles O18. -/
theorem gradeLineBytesAssembleMessages : Obligations.GradeLineBytesAssembleMessages := by
  intro p b bad s hr
  refine ⟨fun hoff hrec hb => ?marker, fun h => ?ignored, fun f hoff hrec => ⟨fun hb => ?length, fun hb => ?badLength⟩,
    fun len rest f hoff hrec => ⟨fun hlen => ?more, fun hlen => ?last⟩, fun hrec => ?noGap, fun got f hrec => ?gap,
    fun ht => ?noTimer, fun left ht => ?timer⟩
  case marker =>
    obtain ⟨rfl, rfl⟩ := hb
    exact gradeLineByte_receives hr (receiveByte_hunting hoff hrec _ _)
  case ignored =>
    refine gradeLineByte_receives hr ?_
    by_cases hoff : s.ports[p].state = .off
    · exact receiveByte_off hoff b bad
    · obtain ⟨hrec, hb⟩ := h.resolve_left hoff
      rw [receiveByte_hunting hoff hrec, if_pos]
      rcases hb with hb | hb <;> simp [hb]
  case length =>
    obtain ⟨rfl, hb⟩ := hb
    refine gradeLineByte_receives hr ?_
    rw [receiveByte_length hoff hrec, (gradeLengths_contains b).mpr hb]
    rfl
  case badLength =>
    refine gradeLineByte_receives hr ?_
    rw [receiveByte_length hoff hrec, if_pos]
    · rfl
    · rcases hb with hb | hb
      · rw [hb]
        rfl
      · rw [Bool.eq_false_iff.mpr fun h => hb ((gradeLengths_contains b).mp h)]
        exact Bool.or_true _
  case more =>
    refine gradeLineByte_receives hr ?_
    rw [receiveByte_collecting hoff hrec, if_pos hlen]
  case last =>
    rw [exec_gradeLineByte hr, exec_gradeMessage hr hoff, receiveByte_collecting hoff hrec, if_neg (Nat.not_lt.mpr hlen)]
  case noGap =>
    show execCollectingGapTimeout p s = _
    rw [execCollectingGapTimeout, live_of_not_inReset s _ hr, State.gapTimeout, hrec]
  case gap =>
    show execCollectingGapTimeout p s = _
    rw [execCollectingGapTimeout, live_of_not_inReset s _ hr, State.gapTimeout, hrec]
    rfl
  case noTimer =>
    show execGradeTimerExpiry p s = _
    rw [execGradeTimerExpiry, live_of_not_inReset s _ hr]
    simp only [ht]
  case timer =>
    have hexec : exec (.gradeTimerExpiry p) s = .next (State.commit (s.elapse left)
        ((s.elapse left).putGrade p (s.elapse left).grades[p].expire) Ctx.ranking) := by
      show execGradeTimerExpiry p s = _
      rw [execGradeTimerExpiry, live_of_not_inReset s _ hr]
      simp only [ht]
      rfl
    refine ⟨_, hexec, ?_, eventsOfPorts_commit (portsRaise_putGrade _ p _) _⟩
    have hput := commit_gradesOnly (gradesOnly_putGrade (s.elapse left) p (s.elapse left).grades[p].expire)
      (by rw [putGrade_only]) Ctx.ranking
    rwa [putGrade_grades] at hput

/-! ## NODE IDENTIFIER -/

/-- With every shelf HELD each enabled output carries SHUN after a committed change (R157). -/
theorem commit_held_shun {old v : State} {x : Ctx} {own : NodeId} (hn : v.nodeId = own)
    (h : ∀ sh : ShelfId, v.shelves[sh].state.isHeld = true) (sh : ShelfId) :
    (State.commit old v x).outputs[sh].active.enabled = true →
      (State.commit old v x).outputs[sh].outgoing = some (shunMsg own) := by
  have hheld : (State.rerank old v x).shelves[sh].state.isHeld = true := (rerank_isHeld old v x sh).trans (h sh)
  have hn' : (State.rerank old v x).nodeId = own := (moves_rerank old v x).consequences.nodeId.trans hn
  unfold State.commit
  generalize State.rerank old v x = w at hheld hn'
  rw [← hn']
  exact refresh_held_shun old w hheld

/-- Settles O7. -/
theorem nodeIdentifierRecomputesLoopFlags : Obligations.NodeIdentifierRecomputesLoopFlags := by
  intro cp i s h hi
  refine ⟨fun hp => ?running, fun hp hbad => ?bad, fun hp h0 hF => ?replaced⟩
  case running =>
    refine exec_active (r := .nodeIdentifier i) (reply := Reply.plain .wrongPhase) rfl h (by simp) ?_
    rw [State.carryOut, State.doNodeIdentifier, if_pos hp]
  case bad =>
    refine exec_active (r := .nodeIdentifier i) (reply := Reply.plain .badField) rfl h (by simp) ?_
    rw [State.carryOut, State.doNodeIdentifier, if_neg (by rw [hp]; exact nofun), if_pos]
    rcases hbad with rfl | rfl <;> rfl
  case replaced =>
    have hnode : (s.setNodeId (BitVec.ofNat 16 i)).nodeId = BitVec.ofNat 16 i := setNodeId_nodeId s _
    have hc := commit_consequences s (s.setNodeId (BitVec.ofNat 16 i)) Ctx.ranking
    have hcons : Consequences { s with nodeId := BitVec.ofNat 16 i, grades := (s.setNodeId (BitVec.ofNat 16 i)).grades }
        (State.commit s (s.setNodeId (BitVec.ofNat 16 i)) Ctx.ranking) := by
      refine Consequences.trans ?_ hc
      have honly := gradesOnly_setNodeId s (BitVec.ofNat 16 i)
      unfold GradesOnly at honly
      unfold Consequences
      rw [honly, hnode]
    have hans : s.carryOut cp (.nodeIdentifier i) =
        (State.commit s (s.setNodeId (BitVec.ofNat 16 i)) Ctx.ranking, Reply.ok []) := by
      rw [State.carryOut, State.doNodeIdentifier, if_neg (by rw [hp]; exact nofun), if_neg]
      simp only [Bool.or_eq_true, decide_eq_true_eq, not_or]
      omega
    obtain ⟨hexec, hanswers, hreq⟩ := exec_changed (i := .nodeIdentifier cp i) rfl h (by simp) hans hcons
    have hev := eventsOfPorts_commit (portsRaise_setNodeId s (BitVec.ofNat 16 i)) Ctx.ranking
    have hgrade : ∀ p : PortId, (State.commit s (s.setNodeId (BitVec.ofNat 16 i)) Ctx.ranking).grades[p] =
        { s.grades[p] with loopFlag := s.grades[p].trace.contains (BitVec.ofNat 16 i) } := fun p => by
      rw [hc.grades, setNodeId_grade]
      rfl
    have hid : (State.commit s (s.setNodeId (BitVec.ofNat 16 i)) Ctx.ranking).nodeId = BitVec.ofNat 16 i := hc.nodeId.trans hnode
    have hshun := fun hsound : s.phaseSound => commit_held_shun (old := s) (x := Ctx.ranking) (hnode) fun sh => by
      rw [gradesOnly_setNodeId s (BitVec.ofNat 16 i)]
      exact (hsound sh).mpr (by rw [hp]; exact nofun)
    generalize State.commit s (s.setNodeId (BitVec.ofNat 16 i)) Ctx.ranking = t at *
    refine ⟨t.answered cp .ok [], hexec, hanswers, ?_, ?_, fun p => ⟨?_, fun d hd hm hold hnew => ?_⟩, fun hs sh he => ?_⟩
    · rw [answered_nodeId, hid, BitVec.toNat_ofNat]
      exact Nat.mod_eq_of_lt hi
    · rw [answered_nodeId, answered_grades, hid, hc.grades]
      exact hreq
    · rw [answered_nodeId, answered_grades, hid]
      exact hgrade p
    · rw [answered_grades] at hnew
      have hlatched := hev.loop hold hnew d hd hm
      unfold State.latched at hlatched ⊢
      rwa [answered_domainEvents]
    · rw [answered_outputs] at he ⊢
      rw [answered_nodeId, hid]
      exact hshun hs sh he

end Sys2Proof.Machine
end

section
/-!
PROOFS. PORT SETUP (R18): its operands, its refusals, and what each changed field does.
-/

namespace Sys2Proof.Machine

/-! ## The operands of PORT SETUP (R1, R190) -/

theorem flagOf_cases (n : Nat) : flagOf n = if n < 2 then some (n == 1) else none := by
  match n with
  | 0 => rfl
  | 1 => rfl
  | k + 2 => exact (if_neg (by omega)).symm

theorem rateOf_cases (n : Nat) :
    rateOf n = if n < 4 then some ([NominalRate.khz8, .mhz2048, .mhz10, .mhz25].getD n .khz8) else none := by
  match n with
  | 0 => rfl
  | 1 => rfl
  | 2 => rfl
  | 3 => rfl
  | k + 4 => exact (if_neg (by omega)).symm

theorem bandOf_cases (n : Nat) :
    bandOf n = if n < 4 then some ([Band.ppm2, .ppm5, .ppm12, .ppm50].getD n .ppm2) else none := by
  match n with
  | 0 => rfl
  | 1 => rfl
  | 2 => rfl
  | 3 => rfl
  | k + 4 => exact (if_neg (by omega)).symm

theorem inRange_iff {n low high : Nat} : inRange n low high = true ↔ low ≤ n ∧ n ≤ high := by
  simp [inRange]

/-- The fields of PORT SETUP are inside the ranges of R1. -/
def setupFits (b : PortSetupBody) : Prop :=
  b.enabled < 2 ∧ b.rate < 4 ∧ b.band < 4 ∧ (1 ≤ b.lossDwell ∧ b.lossDwell ≤ 255) ∧
    (2 ≤ b.gradeTimeout ∧ b.gradeTimeout ≤ 30) ∧ 1 ≤ b.confirmCount ∧ b.confirmCount ≤ 4

/-- The setup that the fields name. -/
def setupNamed (b : PortSetupBody) : PortSetup :=
  { enabled := b.enabled == 1, rate := [.khz8, .mhz2048, .mhz10, .mhz25].getD b.rate .khz8,
    lossDwell := b.lossDwell, band := [.ppm2, .ppm5, .ppm12, .ppm50].getD b.band .ppm2,
    gradeTimeout := b.gradeTimeout, confirmCount := b.confirmCount }

theorem portSetupOf_fits {b : PortSetupBody} (h : setupFits b) : portSetupOf b = some (setupNamed b) := by
  obtain ⟨he, hr, hb, hl, hg, hc⟩ := h
  unfold portSetupOf
  rw [flagOf_cases, if_pos he, rateOf_cases, if_pos hr, bandOf_cases, if_pos hb]
  simp only [inRange_iff.mpr hl, inRange_iff.mpr hg, inRange_iff.mpr hc, Bool.and_self, if_true]
  rfl

theorem portSetupOf_not_fits {b : PortSetupBody} (h : ¬ setupFits b) : portSetupOf b = none := by
  unfold portSetupOf
  rw [flagOf_cases, rateOf_cases, bandOf_cases]
  by_cases he : b.enabled < 2
  · by_cases hr : b.rate < 4
    · by_cases hb : b.band < 4
      · rw [if_pos he, if_pos hr, if_pos hb]
        refine if_neg fun hall => h ?_
        simp only [Bool.and_eq_true, inRange_iff] at hall
        obtain ⟨⟨hl, hg⟩, hc⟩ := hall
        exact ⟨he, hr, hb, hl, hg, hc⟩
      · rw [if_pos he, if_pos hr, if_neg hb]
    · rw [if_pos he, if_neg hr]
  · rw [if_neg he]

theorem portSetupOf_eq_none {b : PortSetupBody} : portSetupOf b = none ↔ ¬ setupFits b := by
  constructor
  · intro h hf
    rw [portSetupOf_fits hf] at h
    cases h
  · exact portSetupOf_not_fits

theorem portSetupOf_eq_some {b : PortSetupBody} {new : PortSetup} (h : portSetupOf b = some new) : new = setupNamed b := by
  by_cases hf : setupFits b
  · rw [portSetupOf_fits hf] at h
    exact (Option.some.inj h).symm
  · rw [portSetupOf_not_fits hf] at h
    cases h

theorem portOf_none_iff {n : Nat} : portOf n = none ↔ 24 ≤ n := by
  unfold portOf boundedOf
  split <;> simp <;> omega

theorem portOf_val_of_eq_some {n : Nat} {p : PortId} (h : portOf n = some p) : p.val = n := by
  unfold portOf boundedOf at h
  split at h
  · cases h
    rfl
  · cases h

/-! ## What the new setup leaves of the port (R7, R18, R35) -/

section
variable {s : State} {p : PortId} {new : PortSetup}

theorem setupRecord_disabled (ho : s.ports[p].setup.enabled = true) (hn : new.enabled = false) :
    s.setupRecord p new =
      { setup := new, state := .off, activity := false, fault := false, outRun := 0, inRun := 0, offset := none,
        window := none, restoreLeft := none, waiver := none,
        dropped := s.ports[p].dropped || s.ports[p].state == .up, faulted := s.ports[p].faulted, since := s.now } ∧
    s.setupGrade p new =
      { receiver := .hunting, accepted := 0, pendingGrade := none, holdover := false, truncated := false, trace := [],
        timer := none, malformed := s.grades[p].malformed, loopFlag := false } := by
  unfold State.setupRecord State.setupGrade
  rw [ho, hn]
  exact ⟨rfl, rfl⟩

theorem setupRecord_enabled (ho : s.ports[p].setup.enabled = false) (hn : new.enabled = true) :
    s.setupRecord p new = { s.ports[p] with setup := new, state := .down, since := s.now } ∧
    s.setupGrade p new = { s.grades[p] with receiver := .hunting } := by
  unfold State.setupRecord State.setupGrade
  rw [ho, hn]
  exact ⟨rfl, rfl⟩

theorem setupRecord_off (ho : s.ports[p].setup.enabled = false) (hn : new.enabled = false) :
    s.setupRecord p new = { s.ports[p] with setup := new } ∧ s.setupGrade p new = s.grades[p] := by
  unfold State.setupRecord State.setupGrade
  rw [ho, hn]
  exact ⟨rfl, rfl⟩

/-- An enabled port's record under a new setup, each field by the fields of the setup that changed. -/
theorem resetup_eq (r : Port) (hn : new.enabled = true) (now : Nat) (may : Bool) :
    r.resetup new now may =
      { r with
        setup := new,
        offset := if r.setup.rate = new.rate then r.offset else none,
        outRun := if r.setup.rate = new.rate ∧ r.setup.band = new.band then r.outRun else 0,
        inRun := if r.setup.rate = new.rate ∧ r.setup.band = new.band then r.inRun else 0,
        window := if r.activity = true ∧ may = true then
          some (if r.setup.rate = new.rate ∧ r.setup.band = new.band then r.window.getD 0 else 0) else none,
        since := if r.setup.rate = new.rate ∧ r.setup.lossDwell = new.lossDwell then r.since else now } := by
  unfold Port.resetup Port.syncWindow
  by_cases hr : r.setup.rate = new.rate <;> by_cases hb : r.setup.band = new.band <;>
    by_cases hl : r.setup.lossDwell = new.lossDwell <;> simp [hr, hb, hl, hn]

theorem setupRecord_kept (ho : s.ports[p].setup.enabled = true) (hn : new.enabled = true) :
    s.setupRecord p new = s.ports[p].resetup new s.now s.mayMeasure ∧ s.setupGrade p new = s.grades[p] := by
  unfold State.setupRecord State.setupGrade
  rw [ho, hn]
  exact ⟨rfl, rfl⟩

end

/-- Settles O11. -/
theorem portSetupCarriesOutEachChangedField : Obligations.PortSetupCarriesOutEachChangedField := by
  intro cp n b s h
  refine ⟨portOf_none_iff, fun p => portOf_val_of_eq_some, ?_, fun new => portSetupOf_eq_some, fun hbad => ?badField,
    fun p new hp hb hsame => ?noChange, fun p new hp hb hne => ?replaced⟩
  · rw [portSetupOf_eq_none]
    unfold setupFits
    omega
  case badField =>
    refine exec_active (r := .portSetup n b) (reply := Reply.plain .badField) rfl h (by simp) ?_
    rw [State.carryOut, State.doPortSetup]
    rcases hbad with hp | hb
    · rw [hp]
    · rw [hb]
      cases portOf n <;> rfl
  case noChange =>
    refine exec_active (r := .portSetup n b) (reply := Reply.plain .noChange) rfl h (by simp) ?_
    rw [State.carryOut, State.doPortSetup]
    simp only [hp, hb, hsame, if_true]
  case replaced =>
    have hc := commit_consequences s (s.replaceSetup p new) Ctx.ranking
    have hcons : Consequences { s with ports := (s.replaceSetup p new).ports, grades := (s.replaceSetup p new).grades }
        (State.commit s (s.replaceSetup p new) Ctx.ranking) := by
      refine Consequences.trans ?_ hc
      have honly := replaceSetup_only s p new
      unfold Consequences
      rw [honly]
    have hans : s.carryOut cp (.portSetup n b) =
        (State.commit s (s.replaceSetup p new) Ctx.ranking, Reply.ok []) := by
      rw [State.carryOut, State.doPortSetup]
      simp only [hp, hb, hne, if_false]
    obtain ⟨hexec, hanswers, hreq⟩ := exec_changed (i := .portSetup cp n b) rfl h (by simp) hans hcons
    have hev := eventsOfPorts_commit (portsRaise_replaceSetup s p new) Ctx.ranking
    have hport : ∀ q : PortId, (State.commit s (s.replaceSetup p new) Ctx.ranking).ports[q] =
        if p = q then s.setupRecord p new else s.ports[q] := fun q => by rw [hc.ports, replaceSetup_port]
    have hgrade : ∀ q : PortId, (State.commit s (s.replaceSetup p new) Ctx.ranking).grades[q] =
        if p = q then s.setupGrade p new else s.grades[q] := fun q => by rw [hc.grades, replaceSetup_grade]
    rw [← hc.ports, ← hc.grades] at hreq
    generalize State.commit s (s.replaceSetup p new) Ctx.ranking = t at *
    refine ⟨t.answered cp .ok [], hexec, hanswers, ?_, ?_, fun q hq => ?_, fun ho hn => ?_, fun ho hn => ?_, fun ho hn => ?_,
      fun ho hn => ?_⟩
    · rw [answered_ports, answered_grades]
      exact hreq
    · intro d k hk
      have hdk := hev d k hk
      unfold State.latched at hdk ⊢
      rwa [answered_domainEvents, answered_ports, answered_grades]
    · rw [answered_ports, answered_grades, hport, hgrade, if_neg hq.symm, if_neg hq.symm]
      exact ⟨rfl, rfl⟩
    all_goals rw [answered_ports, answered_grades, hport, hgrade, if_pos rfl, if_pos rfl]
    · exact setupRecord_disabled ho hn
    · exact setupRecord_enabled ho hn
    · exact setupRecord_off ho hn
    · obtain ⟨hrec, hg⟩ := setupRecord_kept ho hn
      exact ⟨hg, hrec.trans (resetup_eq _ hn _ _)⟩

end Sys2Proof.Machine
end

section
/-!
PROOFS. A change of ranking inputs and the shelves it reaches (R67, R68): the commands that commit one, what the lost
reference of a LOCKED shelf makes of it, and how a shelf acts under each steering.
-/

namespace Sys2Proof.Machine

section
variable {s t u v : State} {x : Ctx}

/-! ## Ranking inputs written -/

/-- Ranking inputs have been written: nothing of the pool has moved, and PORT, GRADE and LOOP alone have been raised. -/
structure InputsWritten (u v : State) : Prop where
  raised : PortsRaise u v
  shelves : v.shelves = u.shelves
  units : v.units = u.units
  queue : v.queue = u.queue
  now : v.now = u.now

theorem InputsWritten.refl (s : State) : InputsWritten s s := ⟨.refl s, rfl, rfl, rfl, rfl⟩

theorem PortsOnly.inputsWritten (h : PortsOnly u v) (hr : PortsRaise u v) : InputsWritten u v where
  raised := hr
  shelves := by rw [h]
  units := by rw [h]
  queue := by rw [h]
  now := by rw [h]

theorem GradesOnly.inputsWritten (h : GradesOnly u v) (hr : PortsRaise u v) : InputsWritten u v where
  raised := hr
  shelves := by rw [h]
  units := by rw [h]
  queue := by rw [h]
  now := by rw [h]

theorem inputsWritten_putPort (u : State) (p : PortId) (r : Port) : InputsWritten u (u.putPort p r) :=
  (portsOnly_putPort u p r).inputsWritten (portsRaise_putPort u p r)

theorem inputsWritten_replaceSetup (u : State) (p : PortId) (new : PortSetup) : InputsWritten u (u.replaceSetup p new) where
  raised := portsRaise_replaceSetup u p new
  shelves := by rw [replaceSetup_only]
  units := by rw [replaceSetup_only]
  queue := by rw [replaceSetup_only]
  now := by rw [replaceSetup_only]

/-- Inputs that are neither a port's nor a grade's raise nothing. -/
theorem inputsWritten_of_quiet (hp : v.ports = u.ports) (hg : v.grades = u.grades) (he : v.domainEvents = u.domainEvents)
    (hs : v.shelves = u.shelves) (hu : v.units = u.units) (hq : v.queue = u.queue)
    (hn : v.now = u.now) : InputsWritten u v where
  raised := portsRaise_none he fun p k => by
    rw [hp, hg]
    exact portRaises_self _ _ k
  shelves := hs
  units := hu
  queue := hq
  now := hn

/-! ## The shelves act on the change -/

theorem requestConsequences_refl (s : State) : RequestConsequences s s := rfl

theorem Consequences.request (h : Consequences u v) : RequestConsequences u v := by
  unfold Consequences at h
  unfold RequestConsequences
  rw [h]

/-- Where nothing has changed no shelf acts. -/
theorem actsOnChange_refl (s : State) (x : Ctx) : ActsOnChange s s x := by
  refine ⟨s, s, rfl, rfl, rfl, rfl, fun d k => ⟨rfl, fun _ _ _ => rfl⟩, (PortsRaise.refl s).eventsOfPorts,
    ⟨[], ?_, rfl⟩, rfl, rfl, rfl, fun sh => .refl s sh⟩
  simp only [bne_self_eq_false, List.filter_false]
  exact .refl _

/-- A committed change makes the shelves it reaches act (R68). -/
theorem InputsWritten.actsOnChange (h : InputsWritten u v) (x : Ctx) : ActsOnChange u (State.commit u v x) x :=
  commit_actsOnChange u v (State.commit u v x) x (commit_consequences u v x).request h.shelves h.units h.queue
    h.raised.others h.raised.eventsOfPorts rfl rfl rfl rfl

theorem requestConsequences_fix (h : RequestConsequences u t) (cp : ControlPort) (code : ResultCode) (body : List Byte) :
    RequestConsequences u (t.answered cp code body) := by
  unfold RequestConsequences at h ⊢
  rw [h]
  cases cp <;> rfl

/-- Fixing the reply of the request that made the change moves nothing. -/
theorem ActsOnChange.answered (h : ActsOnChange u t x) (cp : ControlPort) (code : ResultCode) (body : List Byte) :
    ActsOnChange u (t.answered cp code body) x := by
  obtain ⟨v, w, hreq, hs, hu, hq, hd, hp, hact, htu, htq, hte, hk⟩ := h
  refine ⟨v, w, requestConsequences_fix hreq cp code body, hs, hu, hq, hd, hp, hact, ?_, ?_, ?_, fun sh => ?_⟩
  · rw [answered_units, htu]
  · rw [answered_queue, htq]
  · rw [answered_domainEvents, hte]
  · have hsh := hk sh
    unfold ShelfKept at hsh ⊢
    rwa [answered_shelves]

/-! ## Events -/

/-- The outcome of an event: the shelves that a change of inputs reaches act on it. -/
def Reaches (s : State) (o : Host.Outcome State Fault Refusal) (x : Ctx) : Prop :=
  ∃ t, o = .next t ∧ ActsOnChange (s.elapse (t.now - s.now)) t x

theorem reaches_idle (s : State) (x : Ctx) : Reaches s (.next s) x := by
  refine ⟨s, rfl, ?_⟩
  rw [Nat.sub_self, elapse_zero]
  exact actsOnChange_refl s x

theorem reaches_after (s : State) (d : Nat) {f : State → State} (hf : InputsWritten (s.elapse d) (f (s.elapse d))) :
    Reaches s (.next (s.after d f)) Ctx.ranking := by
  refine ⟨_, rfl, ?_⟩
  have hnow : (s.after d f).now - s.now = d := by
    show (State.commit (s.elapse d) (f (s.elapse d)) Ctx.ranking).now - s.now = d
    rw [(commit_consequences _ _ _).now, hf.now, elapse_now, Nat.add_sub_cancel_left]
  rw [hnow]
  exact hf.actsOnChange Ctx.ranking

/-- In reset an event finds nothing, and out of reset it is as its rule says. -/
theorem reaches_live {f : State → State} (h : Reaches s (.next (f s)) x) : Reaches s (s.live f) x := by
  by_cases hr : s.inReset = true
  · rw [live_of_inReset s f hr]
    exact reaches_idle s x
  · rw [live_of_not_inReset s f (Bool.eq_false_iff.mpr hr)]
    exact h

theorem reaches_putPort (s : State) (d : Nat) {f : State → State} (p : PortId)
    (hf : ∃ r, f (s.elapse d) = (s.elapse d).putPort p r) : Reaches s (.next (s.after d f)) Ctx.ranking := by
  obtain ⟨r, hr⟩ := hf
  refine reaches_after s d ?_
  rw [hr]
  exact inputsWritten_putPort _ p r

theorem reaches_grades (s : State) (d : Nat) {f : State → State} (h : GradesOnly (s.elapse d) (f (s.elapse d)))
    (hr : PortsRaise (s.elapse d) (f (s.elapse d))) : Reaches s (.next (s.after d f)) Ctx.ranking :=
  reaches_after s d (h.inputsWritten hr)

/-- A complete window writes one port record, whatever its verdict. -/
theorem completeWindow_putPort (s : State) (p : PortId) (m : Int) : ∃ r, s.completeWindow p m = s.putPort p r := by
  unfold State.completeWindow
  dsimp only
  split
  · exact ⟨_, rfl⟩
  · exact ⟨_, rfl⟩

/-! ## Requests -/

/-- What a request's rule hands back: the part as it was, or a committed change of inputs. -/
def Commits (s t : State) (x : Ctx) : Prop := t = s ∨ ∃ v, InputsWritten s v ∧ t = State.commit s v x

theorem Commits.actsOnChange (h : Commits s t x) : ActsOnChange s t x := by
  rcases h with rfl | ⟨v, hv, rfl⟩
  · exact actsOnChange_refl _ x
  · exact hv.actsOnChange x

theorem Commits.now (h : Commits s t x) : t.now = s.now := by
  rcases h with rfl | ⟨v, hv, rfl⟩
  · rfl
  · exact (commit_consequences s v x).now.trans hv.now

theorem reaches_answered (h : Commits s t x) (cp : ControlPort) (code : ResultCode) (body : List Byte) :
    Reaches s (.next (t.answered cp code body)) x := by
  refine ⟨_, rfl, ?_⟩
  rw [answered_now, h.now, Nat.sub_self, elapse_zero]
  exact h.actsOnChange.answered cp code body

/-- A request on a ready port is refused by the executor or comes to its rule. -/
theorem reaches_request {i : Instr} {cp : ControlPort} {r : Request} (hi : i.request? = some (cp, r))
    (h : s.ready cp = true) (hr : r ≠ .restart) (hc : Commits s (s.carryOut cp r).1 x) : Reaches s (exec i s) x := by
  cases hp : s.precheck cp r with
  | some code =>
    rw [exec_refused hi h hp]
    exact reaches_answered (.inl rfl) cp code []
  | none =>
    rw [exec_answered hi h hr (answer_carried s cp r hp)]
    exact reaches_answered hc cp _ _

theorem commits_writeCell (s : State) (n m : Nat) (v : CellValue) : Commits s (s.writeCell n m v).1 Ctx.ranking := by
  unfold State.writeCell
  split
  · split
    · exact .inl rfl
    · refine .inr ⟨_, ?_, rfl⟩
      exact inputsWritten_of_quiet rfl rfl rfl rfl rfl rfl rfl
  · exact .inl rfl

theorem commits_writeFrom (s : State) (w : Window) (place : Nat) (cells : List CellValue) :
    Commits s (s.writeFrom w place cells).1 Ctx.ranking := by
  refine .inr ⟨_, ?_, rfl⟩
  rw [writeCells_only]
  exact inputsWritten_of_quiet rfl rfl rfl rfl rfl rfl rfl

theorem commits_doWriteWindow (s : State) (cells : List CellValue) : Commits s (s.doWriteWindow cells).1 Ctx.ranking := by
  unfold State.doWriteWindow
  split
  · exact .inl rfl
  · split
    · exact commits_writeFrom s _ _ cells
    · exact .inl rfl

theorem commits_doContinueWindow (s : State) (cells : List CellValue) :
    Commits s (s.doContinueWindow cells).1 Ctx.ranking := by
  unfold State.doContinueWindow
  split
  · exact .inl rfl
  · split
    · exact commits_writeFrom s _ _ cells
    · exact .inl rfl

theorem commits_doPriorityList (s : State) (d : Nat) (ports : List Nat) :
    Commits s (s.doPriorityList d ports).1 Ctx.failing := by
  unfold State.doPriorityList
  split
  · split
    · exact .inl rfl
    · split
      · exact .inl rfl
      · split
        · exact .inl rfl
        · split
          · exact .inl rfl
          · refine .inr ⟨_, ?_, rfl⟩
            exact inputsWritten_of_quiet rfl rfl rfl rfl rfl rfl rfl
  · exact .inl rfl

theorem commits_doNodeIdentifier (s : State) (i : Nat) : Commits s (s.doNodeIdentifier i).1 Ctx.ranking := by
  unfold State.doNodeIdentifier
  split
  · exact .inl rfl
  · split
    · exact .inl rfl
    · exact .inr ⟨_, (gradesOnly_setNodeId s _).inputsWritten (portsRaise_setNodeId s _), rfl⟩

theorem commits_doPortSetup (s : State) (p : Nat) (b : PortSetupBody) : Commits s (s.doPortSetup p b).1 Ctx.ranking := by
  unfold State.doPortSetup
  split
  · split
    · exact .inl rfl
    · exact .inr ⟨_, inputsWritten_replaceSetup s _ _, rfl⟩
  · exact .inl rfl

/-! ## Every command that changes ranking inputs -/

theorem reaches_activityConfirmation (s : State) (p : PortId) :
    Reaches s (exec (.activityConfirmation p) s) Ctx.ranking := by
  show Reaches s (execActivityConfirmation p s) _
  refine reaches_live ?_
  split
  · exact reaches_putPort s _ p ⟨_, rfl⟩
  · exact reaches_idle s _

theorem reaches_activityLoss (s : State) (p : PortId) : Reaches s (exec (.activityLoss p) s) Ctx.ranking := by
  show Reaches s (execActivityLoss p s) _
  refine reaches_live ?_
  split
  · exact reaches_putPort s _ p ⟨_, rfl⟩
  · exact reaches_idle s _

theorem reaches_measurementWindowComplete (s : State) (p : PortId) (m : Int) :
    Reaches s (exec (.measurementWindowComplete p m) s) Ctx.ranking := by
  show Reaches s (execMeasurementWindowComplete p m s) _
  refine reaches_live ?_
  split
  · exact reaches_putPort s _ p (completeWindow_putPort _ p m)
  · exact reaches_idle s _

theorem reaches_restoreTimerExpiry (s : State) (p : PortId) : Reaches s (exec (.restoreTimerExpiry p) s) Ctx.ranking := by
  show Reaches s (execRestoreTimerExpiry p s) _
  refine reaches_live ?_
  split
  · split
    · exact reaches_putPort s _ p ⟨_, rfl⟩
    · exact reaches_idle s _
  · exact reaches_idle s _

theorem reaches_gradeMessage (s : State) (p : PortId) (bytes : List Byte) (bad : Bool) :
    Reaches s (exec (.gradeMessage p bytes bad) s) Ctx.ranking := by
  show Reaches s (execGradeMessage p bytes bad s) _
  refine reaches_live ?_
  split
  · exact reaches_idle s _
  · exact reaches_grades s 0 (gradesOnly_completeMessage _ p bytes bad) (portsRaise_completeMessage _ p bytes bad)

theorem reaches_gradeTimerExpiry (s : State) (p : PortId) : Reaches s (exec (.gradeTimerExpiry p) s) Ctx.ranking := by
  show Reaches s (execGradeTimerExpiry p s) _
  refine reaches_live ?_
  split
  · exact reaches_grades s _ (gradesOnly_putGrade _ p _) (portsRaise_putGrade _ p _)
  · exact reaches_idle s _

theorem reaches_gradeLineByteReceived (s : State) (p : PortId) (b : Byte) (bad : Bool) :
    Reaches s (exec (.gradeLineByteReceived p b bad) s) Ctx.ranking := by
  show Reaches s (execGradeLineByteReceived p b bad s) _
  exact reaches_live (reaches_grades s 0 (gradesOnly_receiveByte _ p b bad) (portsRaise_receiveByte _ p b bad))

/-- Every command that changes ranking inputs makes exactly the shelves it reaches act (R67, R68). -/
theorem reaches_rerankedBy {i : Instr} (hi : rerankedBy i = some x)
    (hr : ∀ cp r, i.request? = some (cp, r) → s.ready cp = true) : Reaches s (exec i s) x := by
  cases i <;> simp only [rerankedBy, reduceCtorEq, Option.some.injEq] at hi <;> subst hi
  case activityConfirmation p => exact reaches_activityConfirmation s p
  case activityLoss p => exact reaches_activityLoss s p
  case measurementWindowComplete p m => exact reaches_measurementWindowComplete s p m
  case restoreTimerExpiry p => exact reaches_restoreTimerExpiry s p
  case gradeMessage p bytes bad => exact reaches_gradeMessage s p bytes bad
  case gradeTimerExpiry p => exact reaches_gradeTimerExpiry s p
  case gradeLineByteReceived p b bad => exact reaches_gradeLineByteReceived s p b bad
  case nodeIdentifier cp i => exact reaches_request rfl (hr _ _ rfl) nofun (commits_doNodeIdentifier s i)
  case portSetup cp n b => exact reaches_request rfl (hr _ _ rfl) nofun (commits_doPortSetup s n b)
  case bar cp n m => exact reaches_request rfl (hr _ _ rfl) nofun (commits_writeCell s n m .bar)
  case allow cp n m => exact reaches_request rfl (hr _ _ rfl) nofun (commits_writeCell s n m .allow)
  case writeWindow cp cells => exact reaches_request rfl (hr _ _ rfl) nofun (commits_doWriteWindow s cells)
  case continueWindow cp cells => exact reaches_request rfl (hr _ _ rfl) nofun (commits_doContinueWindow s cells)
  case priorityList cp d ports => exact reaches_request rfl (hr _ _ rfl) nofun (commits_doPriorityList s d ports)

end

/-! ## What takes a reference away -/

/-- A reference ceases where a new verdict ends its eligibility, where it leaves the domain and where its clock goes. -/
theorem ceased_iff {sh : ShelfId} {c : PortId} (u : State) {v : State} (h : v.shelves[sh].state.reference? = some c) :
    State.ceased u v sh = true ↔ (u.eligible sh c = true ∧ v.eligible sh c = false ∧ v.barred sh c = false) ∨
      (u.sameDomain sh c = true ∧ v.sameDomain sh c = false) ∨
      (u.ports[c].activity = true ∧ v.ports[c].activity = false) := by
  unfold State.ceased
  simp only [h, Bool.or_eq_true, Bool.and_eq_true, Bool.not_eq_true', or_assoc, and_assoc]

/-! ## Settings of the shelf's domain -/

section
variable {s : State} {sh : ShelfId} {d : DomainId}

theorem shelfRecord_eq (h : s.shelfDomain sh = some d) : s.shelfRecord sh = some s.domains[d] := by
  rw [State.shelfRecord, h]
  rfl

/-- The cause where a reference or target fails (R85). -/
theorem failCause_eq (h : s.shelfDomain sh = some d) (p : PortId) :
    s.failCause sh p = if s.portDomain p ≠ some d then .partition
      else if s.ports[p].state = .up then .ineligible else .lost := by
  have hsame : s.sameDomain sh p = true ↔ s.portDomain p = some d := by
    unfold State.sameDomain
    rw [h]
    exact beq_iff_eq
  unfold State.failCause
  by_cases hp : s.portDomain p = some d
  · rw [hsame.mpr hp, if_neg (by simp), if_neg (not_not.mpr hp)]
    cases s.ports[p].state <;> rfl
  · rw [Bool.eq_false_iff.mpr fun e => hp (hsame.mp e), if_pos hp]
    rfl

/-- The switch rule of R95 by the entries of the best port and of the reference. -/
theorem switchWanted_eq (h : s.shelfDomain sh = some d) {c : PortId} {b e : Entry}
    (hb : (s.eligibleList sh).head? = some b) (he : (s.eligibleList sh).find? (fun e => e.port == c) = some e) :
    s.switchWanted sh c =
      if b.port = c then none
      else if b.grade < e.grade ∨ (b.grade = e.grade ∧ b.holdover = false ∧ e.holdover = true) then
        some (b.port, .better)
      else if s.domains[d].revertive = true ∧ b.grade = e.grade ∧ b.holdover = e.holdover ∧ b.position < e.position then
        some (b.port, .revert)
      else none := by
  have hbetter : b.better e = true ↔
      b.grade < e.grade ∨ (b.grade = e.grade ∧ b.holdover = false ∧ e.holdover = true) := by
    simp [Entry.better, and_assoc]
  unfold State.switchWanted
  simp only [shelfRecord_eq h, hb, he]
  split
  · rfl
  · by_cases hq : b.better e = true
    · rw [if_pos hq, if_pos (hbetter.mp hq)]
    · rw [if_neg hq, if_neg fun k => hq (hbetter.mpr k)]
      have hq' : b.better e = false := Bool.eq_false_iff.mpr hq
      simp [Entry.equalQuality, Entry.ahead, hq', and_assoc]
      by_cases h1 : b.grade = e.grade <;> by_cases h2 : b.holdover = e.holdover <;> simp [h1, h2]

/-! ## A LOCKED shelf under AUTO whose reference is lost -/

theorem Rests.changed {t : State} {cause : Cause} (h : Rests s t sh cause) :
    t.shelves[sh].changed = true ∧ t.shelves[sh].lastCause = some cause := by
  obtain ⟨-, hcause, hchanged, -, -⟩ := h
  exact ⟨hchanged, hcause⟩

theorem Reselects.reports {t : State} {choice : Option PortId} {cause : Cause} (h : Reselects s t sh choice cause) :
    t.shelves[sh].changed = true ∧ t.shelves[sh].lastCause = some cause := by
  cases choice with
  | none => exact Rests.changed h
  | some p =>
    have hg : GoesToward s t sh p cause := h
    obtain ⟨-, hcause, hchanged, -⟩ := hg
    exact ⟨hchanged, hcause⟩

/-- What a reselection ends in, by what the shelf chooses and by its record (R84). -/
theorem Reselects.ends {t : State} {choice : Option PortId} {cause : Cause} (h : Reselects s t sh choice cause) :
    (∀ b, choice = some b → t.shelves[sh].state = .queued b ∨ t.shelves[sh].state = .acquire b (s.settleMs sh)) ∧
      (choice = none → s.holdoverValid sh = true → t.shelves[sh].state = .holdover (s.limitMs sh) ∧ sh ∉ t.queue) ∧
      (choice = none → s.holdoverValid sh = false → t.shelves[sh].state = .freerun ∧ sh ∉ t.queue) := by
  refine ⟨?_, ?_, ?_⟩
  · rintro b rfl
    have hg : GoesToward s t sh b cause := h
    exact hg.1
  · rintro rfl hv
    have hr : Rests s t sh cause := h
    obtain ⟨hstate, -, -, hq, -⟩ := hr
    exact ⟨by rw [hstate, if_pos hv], hq⟩
  · rintro rfl hv
    have hr : Rests s t sh cause := h
    obtain ⟨hstate, -, -, hq, -⟩ := hr
    exact ⟨by rw [hstate, if_neg (by rw [hv]; exact Bool.false_ne_true)], hq⟩

/-- A reference that is no longer eligible is bridged while a hold-off can be waited for, and else left (R97). -/
theorem act_lost {c : PortId} {pend : Option (PortId × Cause)} (hauto : s.shelves[sh].steering = .auto)
    (hs : s.shelves[sh].state = .locked c pend) (he : s.eligible sh c = false) :
    if s.admissible sh c = true ∧ s.shelfHoldOff sh ≠ 0 then Bridges s (s.act sh Ctx.ranking) sh c .lost
    else Reselects s (s.act sh Ctx.ranking) sh (s.best sh)
      (if s.admissible sh c = true then .lost else s.failCause sh c) := by
  have hact : s.act sh Ctx.ranking = s.actAuto sh Ctx.ranking := by rw [State.act, hauto]
  have h := actsUnderAuto (x := Ctx.ranking) hauto rfl
  unfold ActsUnderAuto at h
  simp only [hs, he, Bool.false_eq_true, if_false] at h
  rw [hact]
  exact h

end

theorem lostReference {sh : ShelfId} {c : PortId} {pend : Option (PortId × Cause)} {s t : State}
    (hauto : s.shelves[sh].steering = .auto) (hs : s.shelves[sh].state = .locked c pend) (he : s.eligible sh c = false)
    (ht : t = s.act sh Ctx.ranking) :
    t.shelves[sh].changed = true ∧ t.shelves[sh].learned = s.shelves[sh].learned ∧
    (s.admissible sh c = true → s.shelfHoldOff sh ≠ 0 →
      t.shelves[sh].state = .bridge c (s.shelfHoldOff sh) ∧ t.shelves[sh].lastCause = some .lost ∧ sh ∉ t.queue) ∧
    (s.admissible sh c = false ∨ s.shelfHoldOff sh = 0 →
      (s.admissible sh c = true → t.shelves[sh].lastCause = some .lost) ∧
      (s.admissible sh c = false → s.sameDomain sh c = false → t.shelves[sh].lastCause = some .partition) ∧
      (s.admissible sh c = false → s.sameDomain sh c = true → s.ports[c].state = .up →
        t.shelves[sh].lastCause = some .ineligible) ∧
      (s.admissible sh c = false → s.sameDomain sh c = true → s.ports[c].state ≠ .up →
        t.shelves[sh].lastCause = some .lost) ∧
      (∀ b, s.best sh = some b →
        t.shelves[sh].state = .queued b ∨ t.shelves[sh].state = .acquire b (s.settleMs sh)) ∧
      (s.best sh = none → s.holdoverValid sh = true →
        t.shelves[sh].state = .holdover (s.limitMs sh) ∧ sh ∉ t.queue) ∧
      (s.best sh = none → s.holdoverValid sh = false → t.shelves[sh].state = .freerun ∧ sh ∉ t.queue)) := by
  obtain ⟨K, hm⟩ := moved_act s sh Ctx.ranking
  have hlearned := hm.learned
  have h := act_lost hauto hs he
  rw [← ht] at h hlearned
  by_cases hb : s.admissible sh c = true ∧ s.shelfHoldOff sh ≠ 0
  · rw [if_pos hb] at h
    obtain ⟨hstate, hcause, hchanged, hq, -⟩ := h
    refine ⟨hchanged, hlearned, fun _ _ => ⟨hstate, hcause, hq⟩, fun hno => ?_⟩
    rcases hno with ha | hz
    · rw [hb.1] at ha
      cases ha
    · exact absurd hz hb.2
  · rw [if_neg hb] at h
    obtain ⟨hchanged, hcause⟩ := h.reports
    obtain ⟨htoward, hrest, hfree⟩ := h.ends
    refine ⟨hchanged, hlearned, fun ha hz => absurd ⟨ha, hz⟩ hb, fun _ => ⟨fun ha => ?_, fun ha hd => ?_, fun ha hd hup => ?_,
      fun ha hd hup => ?_, htoward, hrest, hfree⟩⟩
    all_goals rw [hcause, ha]
    · rfl
    all_goals rw [if_neg Bool.false_ne_true, State.failCause, hd]
    · rfl
    · rw [hup]
      rfl
    · rw [if_neg (by simp), if_neg (by simpa using hup)]

/-! ## How a shelf acts -/

/-- A shelf acts as its steering says. -/
theorem act_bySteering {sh : ShelfId} {s : State} {x : Ctx} (hx : x.forced = none) :
    (s.shelves[sh].steering = .auto → ActsUnderAuto s (s.act sh x) sh x.strict) ∧
      (∀ p, s.shelves[sh].steering = .steer p → ActsUnderSteer s (s.act sh x) sh p) ∧
      (∀ p, s.shelves[sh].steering = .pin p → ActsUnderPin s (s.act sh x) sh p x.ceased) := by
  refine ⟨fun h => ?_, fun p h => ?_, fun p h => ?_⟩
  · rw [State.act, h]
    exact actsUnderAuto h hx
  · rw [State.act, h]
    exact actsUnderSteer hx p
  · rw [State.act, h]
    exact actsUnderPin hx p

/-- A shelf keeps its steering as it acts, or the part takes it. -/
theorem act_steering {sh : ShelfId} {s : State} {x : Ctx} (hx : x.forced = none) :
    (s.act sh x).shelves[sh].steering = s.shelves[sh].steering ∨ LosesSteering s (s.act sh x) sh := by
  rcases acts_or_unsteers_act s sh x with ⟨K, hm, hs, -⟩ | ⟨-, e⟩
  · exact .inl hs
  · rw [e]
    exact .inr (losesSteering_actUnsteered hx)

/-- Settles O21. -/
theorem lostReferenceIsBridgedOrReselected : Obligations.LostReferenceIsBridgedOrReselected := by
  refine ⟨fun sh c pend s t => lostReference, fun i x s hi hr => reaches_rerankedBy hi hr,
    fun sh c u v h => ceased_iff u h, ?_, fun sh d s h => ⟨?_, ?_, ?_, failCause_eq h, fun c b e => switchWanted_eq h⟩⟩
  · rintro sh x s t hx rfl
    obtain ⟨K, hm⟩ := moved_act s sh x
    obtain ⟨hauto, hsteer, hpin⟩ := act_bySteering (sh := sh) (s := s) hx
    exact ⟨eventsOfMoves_act s sh x, hm.undisturbed, hm.learned, act_steering hx, fun hp => poolFits_act hp x,
      hauto, hsteer, hpin⟩
  · rw [State.settleMs, shelfRecord_eq h]
  · rw [State.shelfHoldOff, shelfRecord_eq h]
  · rw [State.limitMs, shelfRecord_eq h]

end Sys2Proof.Machine
end

section
/-!
PROOFS. The end of the holdover limit and of the learn time (R105, R111), the part events, and what the guard's absence
and return do (R112, R113, R118, R183).
-/

namespace Sys2Proof.Machine

/-! ## Part events (R54) -/

/-- The place of a kind in the part set (R190). -/
def partPlace : PartEvent → Nat
  | .oscFault => 0
  | .checkDone => 1
  | .control => 2
  | .applied => 3
  | .phase => 4

theorem partBit_eq (k : PartEvent) : k.bit = BitVec.twoPow 5 (partPlace k) := by cases k <;> decide

theorem partPlace_lt (k : PartEvent) : partPlace k < 5 := by cases k <;> decide

theorem mem_partSet (k : PartEvent) (x : BitVec 5) : (x &&& k.bit != 0) = x.getLsbD (partPlace k) := by
  have hn : BitVec.twoPow 5 (partPlace k) ≠ 0#5 := by cases k <;> decide
  rw [partBit_eq, BitVec.and_twoPow]
  cases x.getLsbD (partPlace k)
  · simp
  · simpa using hn

/-- A kind raised in the part set is latched unless it is masked, and a latched kind stays latched (R54). -/
theorem partSet_raise (e : PartSet) (j k : PartEvent) :
    (e.raise j).mask = e.mask ∧ (e.latched.getLsbD (partPlace k) = true → (e.raise j).latched.getLsbD (partPlace k) = true) ∧
      (e.mask.getLsbD (partPlace k) = false → (e.raise k).latched.getLsbD (partPlace k) = true) := by
  refine ⟨rfl, fun h => ?_, fun h => ?_⟩
  · simp only [PartSet.raise, BitVec.getLsbD_or, h, Bool.true_or]
  · simp only [PartSet.raise, BitVec.getLsbD_or, BitVec.getLsbD_and, BitVec.getLsbD_not, h, partBit_eq,
      BitVec.getLsbD_twoPow, partPlace_lt, decide_true, Bool.not_false, Bool.and_self, Bool.or_true]

section
variable {s t u : State}

theorem partLatched_raise {k : PartEvent} (h : s.partMasked k = false) : t.partEvents = s.partEvents.raise k → t.partLatched k = true := by
  intro ht
  unfold State.partMasked at h
  unfold State.partLatched
  rw [mem_partSet] at h ⊢
  rw [ht]
  exact (partSet_raise s.partEvents k k).2.2 h

/-- The first of two kinds raised stays latched. -/
theorem partLatched_raise_two {j k : PartEvent} :
    t.partEvents = (s.partEvents.raise j).raise k →
      (s.partMasked j = false → t.partLatched j = true) ∧ (s.partMasked k = false → t.partLatched k = true) := by
  intro ht
  unfold State.partMasked State.partLatched
  rw [mem_partSet, mem_partSet, mem_partSet, mem_partSet, ht]
  exact ⟨fun h => (partSet_raise _ k j).2.1 ((partSet_raise s.partEvents j j).2.2 h), fun h => (partSet_raise _ k k).2.2 h⟩

/-! ## Limit and learn time -/

/-- A shelf whose limit ends goes to FREERUN with cause EXPIRY, and raises EXPIRED and FREERUN (R111). -/
theorem expireLimit_shelf (s : State) (sh : ShelfId) :
    (s.expireLimit sh).shelves[sh] =
        { s.shelves[sh] with learned := 0, state := .freerun, changed := true, lastCause := some .expiry } ∧
      (∀ x : ShelfId, x ≠ sh → (s.expireLimit sh).shelves[x] = s.shelves[x]) ∧ (s.expireLimit sh).units = s.units ∧
      (s.expireLimit sh).queue = s.queue := by
  unfold State.expireLimit
  refine ⟨?_, fun x hx => ?_, ?_, ?_⟩
  · rw [raiseShelf_shelves, enterState_self, setShelf_get, if_pos rfl]
    rfl
  · rw [raiseShelf_shelves, enterState_get, if_neg hx.symm, setShelf_get, if_neg hx.symm]
  · rw [raiseShelf_units, enterState_units]
    rfl
  · rw [raiseShelf_queue, enterState_queue]
    rfl

theorem raises_expireLimit (s : State) (sh : ShelfId) :
    Raises s (s.expireLimit sh) fun d k => s.shelfDomain sh = some d ∧ (k = .expired ∨ k = .freerun) := by
  have henter := raises_enterState (s.setShelf sh { s.shelves[sh] with learned := 0 }) sh .freerun (some .expiry) (some .expired)
  have hset : Raises s (s.setShelf sh { s.shelves[sh] with learned := 0 }) fun _ _ => False := raises_none rfl
  refine (hset.trans (henter.trans (raises_raiseShelf _ sh .freerun))).congr fun d k => ?_
  have hdom : ((s.setShelf sh { s.shelves[sh] with learned := 0 }).enterState sh .freerun (some .expiry)
      (some .expired)).shelfDomain sh = s.shelfDomain sh :=
    (moves_enterState _ sh .freerun (some .expiry) (some .expired)).consequences.shelfDomain sh
  rw [hdom]
  simp only [State.shelfDomain, setShelf_current, Option.mem_def, Option.some.injEq, eq_comm (a := DomainEvent.expired)]
  tauto

/-- Only the time of a shelf's state and its learned time and validity go on as time passes. -/
theorem elapse_shelf_record (s : State) (d : Nat) (sh : ShelfId) :
    (s.elapse d).shelves[sh] = { s.shelves[sh] with
      state := (s.elapse d).shelves[sh].state, learned := (s.elapse d).shelves[sh].learned,
      valid := (s.elapse d).shelves[sh].valid } := by
  rcases Nat.eq_zero_or_pos d with rfl | hd
  · rw [elapse_zero]
  · rw [elapse_shelves_get s hd]
    rfl

theorem elapse_events (s : State) (d : Nat) (e : DomainId) (k : DomainEvent) :
    (s.elapse d).masked e k = s.masked e k ∧ (s.elapse d).latched e k = s.latched e k := by
  unfold State.masked State.latched
  rw [elapse_only]
  exact ⟨rfl, rfl⟩

end

theorem holdoverLimitEnds {sh : ShelfId} {s : State} (hr : s.inReset = false) {left : Nat}
    (h : s.shelves[sh].state = .holdover (some left)) :
    ∃ t, exec (.holdoverLimitExpiry sh) s = .next t ∧ Consequences (s.elapse left) t ∧
      (∀ other : ShelfId, other ≠ sh → ShelfKept (s.elapse left) t other) ∧
      t.shelves[sh].state = .freerun ∧ t.shelves[sh].learned = 0 ∧ t.shelves[sh].lastCause = some .expiry ∧
      t.shelves[sh].changed = true ∧ t.shelves[sh].steering = s.shelves[sh].steering ∧
      t.units = s.units ∧ t.queue = s.queue ∧
      (∀ d, s.shelfDomain sh = some d → s.masked d .expired = false → t.latched d .expired = true) ∧
      (∀ d, s.shelfDomain sh = some d → s.masked d .freerun = false → t.latched d .freerun = true) ∧
      (∀ d k, t.latched d k = true →
        s.latched d k = true ∨ s.shelfDomain sh = some d ∧ (k = .expired ∨ k = .freerun)) := by
  have hexec : exec (.holdoverLimitExpiry sh) s =
      .next (State.refresh (s.elapse left) ((s.elapse left).expireLimit sh)) := by
    show execHoldoverLimitExpiry sh s = _
    rw [execHoldoverLimitExpiry, live_of_not_inReset s _ hr]
    simp only [h]
  have hsteer : (s.elapse left).shelves[sh].steering = s.shelves[sh].steering := by rw [elapse_shelf_record]
  have hpool : (s.elapse left).units = s.units ∧ (s.elapse left).queue = s.queue := by
    rw [elapse_only]
    exact ⟨rfl, rfl⟩
  have hev := elapse_events s left
  have hdom : (s.elapse left).shelfDomain sh = s.shelfDomain sh := by
    rw [elapse_only]
    rfl
  generalize s.elapse left = u at hexec hsteer hpool hev hdom ⊢
  obtain ⟨hself, hother, hunits, hqueue⟩ := expireLimit_shelf u sh
  obtain ⟨ru, rq, re⟩ := refresh_pool u (u.expireLimit sh)
  have hraise := raises_expireLimit u sh
  have hlatched : ∀ d k, (State.refresh u (u.expireLimit sh)).latched d k = true ↔
      s.latched d k = true ∨ s.masked d k = false ∧ s.shelfDomain sh = some d ∧ (k = .expired ∨ k = .freerun) := by
    intro d k
    rw [← hdom, ← (hev d k).1, ← (hev d k).2, ← (hraise d k).2]
    unfold State.latched
    rw [re]
  have hrow : (State.refresh u (u.expireLimit sh)).shelves[sh] = { u.shelves[sh] with
      learned := 0, state := .freerun, changed := true, lastCause := some .expiry,
      valid := (u.expireLimit sh).refreshNominees.holdoverValid sh } := by
    rw [refresh_shelf, hself]
    rfl
  refine ⟨_, hexec, (moves_expireLimit u sh).consequences.trans (refresh_consequences u _), fun other hne => ?_, ?_, ?_, ?_,
    ?_, ?_, ru.trans (hunits.trans hpool.1), rq.trans (hqueue.trans hpool.2), fun d hd hm => ?_, fun d hd hm => ?_,
    fun d k hk => ?_⟩
  · have hk := refresh_shelfKept u (u.expireLimit sh) other
    unfold ShelfKept at hk ⊢
    rwa [hother other hne] at hk
  · rw [hrow]
  · rw [hrow]
  · rw [hrow]
  · rw [hrow]
  · rw [hrow, hsteer]
  · exact (hlatched d .expired).mpr (.inr ⟨hm, hd, .inl rfl⟩)
  · exact (hlatched d .freerun).mpr (.inr ⟨hm, hd, .inr rfl⟩)
  · exact ((hlatched d k).mp hk).imp_right fun e => e.2

/-- A learned time that still grows reaches the learn time at its moment (R105, R106). -/
theorem untilLearned_eq {s : State} {sh : ShelfId} {d : DomainId} {c : PortId} {pend : Option (PortId × Cause)}
    (h : s.shelves[sh].state = .locked c pend) (hl : s.osc.latch = false) (hd : s.shelfDomain sh = some d)
    (hlt : s.shelves[sh].learned < s.domains[d].learnTime * 1000) :
    s.untilLearned sh = some (s.domains[d].learnTime * 1000 - s.shelves[sh].learned) := by
  unfold State.untilLearned
  rw [shelfRecord_eq hd]
  dsimp only
  rw [if_pos]
  rw [h, hl]
  simpa [ShelfState.isLocked] using hlt

theorem learnTimeReached {sh : ShelfId} {s : State} (hr : s.inReset = false) {d : DomainId} {c : PortId}
    {pend : Option (PortId × Cause)} (h : s.shelves[sh].state = .locked c pend) (hl : s.osc.latch = false)
    (hd : s.shelfDomain sh = some d) (hmax : s.domains[d].learnTime ≤ 3600)
    (hlt : s.shelves[sh].learned < s.domains[d].learnTime * 1000) :
    ∃ t, exec (.learnTimeReached sh) s = .next t ∧
      Consequences (s.elapse (s.domains[d].learnTime * 1000 - s.shelves[sh].learned)) t ∧
      ShelvesKept (s.elapse (s.domains[d].learnTime * 1000 - s.shelves[sh].learned)) t ∧
      t.shelves[sh].valid = true ∧ t.shelves[sh].learned = s.domains[d].learnTime * 1000 ∧
      t.shelves[sh].state = .locked c pend := by
  have hexec : exec (.learnTimeReached sh) s = .next (State.refresh
      (s.elapse (s.domains[d].learnTime * 1000 - s.shelves[sh].learned))
      (s.elapse (s.domains[d].learnTime * 1000 - s.shelves[sh].learned))) := by
    show execLearnTimeReached sh s = _
    rw [execLearnTimeReached, live_of_not_inReset s _ hr]
    simp only [untilLearned_eq h hl hd hlt]
  have hpos : 0 < s.domains[d].learnTime * 1000 - s.shelves[sh].learned := Nat.sub_pos_of_lt hlt
  have hshelf := elapse_shelves_get s hpos sh
  have hosc := elapse_osc s hpos
  have hdom : (s.elapse (s.domains[d].learnTime * 1000 - s.shelves[sh].learned)).shelfDomain sh = some d := by
    rw [elapse_only]
    exact hd
  have hrec : (s.elapse (s.domains[d].learnTime * 1000 - s.shelves[sh].learned)).domains = s.domains := by rw [elapse_only]
  have hlearned : (s.elapse (s.domains[d].learnTime * 1000 - s.shelves[sh].learned)).shelves[sh].learned =
      s.domains[d].learnTime * 1000 := by
    rw [hshelf]
    simp only [Shelf.elapse, h, hl, ShelfState.isLocked, Bool.not_false, Bool.and_self, if_true]
    omega
  have hstate : (s.elapse (s.domains[d].learnTime * 1000 - s.shelves[sh].learned)).shelves[sh].state = .locked c pend := by
    rw [hshelf]
    simp only [Shelf.elapse, h, ShelfState.elapse]
  have hlatch : (s.elapse (s.domains[d].learnTime * 1000 - s.shelves[sh].learned)).osc.latch = false := by
    rw [hosc]
    exact hl
  refine ⟨_, hexec, refresh_consequences _ _, refresh_shelvesKept _ _, ?_, ?_, ?_⟩
  · rw [refresh_valid]
    exact (holdoverValid_iff _ sh).mpr ⟨d, hdom, hlatch, by rw [hrec, hlearned]⟩
  · rw [refresh_learned, hlearned]
  · rw [refresh_shelf, hstate]
    rfl

/-- Settles O24. -/
theorem holdoverLimitAndLearnTimeEnd : Obligations.HoldoverLimitAndLearnTimeEnd := by
  intro sh s hr
  refine ⟨fun hno => ?_, fun left h => holdoverLimitEnds hr h,
    fun d c pend h hl hd hmax hlt => learnTimeReached hr h hl hd hmax hlt⟩
  show execHoldoverLimitExpiry sh s = _
  rw [execHoldoverLimitExpiry, live_of_not_inReset s _ hr]
  split
  · next left h => exact absurd h (hno left)
  · rfl

/-! ## The guard -/

theorem loseGuard_of_none {u : State} (h : u.osc.check = none) :
    u.loseGuard = { u with osc := { u.osc with guardPresent := false, guardSince := u.now, bgWindow := none } } := by
  unfold State.loseGuard
  rw [h]
  rfl

/-- A check that loses the guard past INIT ends INCONCLUSIVE. -/
theorem loseGuard_of_check {u : State} (h : u.osc.check.isSome = true) (hp : u.phase ≠ .init) :
    u.loseGuard = { u with
      osc := { u.osc with guardPresent := false, guardSince := u.now, bgWindow := none, check := none,
                          lastOutcome := some .inconclusive, lastCheckDiff := none },
      partEvents := u.partEvents.raise .checkDone } := by
  unfold State.loseGuard
  rw [h]
  exact endCheck_inconclusive _ hp

/-- The initial check that loses the guard ends INIT in HELD (R183). -/
theorem loseGuard_of_init {u : State} (h : u.osc.check.isSome = true) (hp : u.phase = .init) :
    u.loseGuard = { u with
      osc := { u.osc with guardPresent := false, guardSince := u.now, bgWindow := none, check := none,
                          lastOutcome := some .inconclusive, lastCheckDiff := none },
      phase := .held,
      ports := u.ports.map fun (r : Port) => r.syncWindow !u.osc.latch,
      partEvents := (u.partEvents.raise .checkDone).raise .phase } := by
  unfold State.loseGuard
  rw [h]
  simp only [if_true]
  unfold State.endCheck
  rw [if_pos (by exact hp)]
  rfl

/-- Settles O25. -/
theorem guardAbsenceEndsWindowAndCheck : Obligations.GuardAbsenceEndsWindowAndCheck := by
  rintro s u hr hu
  refine ⟨fun hg => ⟨?_, ?_⟩, fun hg => ⟨?_, ?_⟩⟩
  · show execGuardAbsent s = _
    rw [execGuardAbsent, live_of_not_inReset s _ hr, if_neg (by rw [hg]; exact Bool.false_ne_true)]
  · show execGuardPresent s = _
    rw [execGuardPresent, live_of_not_inReset s _ hr, if_neg (by rw [hg]; exact Bool.false_ne_true), ← hu]
    rfl
  · show execGuardPresent s = _
    rw [execGuardPresent, live_of_not_inReset s _ hr, if_pos hg]
  · have hexec : exec .guardAbsent s = .next (State.refresh u u.loseGuard) := by
      show execGuardAbsent s = _
      rw [execGuardAbsent, live_of_not_inReset s _ hr, if_pos hg]
      dsimp only
      rw [← hu]
    have hcheck : u.osc.check = none ↔ s.osc.check = none := by
      rw [hu]
      rcases Nat.eq_zero_or_pos (s.osc.guardSince + 10 - s.now) with h0 | hpos
      · rw [h0, elapse_zero]
      · rw [elapse_osc s hpos]
        simp [Oscillator.elapse]
    have hphase : u.phase = s.phase := by rw [hu, elapse_phase]
    rw [← hphase]
    clear hu hphase hg
    have hc := refresh_consequences u u.loseGuard
    have hk := refresh_shelvesKept u u.loseGuard
    refine ⟨_, hexec, ?_⟩
    generalize State.refresh u u.loseGuard = t at hc hk ⊢
    by_cases hn : u.osc.check = none
    · rw [loseGuard_of_none hn] at hc hk
      rw [hc.osc]
      exact ⟨hk, rfl, rfl, rfl, rfl, fun _ => hc, fun h => absurd (hcheck.mp hn) h⟩
    · have hs := Option.isSome_iff_ne_none.mpr hn
      by_cases hp : u.phase = .init
      · rw [loseGuard_of_init hs hp] at hc hk
        have hlatched := partLatched_raise_two (t := t) (s := u) hc.partEvents
        rw [hc.osc, hc.phase, if_pos hp]
        refine ⟨hk, rfl, rfl, rfl, rfl, fun h => absurd (hcheck.mpr h) hn, fun _ => ⟨rfl, rfl, rfl, hlatched.1,
          fun _ => ⟨rfl, hlatched.2⟩, fun h => absurd hp h, rfl, hc.partEvents, ?_, fun _ p => ?_⟩⟩
        · rw [hc.ports, hc.partEvents]
          exact hc
        · rw [hc.ports]
          simp only [Fin.getElem_fin, Vector.getElem_map, Port.syncWindow, Bool.and_eq_true, Bool.not_eq_true', and_assoc]
      · rw [loseGuard_of_check hs hp] at hc hk
        rw [hc.osc, hc.phase, if_neg hp]
        refine ⟨hk, rfl, rfl, rfl, rfl, fun h => absurd (hcheck.mpr h) hn, fun _ => ⟨rfl, rfl, rfl,
          fun hm => partLatched_raise hm hc.partEvents, fun h => absurd h hp, fun _ => ⟨rfl, hc.ports⟩, rfl, hc.partEvents,
          ?_, fun h => absurd h hp⟩⟩
        rw [hc.ports, hc.partEvents]
        exact hc

end Sys2Proof.Machine
end

section
/-!
PROOFS. What a shelf is handed looks at the ports' states and activity alone (R60 to R70), and the setting of the fault latch
(R14, R114, R115).
-/

namespace Sys2Proof.Machine

section
variable {s t u v : State}

/-! ## Parts that look alike to the engine -/

/-- The ports' states and activity and every other ranking input agree (R67). -/
structure LooksAlike (s t : State) : Prop where
  state : ∀ p : PortId, t.ports[p].state = s.ports[p].state
  activity : ∀ p : PortId, t.ports[p].activity = s.ports[p].activity
  grades : t.grades = s.grades
  current : t.current = s.current
  domains : t.domains = s.domains
  lists : t.lists = s.lists
  cells : t.cells = s.cells

theorem SameInputs.looksAlike (h : SameInputs s t) : LooksAlike s t := by
  obtain ⟨hports, hgrades, hcurrent, hdomains, hlists, hcells⟩ := h
  exact ⟨fun p => by rw [hports], fun p => by rw [hports], hgrades, hcurrent, hdomains, hlists, hcells⟩

theorem LooksAlike.symm (h : LooksAlike s t) : LooksAlike t s :=
  ⟨fun p => (h.state p).symm, fun p => (h.activity p).symm, h.grades.symm, h.current.symm, h.domains.symm, h.lists.symm,
    h.cells.symm⟩

theorem LooksAlike.laterReason (h : LooksAlike s t) (sh : ShelfId) (d : DomainId) (p : PortId) :
    t.laterReason sh d p = s.laterReason sh d p := by
  unfold State.laterReason State.effectiveGrade State.barred
  rw [h.grades, h.domains, h.lists, h.cells]

theorem LooksAlike.shelfDomain (h : LooksAlike s t) (sh : ShelfId) : t.shelfDomain sh = s.shelfDomain sh := by
  rw [State.shelfDomain, State.shelfDomain, h.current]

theorem LooksAlike.portDomain (h : LooksAlike s t) (p : PortId) : t.portDomain p = s.portDomain p := by
  rw [State.portDomain, State.portDomain, h.current]

theorem LooksAlike.sameDomain (h : LooksAlike s t) (sh : ShelfId) (p : PortId) : t.sameDomain sh p = s.sameDomain sh p := by
  rw [State.sameDomain, State.sameDomain, h.shelfDomain, h.portDomain]

theorem LooksAlike.admissible (h : LooksAlike s t) (sh : ShelfId) (p : PortId) : t.admissible sh p = s.admissible sh p := by
  simp only [State.admissible, h.shelfDomain, h.portDomain, h.laterReason]

theorem LooksAlike.eligible (h : LooksAlike s t) (sh : ShelfId) (p : PortId) : t.eligible sh p = s.eligible sh p := by
  rw [State.eligible, State.eligible, h.state, h.admissible]

theorem LooksAlike.barred (h : LooksAlike s t) (sh : ShelfId) (p : PortId) : t.barred sh p = s.barred sh p := by
  rw [State.barred, State.barred, h.cells]

theorem LooksAlike.verdicts (h : LooksAlike s t) (sh : ShelfId) : t.verdicts sh = s.verdicts sh := by
  have hv : ∀ d p, t.verdict sh d p = s.verdict sh d p := fun d p => by
    simp only [State.verdict, h.state, h.laterReason]
  simp only [State.verdicts, State.portsOf, h.shelfDomain, h.portDomain]
  split
  · exact List.map_congr_left fun p _ => hv _ p
  · rfl

theorem LooksAlike.eligibleList (h : LooksAlike s t) (sh : ShelfId) : t.eligibleList sh = s.eligibleList sh := by
  have hentries : ∀ (d : DomainId) (l : List PortId) (n : Nat), t.entriesFrom sh d n l = s.entriesFrom sh d n l := by
    intro d l
    induction l with
    | nil => exact fun _ => rfl
    | cons p rest ih =>
      intro n
      simp only [State.entriesFrom, h.eligible, ih, State.entry, h.domains, h.grades]
  simp only [State.eligibleList, h.shelfDomain, h.lists, hentries]

/-- Alike parts hand a shelf the same where they agree on the port it is pinned to. -/
theorem LooksAlike.handed (h : LooksAlike s t) {sh : ShelfId}
    (hpin : ∀ p, t.shelves[sh].steering = .pin p ↔ s.shelves[sh].steering = .pin p) : t.handed sh = s.handed sh := by
  unfold State.handed
  rw [h.eligibleList, h.verdicts]
  congr 1
  cases hs : s.shelves[sh].steering with
  | pin p => simp only [(hpin p).mpr hs, h.state, h.activity, h.sameDomain]
  | auto =>
    cases ht : t.shelves[sh].steering with
    | pin p => rw [hs] at hpin; exact absurd ((hpin p).mp ht) nofun
    | _ => rfl
  | steer q =>
    cases ht : t.shelves[sh].steering with
    | pin p => rw [hs] at hpin; exact absurd ((hpin p).mp ht) nofun
    | _ => rfl

/-- What takes a reference away is the same seen from alike parts. -/
theorem LooksAlike.ceased_old (h : LooksAlike s t) (w : State) (sh : ShelfId) : State.ceased t w sh = State.ceased s w sh := by
  unfold State.ceased
  split
  · simp only [h.eligible, h.sameDomain, h.activity]
  · rfl

/-- A change that leaves the parts alike makes no shelf act. -/
theorem LooksAlike.commit (h : LooksAlike s t)
    (hpin : ∀ (sh : ShelfId) p, t.shelves[sh].steering = .pin p ↔ s.shelves[sh].steering = .pin p) (x : Ctx) :
    State.commit s t x = State.refresh s t := by
  have hnew : State.handedNew s t = [] := by
    simp only [State.handedNew, h.handed (hpin _), bne_self_eq_false, List.filter_false]
  rw [State.commit, State.rerank, hnew]
  rfl

/-- A change that leaves the parts alike and the pool as it is moves no shelf. -/
theorem LooksAlike.shelvesKept (h : LooksAlike s t) (hs : t.shelves = s.shelves) (hu : t.units = s.units)
    (hq : t.queue = s.queue) (he : t.domainEvents = s.domainEvents) (x : Ctx) : ShelvesKept s (State.commit s t x) := by
  rw [h.commit (fun sh p => by rw [hs])]
  obtain ⟨hu', hq', he', hk⟩ := refresh_shelvesKept s t
  refine ⟨hu'.trans hu, hq'.trans hq, he'.trans he, fun sh => ?_⟩
  have hk := hk sh
  unfold ShelfKept at hk ⊢
  rwa [hs] at hk

/-- Alike parts from which the same shelves are pinned make the same shelves act in the same way. -/
theorem LooksAlike.rerank (h : LooksAlike s t)
    (hpin : ∀ (sh : ShelfId) p, t.shelves[sh].steering = .pin p ↔ s.shelves[sh].steering = .pin p) (v : State) (x : Ctx) :
    State.rerank t v x = State.rerank s v x := by
  unfold State.rerank State.handedNew State.meet
  simp only [h.handed (hpin _), h.ceased_old]

/-! ## Shelves and ports distrusted (R14, R115) -/

/-- What the setting of the latch leaves of a shelf record (R115). -/
def Shelf.distrusted (r : Shelf) : Shelf :=
  if r.state.isHoldover then
    { r with state := .freerun, learned := 0, valid := false, lastCause := some .oscFault, changed := true }
  else { r with learned := 0, valid := false }

theorem distrustShelf_get (s : State) (sh x : ShelfId) :
    (s.distrustShelf sh).shelves[x] = if sh = x then s.shelves[sh].distrusted else s.shelves[x] := by
  unfold State.distrustShelf Shelf.distrusted
  dsimp only
  split
  · rw [enterState_get, setShelf_get, if_pos rfl, setShelf_get]
    split
    · rfl
    · rfl
  · rw [setShelf_get]

theorem raises_distrustShelf (s : State) (sh : ShelfId) :
    Raises s (s.distrustShelf sh) fun d k => s.shelfDomain sh = some d ∧ k = .freerun ∧ s.shelves[sh].state.isHoldover = true := by
  unfold State.distrustShelf
  dsimp only
  by_cases hh : s.shelves[sh].state.isHoldover = true
  · rw [if_pos hh]
    have hset : Raises s (s.setShelf sh { s.shelves[sh] with learned := 0, valid := false }) fun _ _ => False := raises_none rfl
    refine (hset.trans (raises_enterState _ sh .freerun (some .oscFault) (some .freerun))).congr fun d k => ?_
    simp only [State.shelfDomain, setShelf_current, Option.mem_def, Option.some.injEq, false_or, hh, and_true,
      eq_comm (a := DomainEvent.freerun)]
  · rw [if_neg hh]
    refine Raises.congr (E := fun _ _ => False) (raises_none rfl) fun d k => ?_
    simp only [hh, and_false, Bool.false_eq_true]

theorem distrustShelf_pool (s : State) (sh : ShelfId) :
    (s.distrustShelf sh).units = s.units ∧ (s.distrustShelf sh).queue = s.queue := by
  unfold State.distrustShelf
  dsimp only
  split
  · exact ⟨enterState_units _ _ _ _ _, enterState_queue _ _ _ _ _⟩
  · exact ⟨rfl, rfl⟩

theorem distrustShelves_pool (l : List ShelfId) (s : State) :
    (l.foldl State.distrustShelf s).units = s.units ∧ (l.foldl State.distrustShelf s).queue = s.queue := by
  induction l generalizing s with
  | nil => exact ⟨rfl, rfl⟩
  | cons sh rest ih =>
    obtain ⟨hu, hq⟩ := distrustShelf_pool s sh
    exact ⟨(ih _).1.trans hu, (ih _).2.trans hq⟩

theorem distrustShelves_get (l : List ShelfId) (hl : l.Nodup) (s : State) (x : ShelfId) :
    (l.foldl State.distrustShelf s).shelves[x] = if x ∈ l then s.shelves[x].distrusted else s.shelves[x] := by
  induction l generalizing s with
  | nil => rfl
  | cons sh rest ih =>
    obtain ⟨hsh, hrest⟩ := List.nodup_cons.mp hl
    rw [List.foldl_cons, ih hrest, distrustShelf_get]
    by_cases hx : sh = x
    · rw [if_pos hx, hx, if_neg (hx ▸ hsh), if_pos List.mem_cons_self]
    · rw [if_neg hx]
      simp only [List.mem_cons, Ne.symm hx, false_or]

theorem raises_distrustShelves (l : List ShelfId) (hl : l.Nodup) (s : State) :
    Raises s (l.foldl State.distrustShelf s) fun d k => ∃ sh ∈ l, s.shelfDomain sh = some d ∧ k = .freerun ∧
      s.shelves[sh].state.isHoldover = true := by
  induction l generalizing s with
  | nil => exact (raises_none rfl).congr fun d k => by simp
  | cons sh rest ih =>
    obtain ⟨hsh, hrest⟩ := List.nodup_cons.mp hl
    rw [List.foldl_cons]
    refine ((raises_distrustShelf s sh).trans (ih hrest _)).congr fun d k => ?_
    simp only [(moves_distrustShelf s sh).consequences.shelfDomain, List.mem_cons, exists_eq_or_imp]
    refine or_congr_right (exists_congr fun x => and_congr_right fun hx => ?_)
    have hne : sh ≠ x := by
      rintro rfl
      exact hsh hx
    rw [distrustShelf_get, if_neg hne]

theorem raises_distrustPorts (l : List PortId) (hl : l.Nodup) (s : State) :
    Raises s (l.foldl State.distrustPort s) fun d k => ∃ p ∈ l, s.portDomain p = some d ∧ k = .port ∧
      (s.distrusted p s.ports[p]).state ≠ s.ports[p].state := by
  induction l generalizing s with
  | nil => exact (raises_none rfl).congr fun d k => by simp
  | cons p rest ih =>
    obtain ⟨hp, hrest⟩ := List.nodup_cons.mp hl
    have hfirst : Raises s (s.distrustPort p) fun d k => s.portDomain p = some d ∧ k = .port ∧
        (s.distrusted p s.ports[p]).state ≠ s.ports[p].state := raises_putPort s p _
    have honly := portsOnly_distrustPort s p
    rw [List.foldl_cons]
    refine (hfirst.trans (ih hrest _)).congr fun d k => ?_
    have hdom : ∀ q, (s.distrustPort p).portDomain q = s.portDomain q := fun q => by
      rw [honly]
      rfl
    simp only [hdom, List.mem_cons, exists_eq_or_imp, distrusted_portsOnly honly]
    refine or_congr_right (exists_congr fun q => and_congr_right fun hq => ?_)
    have hne : p ≠ q := by
      rintro rfl
      exact hp hq
    rw [distrustPort_get, if_neg hne]

/-- What a distrusted port keeps and what R14 takes from it. -/
theorem distrusted_fields (s : State) (p : PortId) :
    s.distrusted p s.ports[p] = { s.ports[p] with
        window := none, outRun := 0, inRun := 0, state := (s.distrusted p s.ports[p]).state,
        fault := if s.ports[p].state = .suspect then false else s.ports[p].fault,
        restoreLeft := (s.distrusted p s.ports[p]).restoreLeft } ∧
      (s.ports[p].state ≠ .suspect → (s.distrusted p s.ports[p]).state = s.ports[p].state ∧
        (s.distrusted p s.ports[p]).restoreLeft = s.ports[p].restoreLeft) ∧
      (s.ports[p].state = .suspect → QualifiedIn s p (s.distrusted p s.ports[p])) ∧
      (s.distrusted p s.ports[p]).state ≠ .suspect := by
  unfold State.distrusted
  by_cases h : s.ports[p].state = .suspect
  · rw [if_pos (by rw [h]; rfl), if_pos h]
    obtain ⟨hfields, hstate⟩ := qualify_fields s p
      { s.ports[p] with window := none, outRun := 0, inRun := 0, fault := false }
    have hq : QualifiedIn s p (s.qualify p { s.ports[p] with window := none, outRun := 0, inRun := 0, fault := false }) :=
      qualifiedIn_qualify rfl
    refine ⟨hfields, fun e => absurd h e, fun _ => hq, ?_⟩
    rcases hstate with e | e <;> rw [e] <;> exact nofun
  · rw [if_neg (by simpa using h), if_neg h]
    exact ⟨rfl, fun _ => ⟨rfl, rfl⟩, fun e => absurd e h, h⟩

/-! ## The latch set -/

/-- From `u`, where the latch is clear, to `t` the latch has been set and every port and shelf distrusted, and no shelf has
acted yet. `e` stands for the domain event sets after the shelves and before the ports. -/
structure Distrusts (u t : State) : Prop where
  latch : t.osc.latch = true
  ports : ∀ p : PortId, t.ports[p] = u.distrusted p u.ports[p]
  shelves : ∀ sh : ShelfId, t.shelves[sh] = u.shelves[sh].distrusted
  units : t.units = u.units
  queue : t.queue = u.queue
  grades : t.grades = u.grades
  current : t.current = u.current
  domains : t.domains = u.domains
  lists : t.lists = u.lists
  cells : t.cells = u.cells
  events : ∃ e : Vector DomainSet 4,
    (Raises u { u with domainEvents := e } fun d k => ∃ sh : ShelfId, u.shelfDomain sh = some d ∧ k = .freerun ∧
      u.shelves[sh].state.isHoldover = true) ∧
    Raises { u with domainEvents := e } t fun d k => ∃ p : PortId, u.portDomain p = some d ∧ k = .port ∧
      (u.distrusted p u.ports[p]).state ≠ u.ports[p].state

theorem Raises.of_events {E : DomainId → DomainEvent → Prop} (h : Raises s t E) {s' t' : State}
    (hs : s'.domainEvents = s.domainEvents) (ht : t'.domainEvents = t.domainEvents) : Raises s' t' E := by
  intro d k
  have hdk := h d k
  unfold State.masked State.latched at hdk ⊢
  rwa [hs, ht]

theorem distrusts_setLatch (h : s.osc.latch = false) (source : LatchSource) : Distrusts s (s.setLatch source) := by
  have hports := setLatch_port h source
  have heq : s.setLatch source = ((List.finRange 24).foldl State.distrustPort ((List.finRange 48).foldl State.distrustShelf
      (s.setOsc { s.osc with latch := true, source := some source }))).raisePart .oscFault := by
    unfold State.setLatch
    dsimp only
    rw [if_neg (by rw [h]; exact Bool.false_ne_true)]
  rw [heq] at hports ⊢
  have hc := (distrustShelves_moves s { s.osc with latch := true, source := some source }).consequences
  have hshelves := distrustShelves_get (List.finRange 48) (List.nodup_finRange 48)
    (s.setOsc { s.osc with latch := true, source := some source })
  have hraise := raises_distrustShelves (List.finRange 48) (List.nodup_finRange 48)
    (s.setOsc { s.osc with latch := true, source := some source })
  obtain ⟨hunits, hqueue⟩ := distrustShelves_pool (List.finRange 48)
    (s.setOsc { s.osc with latch := true, source := some source })
  generalize (List.finRange 48).foldl State.distrustShelf (s.setOsc { s.osc with latch := true, source := some source }) = t
    at hports hc hshelves hraise hunits hqueue ⊢
  have honly := portsOnly_distrustPorts t (List.finRange 24)
  have hraiseP := raises_distrustPorts (List.finRange 24) (List.nodup_finRange 24) t
  have hdistrust : ∀ p, t.distrusted p t.ports[p] = s.distrusted p s.ports[p] := fun p => by
    rw [distrusted_congr (s := s) hc.current hc.domains hc.phase hc.now, hc.ports]
    rfl
  generalize (List.finRange 24).foldl State.distrustPort t = w at hports honly hraiseP ⊢
  unfold PortsOnly at honly
  refine ⟨?_, hports, fun sh => ?_, ?_, ?_, ?_, ?_, ?_, ?_, ?_, t.domainEvents, ?_, ?_⟩
  · rw [honly, raisePart_osc, hc.osc]
    rfl
  · rw [honly, raisePart_shelves, hshelves, if_pos (List.mem_finRange sh)]
    rfl
  · rw [honly, raisePart_units, hunits]
    rfl
  · rw [honly, raisePart_queue, hqueue]
    rfl
  · rw [honly, raisePart_grades, hc.grades]
    rfl
  · rw [honly, raisePart_current, hc.current]
    rfl
  · rw [honly, raisePart_domains, hc.domains]
    rfl
  · rw [honly, raisePart_lists, hc.lists]
    rfl
  · rw [honly, raisePart_cells, hc.cells]
    rfl
  · refine (hraise.of_events (s' := s) (t' := { s with domainEvents := t.domainEvents }) rfl rfl).congr fun d k => ?_
    simp only [List.mem_finRange, true_and]
    rfl
  · refine (hraiseP.of_events (s' := { s with domainEvents := t.domainEvents }) (t' := w.raisePart .oscFault) rfl rfl).congr
      fun d k => ?_
    have hdom : ∀ p, t.portDomain p = s.portDomain p := fun p => hc.portDomain p
    have hport : ∀ p : PortId, t.ports[p] = s.ports[p] := fun p => by
      rw [hc.ports]
      rfl
    simp only [List.mem_finRange, true_and]
    refine exists_congr fun p => ?_
    rw [hdom, hdistrust, hport]

end

end Sys2Proof.Machine
end

section
/-!
PROOFS. The fault latch takes effect (R14, R115, R157), and the background window that sets it (R113, R114).
-/

namespace Sys2Proof.Machine

section
variable {s t u v w : State}

/-! ## While the latch is set -/

/-- While the latch is set no shelf learns and none is in HOLDOVER (R114, R115). -/
structure Untrusted (s : State) : Prop where
  latch : s.osc.latch = true
  learned : ∀ sh : ShelfId, s.shelves[sh].learned = 0
  rests : ∀ sh : ShelfId, s.shelves[sh].state.isHoldover = false

/-- With the latch set no record is valid (R105). -/
theorem holdoverValid_latched (h : s.osc.latch = true) (sh : ShelfId) : s.holdoverValid sh = false := by
  refine Bool.eq_false_iff.mpr fun hv => ?_
  obtain ⟨d, -, hl, -⟩ := (holdoverValid_iff s sh).mp hv
  rw [h] at hl
  cases hl

theorem untrusted_act (h : Untrusted s) (sh : ShelfId) (x : Ctx) : Untrusted (s.act sh x) := by
  obtain ⟨K, hm⟩ := moved_act s sh x
  refine ⟨hm.moves.consequences.osc.symm ▸ h.latch, fun y => ?_, fun y => ?_⟩
  · by_cases hy : y = sh
    · rw [hy, hm.learned]
      exact h.learned sh
    · rcases hm.others y hy with e | e
      · rw [e]
        exact h.learned y
      · rw [e.kept.2.1]
        exact h.learned y
  · by_cases hy : y = sh
    · subst hy
      refine Bool.eq_false_iff.mpr fun hrest => ?_
      rcases hm.rests hrest with e | e
      · rw [h.rests] at e
        cases e
      · rw [holdoverValid_latched h.latch] at e
        cases e
    · rcases hm.others y hy with e | e
      · rw [e]
        exact h.rests y
      · exact e.kept.2.2.2

theorem untrusted_rerank (h : Untrusted v) (old : State) (x : Ctx) : Untrusted (State.rerank old v x) :=
  rerank_induction (P := Untrusted) old v x (fun _ => ⟨h.latch, h.learned, h.rests⟩) fun _ sh y ht => untrusted_act ht sh y

theorem untrusted_refresh (h : Untrusted v) (old : State) : Untrusted (State.refresh old v) := by
  refine ⟨(refresh_consequences old v).osc.symm ▸ h.latch, fun sh => ?_, fun sh => ?_⟩
  · rw [refresh_learned]
    exact h.learned sh
  · rw [refresh_shelf]
    dsimp only
    split
    · rfl
    · exact h.rests sh

theorem untrusted_commit (h : Untrusted v) (old : State) (x : Ctx) : Untrusted (State.commit old v x) :=
  untrusted_refresh (untrusted_rerank h old x) old

theorem commit_invalid (h : Untrusted v) (old : State) (x : Ctx) (sh : ShelfId) :
    (State.commit old v x).shelves[sh].valid = false := by
  have hw := (untrusted_rerank h old x).latch
  unfold State.commit
  rw [refresh_valid]
  exact holdoverValid_latched hw sh

/-! ## What a clock carries while the latch is set (R157) -/

theorem rebuilt_outgoing (old u : State) (sh : ShelfId) : (State.rebuilt old u sh).outgoing =
    u.messageFor sh (u.setupNow sh (State.frozenOf old u sh)).1.enabled
      (State.rebuilt old u sh).drive (State.frozenOf old u sh) := rfl

theorem rebuilt_active (old u : State) (sh : ShelfId) :
    (State.rebuilt old u sh).active = (u.setupNow sh (State.frozenOf old u sh)).1 := rfl

/-- The clock of the part's own oscillator, from the oscillator itself or from a tracker that is not locked, is sent with
SHUN while the latch is set. -/
theorem messageFor_latched (h : u.osc.latch = true) {sh : ShelfId} {drive : Drive} (frozen : Option GradeMsg)
    (hd : drive = .localOsc ∨ drive = .tracker ∧ u.shelves[sh].state.isLocked = false) :
    u.messageFor sh true drive frozen = some (shunMsg u.nodeId) := by
  unfold State.messageFor State.trackerMessage
  rcases hd with rfl | ⟨rfl, hl⟩
  · rw [h]
    rfl
  · rw [h, hl]
    rfl

theorem refreshOutputs_latched (old : State) (h : u.osc.latch = true) (sh : ShelfId) :
    (State.refreshOutputs old u).outputs[sh].active.enabled = true →
      (State.refreshOutputs old u).outputs[sh].drive = .localOsc ∨
        (State.refreshOutputs old u).outputs[sh].drive = .tracker ∧ u.shelves[sh].state.isLocked = false →
      (State.refreshOutputs old u).outputs[sh].outgoing = some (shunMsg u.nodeId) := by
  rw [refreshOutputs_get]
  obtain ⟨ha, -, hd, -, -, ho, -⟩ := retime_fields (State.rebuilt old u sh) old.outputs[sh].active.enabled u.now
  rw [ha, hd, ho, rebuilt_outgoing, rebuilt_active]
  intro he hdrive
  rw [he]
  exact messageFor_latched h _ hdrive

theorem refresh_latched (old : State) (h : w.osc.latch = true) (sh : ShelfId)
    (he : (State.refresh old w).outputs[sh].active.enabled = true)
    (hd : (State.refresh old w).outputs[sh].drive = .localOsc ∨
      (State.refresh old w).outputs[sh].drive = .tracker ∧ (State.refresh old w).shelves[sh].state.isLocked = false) :
    (State.refresh old w).outputs[sh].outgoing = some (shunMsg (State.refresh old w).nodeId) := by
  have hn : (State.refresh old w).nodeId = w.refreshNominees.syncValid.nodeId := by
    simp only [State.refresh, State.refreshOutputs]
  have hs : (State.refresh old w).shelves[sh] = (w.refreshNominees.syncValid).shelves[sh] := rfl
  have hl : w.refreshNominees.syncValid.osc.latch = true := by simpa only [State.syncValid, State.refreshNominees] using h
  rw [hs] at hd
  rw [hn]
  unfold State.refresh at he hd ⊢
  generalize w.refreshNominees.syncValid = u at he hd hl ⊢
  have hout := refreshOutputs_latched old hl sh
  generalize State.refreshOutputs old u = t at he hd hout ⊢
  exact hout he hd

theorem commit_latched (old : State) {x : Ctx} (h : Untrusted v) (sh : ShelfId) :
    (State.commit old v x).outputs[sh].active.enabled = true →
      (State.commit old v x).outputs[sh].drive = .localOsc ∨
        (State.commit old v x).outputs[sh].drive = .tracker ∧ (State.commit old v x).shelves[sh].state.isLocked = false →
      (State.commit old v x).outputs[sh].outgoing = some (shunMsg (State.commit old v x).nodeId) := by
  have hl := (untrusted_rerank h old x).latch
  unfold State.commit
  generalize State.rerank old v x = w at hl ⊢
  exact refresh_latched old hl sh

/-! ## Latched kinds stay latched -/

theorem latched_act (s : State) (sh : ShelfId) (x : Ctx) {d : DomainId} {k : DomainEvent} (h : s.latched d k = true) :
    (s.act sh x).latched d k = true := (eventsOfMoves_act s sh x d k).2.mpr (.inl h)

theorem latched_commit (old : State) (x : Ctx) {d : DomainId} {k : DomainEvent} (h : v.latched d k = true) :
    (State.commit old v x).latched d k = true := by
  have hw : (State.rerank old v x).latched d k = true :=
    rerank_induction (P := fun t => t.latched d k = true) old v x (fun _ => h) fun t sh y ht => latched_act t sh y ht
  unfold State.commit State.latched
  rw [(refresh_pool old _).2.2]
  exact hw

theorem Raises.latched {E : DomainId → DomainEvent → Prop} (h : Raises s t E) {d : DomainId} {k : DomainEvent}
    (hk : s.latched d k = true) : t.latched d k = true := (h d k).2.mpr (.inl hk)

/-! ## The latch takes effect -/

theorem Distrusts.untrusted (h : Distrusts u t) : Untrusted t := by
  refine ⟨h.latch, fun sh => ?_, fun sh => ?_⟩
  · rw [h.shelves]
    unfold Shelf.distrusted
    split <;> rfl
  · rw [h.shelves]
    unfold Shelf.distrusted
    split
    · rfl
    · next hh => exact Bool.eq_false_iff.mpr hh

/-- The part after the shelves and before the ports are distrusted, with the inputs of `u`. -/
def State.shelvesDistrusted (u : State) (e : Vector DomainSet 4) : State :=
  { u with domainEvents := e, shelves := Vector.ofFn fun sh => u.shelves[sh].distrusted }

theorem shelvesDistrusted_shelf (u : State) (e : Vector DomainSet 4) (sh : ShelfId) :
    (u.shelvesDistrusted e).shelves[sh] = u.shelves[sh].distrusted := by simp [State.shelvesDistrusted]

theorem distrusted_steering (r : Shelf) : r.distrusted.steering = r.steering := by
  unfold Shelf.distrusted
  split <;> rfl

/-- A distrusted shelf raises FREERUN where it leaves HOLDOVER and nothing else (R78). -/
theorem shelfRaises_distrusted (r : Shelf) (k : DomainEvent) :
    shelfRaises r.state r.distrusted.state (r.steering != .auto && r.distrusted.steering == .auto) k = true ↔
      k = .freerun ∧ r.state.isHoldover = true := by
  have hlost : (r.steering != .auto && r.distrusted.steering == .auto) = false := by
    rw [distrusted_steering]
    cases r.steering <;> rfl
  rw [hlost]
  unfold Shelf.distrusted
  by_cases hh : r.state.isHoldover = true
  · rw [if_pos hh]
    cases hs : r.state <;> rw [hs] at hh <;> cases k <;>
      simp_all [shelfRaises, ShelfState.isQueued, ShelfState.isAcquire, ShelfState.isLocked, ShelfState.isBridge,
        ShelfState.isHoldover, ShelfState.isFreerun]
  · rw [if_neg hh, shelfRaises_self]
    simp [hh]

theorem commit_pool_old {x : Ctx} (h : State.rerank u w x = State.rerank v w x) :
    (State.commit u w x).shelves = (State.commit v w x).shelves ∧ (State.commit u w x).units = (State.commit v w x).units ∧
      (State.commit u w x).queue = (State.commit v w x).queue ∧
      (State.commit u w x).domainEvents = (State.commit v w x).domainEvents := by
  unfold State.commit
  rw [h]
  generalize State.rerank v w x = z
  obtain ⟨hu, hq, he⟩ := refresh_pool u z
  obtain ⟨ku, kq, ke⟩ := refresh_pool v z
  refine ⟨Vector.ext fun i hi => ?_, hu.trans ku.symm, hq.trans kq.symm, he.trans ke.symm⟩
  exact (refresh_shelf u z ⟨i, hi⟩).trans (refresh_shelf v z ⟨i, hi⟩).symm

theorem Distrusts.actsOnChange (h : Distrusts u t) {e : Vector DomainSet 4}
    (hports : Raises { u with domainEvents := e } t fun d k => ∃ p : PortId, u.portDomain p = some d ∧ k = .port ∧
      (u.distrusted p u.ports[p]).state ≠ u.ports[p].state) (x : Ctx) :
    ActsOnChange (u.shelvesDistrusted e) (State.commit u t x) x := by
  have hraise : PortsRaise (u.shelvesDistrusted e) t := by
    refine (hports.of_events (s' := u.shelvesDistrusted e) rfl rfl).congr fun d k => ?_
    refine exists_congr fun p => and_congr Iff.rfl ?_
    have hport : (u.shelvesDistrusted e).ports[p] = u.ports[p] := rfl
    have hgrade : (u.shelvesDistrusted e).grades[p] = u.grades[p] := rfl
    rw [hport, hgrade, h.ports, h.grades]
    cases k <;> simp [portRaises]
  have halike : LooksAlike u (u.shelvesDistrusted e) :=
    SameInputs.looksAlike (s := u) (t := u.shelvesDistrusted e) ⟨rfl, rfl, rfl, rfl, rfl, rfl⟩
  have hrerank : State.rerank (u.shelvesDistrusted e) t x = State.rerank u t x :=
    halike.rerank (fun sh p => by rw [shelvesDistrusted_shelf, distrusted_steering]) t x
  obtain ⟨hs, hu, hq, he⟩ := commit_pool_old hrerank.symm
  refine commit_actsOnChange (u.shelvesDistrusted e) t (State.commit u t x) x (commit_consequences u t x).request ?_ h.units
    h.queue hraise.others hraise.eventsOfPorts he hs hu hq
  refine Vector.ext fun i hi => ?_
  exact (h.shelves ⟨i, hi⟩).trans (shelvesDistrusted_shelf u e ⟨i, hi⟩).symm

theorem Distrusts.portEffect (h : Distrusts u t) (p : PortId) :
    t.ports[p] = { u.ports[p] with window := none, outRun := 0, inRun := 0, state := t.ports[p].state,
                                   fault := if u.ports[p].state = .suspect then false else u.ports[p].fault,
                                   restoreLeft := t.ports[p].restoreLeft } ∧
      (u.ports[p].state ≠ .suspect →
        t.ports[p].state = u.ports[p].state ∧ t.ports[p].restoreLeft = u.ports[p].restoreLeft) ∧
      (u.ports[p].state = .suspect → QualifiedIn u p t.ports[p]) := by
  rw [h.ports]
  obtain ⟨hfields, hkept, hq, -⟩ := distrusted_fields u p
  exact ⟨hfields, hkept, hq⟩

theorem eventsOfMoves_shelvesDistrusted {e : Vector DomainSet 4}
    (h : Raises u { u with domainEvents := e } fun d k => ∃ sh : ShelfId, u.shelfDomain sh = some d ∧ k = .freerun ∧
      u.shelves[sh].state.isHoldover = true) : EventsOfMoves u (u.shelvesDistrusted e) := fun d k => by
  have hv := (h.of_events (s' := u) (t' := u.shelvesDistrusted e) rfl rfl) d k
  refine ⟨hv.1, hv.2.trans (or_congr_right (and_congr_right fun _ => exists_congr fun sh => and_congr_right fun _ => ?_))⟩
  rw [shelvesDistrusted_shelf]
  exact (shelfRaises_distrusted _ k).symm

/-- A shelf that left HOLDOVER has raised FREERUN (R115). -/
theorem Distrusts.freerun (h : Distrusts u t) (sh : ShelfId) (d : DomainId) (hh : u.shelves[sh].state.isHoldover = true)
    (hd : u.shelfDomain sh = some d) (hm : u.masked d .freerun = false) : t.latched d .freerun = true := by
  obtain ⟨e, hshelves, hports⟩ := h.events
  exact hports.latched ((hshelves d .freerun).2.mpr (.inr ⟨hm, sh, hd, rfl, hh⟩))

/-- The latch takes effect where every port and shelf is distrusted and then the shelves act (R14, R115). -/
theorem Distrusts.latchTakesEffect (h : Distrusts u t) : LatchTakesEffect u (State.commit u t Ctx.ranking) := by
  obtain ⟨e, hshelves, hports⟩ := h.events
  have hp := h.portEffect
  rw [← (commit_consequences u t Ctx.ranking).ports] at hp
  have hacts := h.actsOnChange hports Ctx.ranking
  have hfree := fun sh d hh hd hm => latched_commit u Ctx.ranking (h.freerun sh d hh hd hm)
  have hshun := commit_latched (x := Ctx.ranking) u h.untrusted
  generalize State.commit u t Ctx.ranking = z at hp hacts hfree hshun ⊢
  exact ⟨hp, ⟨u.shelvesDistrusted e, rfl, eventsOfMoves_shelvesDistrusted hshelves, hacts⟩, hfree, hshun⟩

/-! ## Setting the latch from a part that differs in the monitor's record -/

theorem Distrusts.of_setOsc {o : Oscillator} (h : Distrusts (u.setOsc o) t) : Distrusts u t := by
  obtain ⟨e, hs, hp⟩ := h.events
  exact ⟨h.latch, h.ports, h.shelves, h.units, h.queue, h.grades, h.current, h.domains, h.lists, h.cells, e,
    hs.of_events rfl rfl, hp.of_events rfl rfl⟩

theorem setLatch_osc (s : State) (source : LatchSource) :
    (s.setLatch source).osc = { s.osc with latch := true, source := some source } := by
  unfold State.setLatch
  dsimp only
  split
  · rfl
  · have hc := (distrustShelves_moves s { s.osc with latch := true, source := some source }).consequences
    have honly := portsOnly_distrustPorts ((List.finRange 48).foldl State.distrustShelf
      (s.setOsc { s.osc with latch := true, source := some source })) (List.finRange 24)
    unfold PortsOnly at honly
    rw [honly, raisePart_osc, hc.osc]
    rfl

theorem setLatch_partEvents (h : s.osc.latch = false) (source : LatchSource) :
    (s.setLatch source).partEvents = s.partEvents.raise .oscFault := by
  unfold State.setLatch
  dsimp only
  rw [if_neg (by rw [h]; exact Bool.false_ne_true)]
  have hc := (distrustShelves_moves s { s.osc with latch := true, source := some source }).consequences
  have honly := portsOnly_distrustPorts ((List.finRange 48).foldl State.distrustShelf
    (s.setOsc { s.osc with latch := true, source := some source })) (List.finRange 24)
  unfold PortsOnly at honly
  unfold State.raisePart
  rw [honly, hc.partEvents]
  rfl

theorem passes_iff {m : Int} : passes m = true ↔ |m| ≤ 2000 := by simp [passes]

theorem completeBackground_passes {m : Int} (h : |roundOffset m| ≤ 2000) :
    u.completeBackground m = u.setOsc { u.osc with bgWindow := some 0, lastBackground := some (roundOffset m) } := by
  unfold State.completeBackground
  dsimp only
  rw [if_pos (passes_iff.mpr h)]

theorem completeBackground_fails {m : Int} (h : 2000 < |roundOffset m|) :
    u.completeBackground m =
      (u.setOsc { u.osc with bgWindow := some 0, lastBackground := some (roundOffset m) }).setLatch .window := by
  unfold State.completeBackground
  dsimp only
  rw [if_neg fun e => absurd (passes_iff.mp e) (not_le.mpr h)]

/-- A committed change of the monitor changes nothing outside it but what shelves and outputs do. -/
theorem MonitorOnly.commit (h : MonitorOnly u v) (x : Ctx) :
    Consequences { u with osc := v.osc, phase := v.phase, ports := v.ports, partEvents := v.partEvents }
      (State.commit u v x) := by
  refine Consequences.trans ?_ (commit_consequences u v x)
  unfold MonitorOnly at h
  unfold Consequences
  rw [h]

end

/-- A committed change of the monitor's record alone moves no shelf. -/
theorem commit_setOsc_kept (u : State) (o : Oscillator) (x : Ctx) : ShelvesKept u (State.commit u (u.setOsc o) x) :=
  commit_shelvesKept (s := u) (t := u.setOsc o) ⟨rfl, rfl, rfl, rfl, rfl, rfl⟩ rfl rfl rfl rfl x

/-- The latch, clear before, set and committed: what every port and shelf then is (R14, R115). -/
theorem Distrusts.settles {u t : State} (h : Distrusts u t) (x : Ctx) :
    (∀ sh : ShelfId, (State.commit u t x).shelves[sh].learned = 0 ∧ (State.commit u t x).shelves[sh].valid = false ∧
      (State.commit u t x).shelves[sh].state.isHoldover = false) ∧
    (∀ p : PortId, (State.commit u t x).ports[p].window = none ∧ (State.commit u t x).ports[p].outRun = 0 ∧
      (State.commit u t x).ports[p].inRun = 0 ∧ (State.commit u t x).ports[p].state ≠ .suspect ∧
      (State.commit u t x).ports[p].faulted = u.ports[p].faulted ∧
      (u.ports[p].state ≠ .suspect → (State.commit u t x).ports[p].state = u.ports[p].state ∧
        (State.commit u t x).ports[p].restoreLeft = u.ports[p].restoreLeft)) := by
  have hun := untrusted_commit h.untrusted u x
  refine ⟨fun sh => ⟨hun.learned sh, commit_invalid h.untrusted u x sh, hun.rests sh⟩, fun p => ?_⟩
  rw [(commit_consequences u t x).ports, h.ports]
  obtain ⟨hfields, hkept, -, hne⟩ := distrusted_fields u p
  refine ⟨?_, ?_, ?_, hne, ?_, hkept⟩ <;> rw [hfields]

section
variable {m : Int} {u : State}

theorem completeBackground_osc (h : 2000 < |roundOffset m|) : (u.completeBackground m).osc =
    { u.osc with bgWindow := some 0, lastBackground := some (roundOffset m), latch := true, source := some .window } := by
  rw [completeBackground_fails h, setLatch_osc]
  rfl

theorem completeBackground_set (h : 2000 < |roundOffset m|) (hl : u.osc.latch = true) :
    u.completeBackground m = u.setOsc
      { u.osc with bgWindow := some 0, lastBackground := some (roundOffset m), source := some .window } := by
  rw [completeBackground_fails h, setLatch_set (by exact hl), ← hl]
  rfl

theorem completeBackground_distrusts (h : 2000 < |roundOffset m|) (hl : u.osc.latch = false) :
    Distrusts u (u.completeBackground m) := by
  rw [completeBackground_fails h]
  exact (distrusts_setLatch (by exact hl) .window).of_setOsc

theorem completeBackground_partEvents (h : 2000 < |roundOffset m|) (hl : u.osc.latch = false) :
    (u.completeBackground m).partEvents = u.partEvents.raise .oscFault := by
  rw [completeBackground_fails h, setLatch_partEvents (by exact hl)]
  rfl

theorem completeBackground_phase (m : Int) (u : State) : (u.completeBackground m).phase = u.phase := by
  unfold State.completeBackground
  dsimp only
  split
  · rfl
  · rw [setLatch_phase]
    rfl

end

/-- Settles O26. -/
theorem failingBackgroundWindowSetsTheLatch : Obligations.FailingBackgroundWindowSetsTheLatch := by
  intro m s u hr
  refine ⟨fun hnone => ?_, ?_⟩
  · show execBackgroundWindowComplete m s = _
    rw [execBackgroundWindowComplete, live_of_not_inReset s _ hr]
    simp only [hnone]
  rintro e hwin rfl
  have hexec : exec (.backgroundWindowComplete m) s = .next (State.commit (s.elapse (16000 - e))
      ((s.elapse (16000 - e)).completeBackground m) Ctx.ranking) := by
    show execBackgroundWindowComplete m s = _
    rw [execBackgroundWindowComplete, live_of_not_inReset s _ hr]
    simp only [hwin]
    rfl
  generalize s.elapse (16000 - e) = u at hexec ⊢
  have hc := commit_consequences u (u.completeBackground m) Ctx.ranking
  refine ⟨_, hexec, ?_⟩
  rcases le_or_gt |roundOffset m| 2000 with hpass | hfail
  · rw [completeBackground_passes hpass] at hc ⊢
    have hk := commit_setOsc_kept u { u.osc with bgWindow := some 0, lastBackground := some (roundOffset m) } Ctx.ranking
    generalize State.commit u _ Ctx.ranking = t at hc hk ⊢
    rw [hc.osc]
    exact ⟨rfl, rfl, rfl, fun _ => hk, fun _ => hc, fun h => absurd hpass (not_le.mpr h)⟩
  · have hosc := hc.osc.trans (completeBackground_osc hfail)
    cases hl : u.osc.latch with
    | true =>
      have hk := commit_setOsc_kept u
        { u.osc with bgWindow := some 0, lastBackground := some (roundOffset m), source := some .window } Ctx.ranking
      rw [← completeBackground_set hfail hl] at hk
      generalize State.commit u (u.completeBackground m) Ctx.ranking = t at hc hk hosc ⊢
      rw [completeBackground_set hfail hl] at hc
      rw [hosc]
      exact ⟨rfl, rfl, rfl, fun _ => hk, fun h => absurd h (not_le.mpr hfail),
        fun _ => ⟨rfl, rfl, fun _ => ⟨hc.ports, hc.partEvents, hc⟩, nofun⟩⟩
    | false =>
      have hd := completeBackground_distrusts hfail hl
      obtain ⟨hshelves, hports⟩ := hd.settles Ctx.ranking
      have htakes := hd.latchTakesEffect
      have hpart := hc.partEvents.trans (completeBackground_partEvents hfail hl)
      have hm := (monitorOnly_completeBackground u m).commit Ctx.ranking
      rw [completeBackground_phase, ← hc.osc, ← hc.ports, ← hc.partEvents] at hm
      generalize State.commit u (u.completeBackground m) Ctx.ranking = t at hc hosc hshelves hports htakes hpart hm ⊢
      rw [hosc] at hm ⊢
      exact ⟨rfl, rfl, rfl, fun h => absurd hfail (not_lt.mpr (h.resolve_right Bool.false_ne_true)),
        fun h => absurd h (not_le.mpr hfail),
        fun _ => ⟨rfl, rfl, nofun, fun _ => ⟨hpart, hm, htakes, hshelves, hports⟩⟩⟩

end Sys2Proof.Machine
end

section
/-!
PROOFS. Release (R87, R133, R184): every shelf leaves HELD, the shelves with a nominee join in ascending number, and the first
six are lent the units 0 to 5.
-/

namespace Sys2Proof.Machine

section
variable {s t u v : State} {sh : ShelfId}

/-! ## Units lent to an empty pool (R82) -/

/-- Units have been lent to the first `k` shelves of the list, in order, and the others wait. -/
structure Filled (s : State) (l : List ShelfId) (k : Nat) : Prop where
  queue : s.queue = l.drop k
  units : ∀ a : UnitId, s.units[a] = if a.val < k then l[a.val]? else none
  waits : ∀ x ∈ l.drop k, s.shelves[x].state.waits = true

/-- One lending gives the next unit to the next shelf. -/
theorem Filled.lendOne {l : List ShelfId} {k : Nat} (h : Filled s l k) (hl : l.Nodup) (hk : k < 6) :
    Filled s.lendOne l (k + 1) := by
  cases hd : l.drop k with
  | nil =>
    have hlen : l.length ≤ k := List.drop_eq_nil_iff.mp hd
    have hsame : s.lendOne = s := by
      unfold State.lendOne
      rw [h.queue, hd]
    rw [hsame]
    refine ⟨?_, fun a => ?_, fun x hx => ?_⟩
    · rw [h.queue, hd, List.drop_eq_nil_iff.mpr (by omega)]
    · rw [h.units]
      by_cases ha : a.val < k
      · rw [if_pos ha, if_pos (by omega)]
      · rw [if_neg ha, List.getElem?_eq_none (by omega)]
        split <;> rfl
    · rw [List.drop_eq_nil_iff.mpr (by omega)] at hx
      cases hx
  | cons x rest =>
    have hget : l[k]? = some x := by
      have := List.getElem?_drop (xs := l) (i := k) (j := 0)
      rw [hd] at this
      simpa using this.symm
    have hrest : l.drop (k + 1) = rest := by rw [← List.drop_drop, hd]; rfl
    have hlow : LowestIdle s.units ⟨k, hk⟩ := by
      refine ⟨by rw [h.units, if_neg (Nat.lt_irrefl k)], fun w hw => ?_⟩
      have hlt : w.val < k := hw
      have hlen : k < l.length := (List.getElem?_eq_some_iff.mp hget).1
      rw [h.units, if_pos hlt, List.getElem?_eq_getElem (by omega)]
      exact Option.some_ne_none _
    have heq : s.lendOne = (s.setQueue rest).grant x ⟨k, hk⟩ := by
      unfold State.lendOne
      rw [h.queue, hd, idleUnit_of_lowest hlow]
    have hwait : (s.setQueue rest).shelves[x].state.waits = true := h.waits x (by rw [hd]; exact List.mem_cons_self)
    obtain ⟨hunits, hqueue, -, hother⟩ := grant_waits hwait ⟨k, hk⟩
    have hnodup : x ∉ rest := by
      have := hl.sublist (List.drop_sublist k l)
      rw [hd] at this
      exact (List.nodup_cons.mp this).1
    rw [heq]
    refine ⟨?_, fun a => ?_, fun y hy => ?_⟩
    · rw [hqueue, hrest]
      rfl
    · rw [hunits, units_set_get]
      have hset : (s.setQueue rest).units[a] = s.units[a] := rfl
      by_cases ha : (⟨k, hk⟩ : UnitId) = a
      · subst ha
        rw [if_pos rfl, if_pos (Nat.lt_succ_self k), hget]
      · have hne : a.val ≠ k := fun e => ha (Fin.ext e.symm)
        rw [if_neg ha, hset, h.units]
        by_cases hlt : a.val < k
        · rw [if_pos hlt, if_pos (by omega)]
        · rw [if_neg hlt, if_neg (by omega)]
    · rw [hrest] at hy
      have hne : y ≠ x := by
        rintro rfl
        exact hnodup hy
      rw [hother y hne]
      exact h.waits y (by rw [hd]; exact List.mem_cons_of_mem _ hy)

theorem Filled.lendTimes {l : List ShelfId} (hl : l.Nodup) (n k : Nat) (h : Filled s l k) (hk : k + n ≤ 6) :
    Filled (State.lendTimes n s) l (k + n) := by
  induction n generalizing s k with
  | zero => exact h
  | succ n ih =>
    have hstep := ih (s := s.lendOne) (k + 1) (h.lendOne hl (by omega)) (by omega)
    rwa [Nat.add_right_comm] at hstep

/-- From an idle pool the first six waiting shelves are lent the units in order. -/
theorem lend_fills (hu : ∀ a : UnitId, s.units[a] = none) (hq : s.queue.Nodup)
    (hw : ∀ x ∈ s.queue, s.shelves[x].state.waits = true) :
    s.lend.queue = s.queue.drop 6 ∧ ∀ a : UnitId, s.lend.units[a] = s.queue[a.val]? := by
  have h : Filled s s.queue 0 := ⟨rfl, fun a => (hu a).trans (if_neg (Nat.not_lt_zero _)).symm, hw⟩
  have hl := h.lendTimes hq 6 0 (by omega)
  refine ⟨hl.queue, fun a => (hl.units a).trans ?_⟩
  rw [if_pos (by omega)]

/-! ## One shelf released -/

/-- A shelf that joins the queue at a release: it has a domain and a nominee (R87). -/
def State.joins (s : State) (sh : ShelfId) : Bool :=
  (s.shelfDomain sh).isSome && s.shelves[sh].state.nominee?.isSome

/-- The steering a shelf keeps at a release: a STEER goes unless its port is the nominee (R133). -/
def State.releasedSteering (s : State) (sh : ShelfId) (nominee : Option PortId) : Steering :=
  match s.shelves[sh].steering with
  | .steer p => if nominee = some p then .steer p else .auto
  | .auto => .auto
  | .pin p => .pin p

/-- The record of a HELD shelf after its release, before units are lent (R87, R133). -/
def State.releasedShelf (s : State) (sh : ShelfId) (nominee : Option PortId) : Shelf :=
  if (s.shelfDomain sh).isNone then
    { s.shelves[sh] with state := .parked, changed := true, lastCause := some .release }
  else
    { s.shelves[sh] with
      steering := s.releasedSteering sh nominee,
      state := (match nominee with | some p => .queued p | none => .freerun),
      changed := true, lastCause := some .release }

/-- The part with a released shelf's steering looked at (R133). -/
def State.steeringChecked (s : State) (sh : ShelfId) (nominee : Option PortId) : State :=
  match s.shelves[sh].steering with
  | .steer p => if nominee = some p then s else s.loseSteering sh
  | .auto => s
  | .pin _ => s

theorem steeringChecked_get (s : State) (sh x : ShelfId) (n : Option PortId) :
    (s.steeringChecked sh n).shelves[x] =
      if sh = x then { s.shelves[sh] with steering := s.releasedSteering sh n } else s.shelves[x] := by
  have hsame : ∀ st, s.shelves[sh].steering = st →
      s.shelves[x] = if sh = x then { s.shelves[sh] with steering := st } else s.shelves[x] := by
    rintro st rfl
    split
    · next e => rw [← e]
    · rfl
  unfold State.steeringChecked State.releasedSteering
  cases hs : s.shelves[sh].steering with
  | auto => exact hsame _ hs
  | pin p => exact hsame _ hs
  | steer p =>
    dsimp only
    by_cases hn : n = some p
    · rw [if_pos hn, if_pos hn]
      exact hsame _ hs
    · rw [if_neg hn, if_neg hn]
      exact loseSteering_get s sh x

theorem steeringChecked_pool (s : State) (sh : ShelfId) (n : Option PortId) :
    (s.steeringChecked sh n).units = s.units ∧ (s.steeringChecked sh n).queue = s.queue ∧
      Consequences s (s.steeringChecked sh n) := by
  unfold State.steeringChecked
  split
  · split
    · exact ⟨rfl, rfl, .refl s⟩
    · exact ⟨loseSteering_units s sh, loseSteering_queue s sh, (moved_loseSteering s sh).moves.consequences⟩
  · exact ⟨rfl, rfl, .refl s⟩
  · exact ⟨rfl, rfl, .refl s⟩

theorem raises_steeringChecked (s : State) (sh : ShelfId) (n : Option PortId) :
    Raises s (s.steeringChecked sh n) fun d k => s.shelfDomain sh = some d ∧ k = .steerLost ∧
      (s.shelves[sh].steering != .auto && s.releasedSteering sh n == .auto) = true := by
  have hnone : ∀ b, b = false → Raises s s fun d k => s.shelfDomain sh = some d ∧ k = .steerLost ∧ b = true := by
    rintro b rfl
    exact (raises_none rfl).congr fun d k => by simp
  unfold State.steeringChecked State.releasedSteering
  cases hs : s.shelves[sh].steering with
  | auto => exact hnone _ rfl
  | pin p => exact hnone _ rfl
  | steer p =>
    dsimp only
    by_cases hn : n = some p
    · rw [if_pos hn, if_pos hn]
      exact hnone _ rfl
    · rw [if_neg hn, if_neg hn]
      have hset : Raises s (s.setSteering sh .auto) fun _ _ => False := raises_none rfl
      refine (hset.trans (raises_raiseShelf (s.setSteering sh .auto) sh .steerLost)).congr fun d k => ?_
      have hdom : (s.setSteering sh .auto).shelfDomain sh = s.shelfDomain sh := rfl
      have hlost : ((Steering.steer p != .auto) && (Steering.auto == .auto)) = true := rfl
      rw [hdom, hlost]
      simp

/-- What releasing a HELD shelf does, by its domain and its nominee. -/
def State.unheld (s : State) (sh : ShelfId) (n : Option PortId) : State :=
  if (s.shelfDomain sh).isNone then s.enterState sh .parked (some .release) none
  else
    match n with
    | some p => ((s.steeringChecked sh n).enterState sh (.queued p) (some .release) (some .switch)).setQueue
        ((s.steeringChecked sh n).queue ++ [sh])
    | none => (s.steeringChecked sh n).enterState sh .freerun (some .release) (some .freerun)

theorem releaseShelf_eq {n : Option PortId} (h : s.shelves[sh].state = .held n) : s.releaseShelf sh = s.unheld sh n := by
  unfold State.releaseShelf
  rw [h]
  cases n <;> rfl

theorem releaseShelf_get {n : Option PortId} (h : s.shelves[sh].state = .held n) (x : ShelfId) :
    (s.releaseShelf sh).shelves[x] = if sh = x then s.releasedShelf sh n else s.shelves[x] := by
  rw [releaseShelf_eq h]
  unfold State.unheld State.releasedShelf
  by_cases hd : (s.shelfDomain sh).isNone = true
  · rw [if_pos hd, if_pos hd, enterState_get]
    rfl
  · rw [if_neg hd, if_neg hd]
    have hself := steeringChecked_get s sh sh n
    rw [if_pos rfl] at hself
    have hother : sh ≠ x → (s.steeringChecked sh n).shelves[x] = s.shelves[x] := fun hx =>
      (steeringChecked_get s sh x n).trans (if_neg hx)
    have hget : ∀ st e, ((s.steeringChecked sh n).enterState sh st (some .release) e).shelves[x] =
        if sh = x then { s.shelves[sh] with
          steering := s.releasedSteering sh n, state := st, changed := true, lastCause := some .release }
        else s.shelves[x] := by
      intro st e
      rw [enterState_get, hself]
      by_cases hx : sh = x
      · rw [if_pos hx, if_pos hx]
        rfl
      · rw [if_neg hx, if_neg hx, hother hx]
    cases n with
    | none => exact hget _ _
    | some p => exact hget (.queued p) (some .switch)

theorem releaseShelf_pool {n : Option PortId} (h : s.shelves[sh].state = .held n) :
    (s.releaseShelf sh).units = s.units ∧
      (s.releaseShelf sh).queue = s.queue ++ (if s.joins sh then [sh] else []) := by
  obtain ⟨hu, hq, -⟩ := steeringChecked_pool s sh n
  rw [releaseShelf_eq h]
  unfold State.unheld State.joins
  rw [h]
  cases hd : s.shelfDomain sh with
  | none => exact ⟨enterState_units _ _ _ _ _, (enterState_queue _ _ _ _ _).trans (List.append_nil _).symm⟩
  | some d =>
    cases n with
    | none => exact ⟨(enterState_units _ _ _ _ _).trans hu, ((enterState_queue _ _ _ _ _).trans hq).trans (List.append_nil _).symm⟩
    | some p => exact ⟨(enterState_units _ _ _ _ _).trans hu, congrArg (· ++ [sh]) hq⟩

/-- The events of a release are those of the shelf's move out of HELD (R78, R133). -/
theorem raises_releaseShelf {n : Option PortId} (h : s.shelves[sh].state = .held n) :
    Raises s (s.releaseShelf sh) fun d k => s.shelfDomain sh = some d ∧
      shelfRaises s.shelves[sh].state (s.releasedShelf sh n).state
        (s.shelves[sh].steering != .auto && (s.releasedShelf sh n).steering == .auto) k = true := by
  rw [releaseShelf_eq h, h]
  unfold State.unheld State.releasedShelf
  cases hd : s.shelfDomain sh with
  | none =>
    refine (raises_enterState s sh .parked (some .release) none).congr fun d k => ?_
    rw [hd]
    simp
  | some e =>
    have hdom : (s.steeringChecked sh n).shelfDomain sh = some e := by
      rw [(steeringChecked_pool s sh n).2.2.shelfDomain, hd]
    have hsteer := raises_steeringChecked s sh n
    rw [hd] at hsteer
    have hboth : ∀ st k', Raises s ((s.steeringChecked sh n).enterState sh st (some .release) (some k')) fun d k =>
        some e = some d ∧ (k = .steerLost ∧ (s.shelves[sh].steering != .auto && s.releasedSteering sh n == .auto) = true ∨
          k = k') := by
      intro st k'
      refine (hsteer.trans (raises_enterState (s.steeringChecked sh n) sh st (some .release) (some k'))).congr fun d k => ?_
      rw [hdom]
      simp only [Option.mem_def, Option.some.injEq, eq_comm (a := k')]
      tauto
    cases n with
    | none =>
      refine (hboth .freerun .freerun).congr fun d k => and_congr_right fun _ => ?_
      simp only [Option.isNone_some, Bool.false_eq_true, if_false]
      generalize (s.shelves[sh].steering != Steering.auto && s.releasedSteering sh none == Steering.auto) = lost
      cases k <;> simp [shelfRaises, ShelfState.isQueued, ShelfState.isAcquire, ShelfState.isLocked, ShelfState.isBridge,
        ShelfState.isHoldover, ShelfState.isFreerun]
    | some p =>
      refine ((hboth (.queued p) .switch).of_events (s' := s) (t' := ((s.steeringChecked sh (some p)).enterState sh (.queued p)
        (some .release) (some .switch)).setQueue ((s.steeringChecked sh (some p)).queue ++ [sh])) rfl rfl).congr
        fun d k => and_congr_right fun _ => ?_
      simp only [Option.isNone_some, Bool.false_eq_true, if_false]
      generalize (s.shelves[sh].steering != Steering.auto && s.releasedSteering sh (some p) == Steering.auto) = lost
      cases k <;> simp [shelfRaises, ShelfState.isQueued, ShelfState.isAcquire, ShelfState.isLocked, ShelfState.isBridge,
        ShelfState.isHoldover, ShelfState.isFreerun]

end

end Sys2Proof.Machine
end

section
/-!
PROOFS. The whole release (R87, R133) and the request that makes it (R184).
-/

namespace Sys2Proof.Machine

section
variable {s t u v : State}

/-- A HELD shelf's record after its release, with the nominee read from its state. -/
def State.unheldShelf (s : State) (sh : ShelfId) : Shelf := s.releasedShelf sh s.shelves[sh].state.nominee?

theorem held_nominee {st : ShelfState} (h : st.isHeld = true) : st = .held st.nominee? := by
  cases st <;> first | rfl | cases h

theorem unheldShelf_congr {sh : ShelfId} (hs : t.shelves[sh] = s.shelves[sh]) (hd : t.shelfDomain sh = s.shelfDomain sh) :
    t.unheldShelf sh = s.unheldShelf sh ∧ t.joins sh = s.joins sh := by
  unfold State.unheldShelf State.releasedShelf State.releasedSteering State.joins
  rw [hs, hd]
  exact ⟨rfl, rfl⟩

/-- What is raised as a shelf leaves HELD (R78, R133). -/
def State.unheldRaises (s : State) (sh : ShelfId) (k : DomainEvent) : Bool :=
  shelfRaises s.shelves[sh].state (s.unheldShelf sh).state
    (s.shelves[sh].steering != .auto && (s.unheldShelf sh).steering == .auto) k

/-- The shelves of the list have been released in turn, and no unit has been lent. -/
structure Unheld (s t : State) (l : List ShelfId) : Prop where
  conseq : Consequences s t
  shelves : ∀ x : ShelfId, t.shelves[x] = if x ∈ l then s.unheldShelf x else s.shelves[x]
  units : t.units = s.units
  queue : t.queue = s.queue ++ l.filter s.joins
  events : Raises s t fun d k => ∃ x ∈ l, s.shelfDomain x = some d ∧ s.unheldRaises x k = true

theorem unheld_releaseShelf {sh : ShelfId} (h : s.shelves[sh].state.isHeld = true) : Unheld s (s.releaseShelf sh) [sh] := by
  have hn := held_nominee h
  obtain ⟨hu, hq⟩ := releaseShelf_pool hn
  refine ⟨(moves_releaseShelf s sh).consequences, fun x => ?_, hu, ?_, (raises_releaseShelf hn).congr fun d k => ?_⟩
  · rw [releaseShelf_get hn]
    by_cases hx : sh = x
    · subst hx
      rw [if_pos rfl, if_pos (List.mem_singleton.mpr rfl)]
      rfl
    · rw [if_neg hx, if_neg fun e => hx (List.mem_singleton.mp e).symm]
  · rw [hq]
    cases hj : s.joins sh with
    | true => rw [if_pos rfl, List.filter_cons_of_pos hj, List.filter_nil]
    | false => rw [if_neg Bool.false_ne_true, List.filter_cons_of_neg (by rw [hj]; exact Bool.false_ne_true), List.filter_nil]
  · simp only [List.mem_singleton, exists_eq_left]
    rfl

/-- HELD shelves released in turn, each once. -/
theorem unheld_releaseShelves (l : List ShelfId) (hl : l.Nodup) (s : State)
    (h : ∀ x ∈ l, s.shelves[x].state.isHeld = true) : Unheld s (l.foldl State.releaseShelf s) l := by
  induction l generalizing s with
  | nil =>
    exact ⟨.refl s, fun x => by simp, rfl, (List.append_nil _).symm, (raises_none rfl).congr fun d k => by simp⟩
  | cons sh rest ih =>
    obtain ⟨hsh, hrest⟩ := List.nodup_cons.mp hl
    have hone := unheld_releaseShelf (h sh List.mem_cons_self)
    have hsame : ∀ x ∈ rest, (s.releaseShelf sh).shelves[x] = s.shelves[x] := fun x hx => by
      have hne : x ≠ sh := by
        rintro rfl
        exact hsh hx
      rw [hone.shelves, if_neg fun e => hne (List.mem_singleton.mp e)]
    have hdom := hone.conseq.shelfDomain
    have hmore := ih hrest (s.releaseShelf sh) fun x hx => by
      rw [hsame x hx]
      exact h x (List.mem_cons_of_mem _ hx)
    have hcongr := fun x hx => unheldShelf_congr (hsame x hx) (hdom x)
    have hraise : ∀ x ∈ rest, ∀ k, (s.releaseShelf sh).unheldRaises x k = s.unheldRaises x k := fun x hx k => by
      unfold State.unheldRaises
      rw [hsame x hx, (hcongr x hx).1]
    refine ⟨hone.conseq.trans hmore.conseq, fun x => ?_, hmore.units.trans hone.units, ?_,
      (hone.events.trans hmore.events).congr fun d k => ?_⟩
    · rw [List.foldl_cons, hmore.shelves]
      by_cases hx : x ∈ rest
      · rw [if_pos hx, if_pos (List.mem_cons_of_mem _ hx), (hcongr x hx).1]
      · rw [if_neg hx, hone.shelves]
        simp only [List.mem_cons, List.not_mem_nil, or_false, hx]
    · rw [List.foldl_cons, hmore.queue, hone.queue, List.append_assoc, List.filter_congr fun x hx => (hcongr x hx).2,
        ← List.filter_append]
      rfl
    · simp only [List.mem_cons, List.not_mem_nil, or_false, exists_eq_left, exists_eq_or_imp, hdom]
      refine or_congr_right (exists_congr fun x => and_congr_right fun hx => ?_)
      rw [hraise x hx]

/-! ## Units lent after the release -/

theorem unheldShelf_state (sh : ShelfId) :
    (s.unheldShelf sh).state = if (s.shelfDomain sh).isNone then .parked
      else match s.shelves[sh].state.nominee? with | some p => .queued p | none => .freerun := by
  unfold State.unheldShelf State.releasedShelf
  split <;> rfl

theorem unheldShelf_joins {sh : ShelfId} (h : s.joins sh = true) :
    ∃ p, s.shelves[sh].state.nominee? = some p ∧ (s.unheldShelf sh).state = .queued p := by
  obtain ⟨hd, hn⟩ := Bool.and_eq_true_iff.mp h
  obtain ⟨p, hp⟩ := Option.isSome_iff_exists.mp hn
  refine ⟨p, hp, ?_⟩
  rw [unheldShelf_state, hp, if_neg fun e => by rw [Option.isNone_iff_eq_none.mp e] at hd; cases hd]

/-- A shelf after the release and after units were lent: it may have gone from QUEUED to ACQUIRE (R82, R87). -/
theorem unheldShelf_lent {x : ShelfId} (hc : Consequences s t) (hs : t.shelves[x] = s.unheldShelf x)
    (h : v.shelves[x] = t.shelves[x] ∨ Lent t v x) :
    v.shelves[x] = { s.unheldShelf x with state := v.shelves[x].state, valid := v.shelves[x].valid } ∧
      (v.shelves[x].state = (s.unheldShelf x).state ∨
        ∃ p, (s.unheldShelf x).state = .queued p ∧ v.shelves[x].state = .acquire p (s.settleMs x)) := by
  rcases h with e | e
  · rw [e, hs]
    exact ⟨rfl, .inl rfl⟩
  · have hchanged : (s.unheldShelf x).changed = true := by
      unfold State.unheldShelf State.releasedShelf
      split <;> rfl
    obtain ⟨-, ⟨b, hb, hv⟩ | ⟨c, b, cause, hb, -⟩⟩ := e.cases
    · rw [hs] at hb hv
      rw [hv]
      refine ⟨by rw [← hchanged], .inr ⟨b, hb, ?_⟩⟩
      show ShelfState.acquire b (t.settleMs x) = _
      rw [hc.settleMs]
    · rw [hs, unheldShelf_state] at hb
      split at hb
      · cases hb
      · split at hb <;> cases hb

/-- What leaving HELD raises is what the shelf's state raises once units are lent (R78). -/
theorem unheldRaises_eq {x : ShelfId} (hh : s.shelves[x].state.isHeld = true) {st : ShelfState}
    (h : st = (s.unheldShelf x).state ∨ ∃ p, (s.unheldShelf x).state = .queued p ∧ st = .acquire p (s.settleMs x)) (k : DomainEvent) :
    s.unheldRaises x k = shelfRaises s.shelves[x].state st
      (s.shelves[x].steering != .auto && (s.unheldShelf x).steering == .auto) k := by
  unfold State.unheldRaises
  rcases h with rfl | ⟨p, hp, rfl⟩
  · rfl
  · rw [hp, held_nominee hh]
    cases k <;> rfl

theorem Raises.lent_quiet {E : DomainId → DomainEvent → Prop} (h : Raises s t E) (hl : Lending t v)
    (hq : ∀ x : ShelfId, t.shelves[x].state.isLocked = true → x ∉ t.queue) : Raises s v E := by
  refine (h.trans hl.events).congr fun d k => ⟨fun e => e.resolve_right ?_, .inl⟩
  rintro ⟨x, -, hr⟩
  rcases hl.shelves x with e | e
  · rw [e, shelfRaises_self] at hr
    cases hr
  · exact hq x ((e.raises k).mp hr).2 e.1

end

/-- The shelves leave HELD and units are lent: the release of R87 and R133. -/
theorem releases_releaseShelves {s t : State} (hh : ∀ x : ShelfId, s.shelves[x].state.isHeld = true) (hq : s.queue = [])
    (hu : ∀ a : UnitId, s.units[a] = none) (hk : ShelvesKept s.releaseShelves t) : Releases s t := by
  have hun := unheld_releaseShelves (List.finRange 48) (List.nodup_finRange 48) s fun x _ => hh x
  obtain ⟨ku, kq, ke, kk⟩ := hk
  unfold State.releaseShelves at ku kq ke kk
  generalize (List.finRange 48).foldl State.releaseShelf s = w at hun ku kq ke kk
  have hqueue : w.queue = (List.finRange 48).filter s.joins := by rw [hun.queue, hq, List.nil_append]
  have hshelf : ∀ x : ShelfId, w.shelves[x] = s.unheldShelf x := fun x => by
    rw [hun.shelves, if_pos (List.mem_finRange x)]
  have hstate : ∀ x : ShelfId, x ∈ w.queue → ∃ p, w.shelves[x].state = .queued p := fun x hx => by
    rw [hqueue] at hx
    obtain ⟨p, -, hp⟩ := unheldShelf_joins (List.mem_filter.mp hx).2
    exact ⟨p, by rw [hshelf, hp]⟩
  have hlend := lend_lending w
  obtain ⟨hlq, hlu⟩ := lend_fills (s := w) (fun a => by rw [hun.units, hu])
    (by rw [hqueue]; exact (List.nodup_finRange 48).filter _)
    (fun x hx => by obtain ⟨p, hp⟩ := hstate x hx; rw [hp]; rfl)
  have hrow : ∀ x : ShelfId, w.lend.shelves[x] = { s.unheldShelf x with
        state := w.lend.shelves[x].state, valid := w.lend.shelves[x].valid } ∧
      (w.lend.shelves[x].state = (s.unheldShelf x).state ∨
        ∃ p, (s.unheldShelf x).state = .queued p ∧ w.lend.shelves[x].state = .acquire p (s.settleMs x)) := fun x =>
    unheldShelf_lent hun.conseq (hshelf x) (hlend.shelves x)
  have hnotHeld : ∀ x : ShelfId, w.lend.shelves[x].state.isHeld = false := fun x => by
    rcases (hrow x).2 with e | ⟨p, -, e⟩
    · rw [e, unheldShelf_state]
      split
      · rfl
      · split <;> rfl
    · rw [e]
      rfl
  have hstateKept : ∀ x : ShelfId, t.shelves[x].state = w.lend.shelves[x].state := fun x =>
    (kk x).state_of_not_held (hnotHeld x)
  have hfields : ∀ x : ShelfId, t.shelves[x].steering = (s.unheldShelf x).steering ∧
      t.shelves[x].learned = s.shelves[x].learned ∧ t.shelves[x].lastCause = some .release ∧ t.shelves[x].changed = true := by
    intro x
    obtain ⟨k1, k2, k3, k4⟩ := (kk x).fields
    have hx := (hrow x).1
    rw [k1, k2, k3, k4, hx]
    unfold State.unheldShelf State.releasedShelf
    split <;> exact ⟨rfl, rfl, rfl, rfl⟩
  have hevents : Raises s w.lend fun d k => ∃ x : ShelfId, s.shelfDomain x = some d ∧ s.unheldRaises x k = true := by
    refine (hun.events.lent_quiet hlend fun x hx hm => ?_).congr fun d k => by simp
    obtain ⟨p, hp⟩ := hstate x hm
    rw [hp] at hx
    cases hx
  refine ⟨?_, fun a => ?_, fun sh => ?_, fun d k => ?_⟩
  · rw [kq, hlq, hqueue]
    rfl
  · rw [ku, hlu, hqueue]
    rfl
  · obtain ⟨hsteer, hlearned, hcause, hchanged⟩ := hfields sh
    have hst := hstateKept sh
    have hcases := (hrow sh).2
    rw [← hst, unheldShelf_state] at hcases
    refine ⟨hcause, hchanged, fun hd => ?_, fun hd hn => ?_, fun p hd hp => ?_, fun p hd hp => ?_, hlearned, fun ha => ?_,
      fun p hp => ?_⟩
    · rw [hd] at hcases
      exact hcases.elim id fun e => by obtain ⟨p, h1, -⟩ := e; cases h1
    · rw [if_neg (by simpa using hd), hn] at hcases
      exact hcases.elim id fun e => by obtain ⟨p, h1, -⟩ := e; cases h1
    · rw [if_neg (by simpa using hd), hp] at hcases
      refine hcases.imp id fun e => ?_
      obtain ⟨q, h1, h2⟩ := e
      cases h1
      exact h2
    · rw [hsteer]
      unfold State.unheldShelf State.releasedShelf State.releasedSteering
      rw [if_neg (by simpa using hd), hp]
    · rw [hsteer]
      unfold State.unheldShelf State.releasedShelf State.releasedSteering
      split
      · exact ha
      · rw [ha]
    · rw [hsteer]
      unfold State.unheldShelf State.releasedShelf State.releasedSteering
      split
      · exact hp
      · rw [hp]
  · have hdk := hevents d k
    have hlatched : t.latched d k = w.lend.latched d k ∧ t.masked d k = w.lend.masked d k := by
      unfold State.latched State.masked
      rw [ke]
      exact ⟨rfl, rfl⟩
    rw [hlatched.1, hlatched.2]
    refine ⟨hdk.1, hdk.2.trans (or_congr_right (and_congr_right fun _ => exists_congr fun x => and_congr_right fun _ => ?_))⟩
    rw [unheldRaises_eq (hh x) (hrow x).2, (hfields x).1, hstateKept]

section
variable {s t : State}

/-- A release tells nothing of the ports and of the part set: it may start from a part that differs in them alone. -/
theorem Releases.of_shelves {u : State} (h : Releases u t) (hs : u.shelves = s.shelves) (hc : u.current = s.current)
    (hd : u.domains = s.domains) (he : u.domainEvents = s.domainEvents) : Releases s t := by
  unfold Releases EventsOfMoves at h ⊢
  unfold State.settleMs State.shelfRecord State.shelfDomain State.masked State.latched at h ⊢
  rwa [hs, hc, hd, he] at h

end

/-- Settles O8. -/
theorem releaseMovesEveryShelfOutOfHeld : Obligations.ReleaseMovesEveryShelfOutOfHeld := by
  intro cp s h
  refine ⟨fun hp => ?running, fun hp hsound hq hu => ?held⟩
  case running =>
    refine exec_active (r := .release) (reply := Reply.plain .noChange) rfl h (by simp) ?_
    rw [State.carryOut, State.doRelease, if_pos hp]
  case held =>
    have hans : s.carryOut cp .release = (State.refresh s s.release, Reply.ok (State.refresh s s.release).releaseCounts) := by
      rw [State.carryOut, State.doRelease, if_neg (by rw [hp]; exact nofun)]
    have henter : Consequences
        { s with
          phase := .running, ports := (s.enterPhase .running).ports, partEvents := s.partEvents.raise .phase } s.release := (moves_releaseShelves (s.enterPhase .running)).consequences
    have hcons := henter.trans (refresh_consequences s s.release)
    obtain ⟨hexec, hanswers, hreq⟩ := exec_changed (i := .release cp) rfl h (by simp) hans hcons
    have hports : ∀ p : PortId, (State.refresh s s.release).ports[p] =
        { s.ports[p] with window := (State.refresh s s.release).ports[p].window } := fun p => by
      have hr : (State.refresh s s.release).ports[p] = s.ports[p].syncWindow !s.osc.latch := by
        rw [(refresh_consequences s s.release).ports, release_port]
      rw [hr]
      rfl
    have hrel : Releases (s.enterPhase .running) (State.refresh s s.release) :=
      releases_releaseShelves (fun x => (hsound x).mpr (by rw [hp]; exact nofun)) hq hu (refresh_shelvesKept s s.release)
    have hpc := hcons.ports
    generalize State.refresh s s.release = t at hexec hanswers hreq hports hrel hpc
    refine ⟨_, hexec, ?_, ?_, fun p => ?_, ?_⟩
    · rw [answered_shelves]
      exact hanswers
    · rw [answered_ports, hpc]
      exact hreq
    · rw [answered_ports]
      exact hports p
    · have hs := hrel.of_shelves (s := s) rfl rfl rfl rfl
      unfold Releases EventsOfMoves State.latched State.masked at hs ⊢
      rwa [answered_queue, answered_units, answered_shelves, answered_domainEvents]

end Sys2Proof.Machine
end

section
/-!
PROOFS. The end of a check (R114 to R118, R183): what the outcome makes of the latch, of the phase and of the shelves.
-/

namespace Sys2Proof.Machine

section
variable {s t u v : State} {m : Int}

/-! ## The outcome judged -/

/-- The monitor's record as a check ends. -/
def Oscillator.ended (o : Oscillator) (outcome : CheckOutcome) (difference : Option Int) : Oscillator :=
  { o with check := none, lastOutcome := some outcome, lastCheckDiff := difference }

/-- The part with a PASS or FAIL applied to the latch, before CHECK_DONE is raised (R118). -/
def State.checkJudged (s : State) (outcome : CheckOutcome) (difference : Option Int) : State :=
  match outcome with
  | .pass => if s.osc.latch then (s.setOsc (s.osc.ended .pass difference)).clearLatch else s.setOsc (s.osc.ended .pass difference)
  | .fail => (s.setOsc (s.osc.ended .fail difference)).setLatch .check
  | .inconclusive => s.setOsc (s.osc.ended .inconclusive difference)

theorem endCheck_eq (s : State) (outcome : CheckOutcome) (difference : Option Int) :
    s.endCheck outcome difference =
      if s.phase = .init then ((s.checkJudged outcome difference).raisePart .checkDone).endInit outcome
      else (s.checkJudged outcome difference).raisePart .checkDone := by
  cases outcome <;> rfl

theorem checkJudged_osc (s : State) (d : Option Int) :
    (s.checkJudged .pass d).osc = { s.osc with check := none, lastOutcome := some .pass, lastCheckDiff := d, latch := false } ∧
      (s.checkJudged .fail d).osc =
        { s.osc with check := none, lastOutcome := some .fail, lastCheckDiff := d, latch := true, source := some .check } := by
  refine ⟨?_, setLatch_osc _ _⟩
  unfold State.checkJudged
  cases h : s.osc.latch with
  | true => rfl
  | false =>
    show s.osc.ended .pass d = _
    rw [← h]
    rfl

theorem checkJudged_phase (s : State) (o : CheckOutcome) (d : Option Int) : (s.checkJudged o d).phase = s.phase := by
  unfold State.checkJudged
  cases o with
  | pass =>
    dsimp only
    split <;> rfl
  | fail => exact setLatch_phase _ _
  | inconclusive => rfl

theorem checkJudged_straps (s : State) (o : CheckOutcome) (d : Option Int) : (s.checkJudged o d).straps = s.straps := by
  unfold State.checkJudged
  cases o with
  | pass =>
    dsimp only
    split <;> rfl
  | fail =>
    have h := monitorOnly_setLatch (s.setOsc (s.osc.ended .fail d)) .check
    unfold MonitorOnly at h
    dsimp only
    rw [h]
    rfl
  | inconclusive => rfl

/-- The part event of the latch: OSC_FAULT where a FAIL sets it (R115). -/
theorem checkJudged_partEvents (s : State) (d : Option Int) :
    (s.checkJudged .pass d).partEvents = s.partEvents ∧
      (s.checkJudged .fail d).partEvents =
        if s.osc.latch = false then s.partEvents.raise .oscFault else s.partEvents := by
  refine ⟨?_, ?_⟩
  · unfold State.checkJudged
    dsimp only
    split <;> rfl
  · unfold State.checkJudged
    dsimp only
    by_cases h : s.osc.latch = false
    · rw [if_pos h, setLatch_partEvents (by exact h)]
      rfl
    · rw [if_neg h, setLatch_set (by exact Bool.not_eq_false _ ▸ h)]
      rfl

/-- Where no port is distrusted a check's outcome bears on the windows alone (R4, R116). -/
theorem checkJudged_port (s : State) (d : Option Int) (p : PortId) :
    (s.checkJudged .pass d).ports[p] =
        (if s.osc.latch = true then s.ports[p].syncWindow (s.phase != .init) else s.ports[p]) ∧
      (s.osc.latch = true → (s.checkJudged .fail d).ports[p] = s.ports[p]) := by
  refine ⟨?_, fun h => ?_⟩
  · unfold State.checkJudged
    dsimp only
    by_cases h : s.osc.latch = true
    · rw [if_pos h, if_pos h, clearLatch_port]
      rfl
    · rw [if_neg h, if_neg h]
      rfl
  · unfold State.checkJudged
    dsimp only
    rw [setLatch_set (by exact h)]
    rfl

/-! ## The end of INIT -/

theorem endInit_osc (s : State) (o : CheckOutcome) : (s.endInit o).osc = s.osc := by
  unfold State.endInit
  split
  · exact (moves_releaseShelves (s.enterPhase .running)).consequences.osc
  · rfl

theorem endInit_phase (s : State) (o : CheckOutcome) :
    (s.endInit o).phase = if (o = .pass && !s.straps.holdMode) = true then .running else .held := by
  unfold State.endInit
  split
  · exact (moves_releaseShelves (s.enterPhase .running)).consequences.phase
  · rfl

theorem endInit_partEvents (s : State) (o : CheckOutcome) : (s.endInit o).partEvents = s.partEvents.raise .phase := by
  unfold State.endInit
  split
  · exact (moves_releaseShelves (s.enterPhase .running)).consequences.partEvents
  · rfl

theorem endInit_port (s : State) (o : CheckOutcome) (p : PortId) :
    (s.endInit o).ports[p] = s.ports[p].syncWindow !s.osc.latch := by
  unfold State.endInit
  split
  · exact release_port s p
  · rw [enterPhase_port]
    rfl

/-! ## What the part is once a check has ended -/

/-- The outcome of a check with this difference. -/
def outcomeOf (d : Int) : CheckOutcome := if |d| ≤ 2000 then .pass else .fail

theorem completeCheck_eq (u : State) (m : Int) :
    u.completeCheck m = u.endCheck (outcomeOf (roundOffset m)) (some (roundOffset m)) := by
  unfold State.completeCheck outcomeOf
  by_cases h : |roundOffset m| ≤ 2000
  · rw [if_pos (passes_iff.mpr h), if_pos h]
  · rw [if_neg (passes_iff.not.mpr h), if_neg h]

theorem completeCheck_osc (u : State) (m : Int) :
    (u.completeCheck m).osc = { u.osc with
      check := none, lastCheckDiff := some (roundOffset m),
      lastOutcome := some (if |roundOffset m| ≤ 2000 then .pass else .fail),
      latch := decide (2000 < |roundOffset m|),
      source := if |roundOffset m| ≤ 2000 then u.osc.source else some .check } := by
  have hjudged : (u.completeCheck m).osc = (u.checkJudged (outcomeOf (roundOffset m)) (some (roundOffset m))).osc := by
    rw [completeCheck_eq, endCheck_eq]
    split
    · rw [endInit_osc]
      rfl
    · rfl
  obtain ⟨hpass, hfail⟩ := checkJudged_osc u (some (roundOffset m))
  rw [hjudged]
  unfold outcomeOf
  by_cases h : |roundOffset m| ≤ 2000
  · rw [if_pos h, if_pos h, hpass, decide_eq_false (not_lt.mpr h)]
  · rw [if_neg h, if_neg h, hfail, decide_eq_true (not_le.mp h)]

theorem outcomeOf_pass {d : Int} : outcomeOf d = .pass ↔ |d| ≤ 2000 := by
  unfold outcomeOf
  split
  · next h => exact ⟨fun _ => h, fun _ => rfl⟩
  · next h => exact ⟨nofun, fun e => absurd e h⟩

theorem completeCheck_phase (u : State) (m : Int) :
    (u.completeCheck m).phase = if u.phase = .init then
      (if |roundOffset m| ≤ 2000 ∧ u.straps.holdMode = false then .running else .held) else u.phase := by
  rw [completeCheck_eq, endCheck_eq]
  by_cases h : u.phase = .init
  · rw [if_pos h, if_pos h, endInit_phase, raisePart_straps, checkJudged_straps]
    refine if_congr ?_ rfl rfl
    simp only [Bool.and_eq_true, decide_eq_true_eq, Bool.not_eq_true', outcomeOf_pass]
  · rw [if_neg h, if_neg h, raisePart_phase, checkJudged_phase]

theorem completeCheck_partEvents (u : State) (m : Int) :
    (u.completeCheck m).partEvents.mask = u.partEvents.mask ∧
      (u.completeCheck m).partEvents.latched = (u.partEvents.latched ||| (~~~u.partEvents.mask &&&
        (PartEvent.checkDone.bit ||| ((if u.phase = .init then PartEvent.phase.bit else 0) |||
          (if 2000 < |roundOffset m| ∧ u.osc.latch = false then PartEvent.oscFault.bit else 0))))) := by
  obtain ⟨hpass, hfail⟩ := checkJudged_partEvents u (some (roundOffset m))
  have hjudged : (u.checkJudged (outcomeOf (roundOffset m)) (some (roundOffset m))).partEvents =
      if 2000 < |roundOffset m| ∧ u.osc.latch = false then u.partEvents.raise .oscFault else u.partEvents := by
    unfold outcomeOf
    by_cases h : |roundOffset m| ≤ 2000
    · rw [if_pos h, hpass, if_neg fun e => absurd h (not_le.mpr e.1)]
    · rw [if_neg h, hfail]
      exact if_congr ⟨fun e => ⟨not_le.mp h, e⟩, fun e => e.2⟩ rfl rfl
  have hall : (u.completeCheck m).partEvents =
      if u.phase = .init then ((u.checkJudged (outcomeOf (roundOffset m)) (some (roundOffset m))).partEvents.raise
        .checkDone).raise .phase
      else (u.checkJudged (outcomeOf (roundOffset m)) (some (roundOffset m))).partEvents.raise .checkDone := by
    rw [completeCheck_eq, endCheck_eq]
    split
    · exact endInit_partEvents _ _
    · rfl
  rw [hall, hjudged]
  generalize u.partEvents = e
  by_cases hi : u.phase = .init <;> by_cases hf : 2000 < |roundOffset m| ∧ u.osc.latch = false
  all_goals
    simp only [hi, hf, if_true, if_false, PartSet.raise, true_and]
    ext i
    simp
    grind

/-- The windows once a check has ended that distrusts no port (R4, R116, R182). -/
theorem completeCheck_port (h : |roundOffset m| ≤ 2000 ∨ u.osc.latch = true) (p : PortId) :
    (u.completeCheck m).ports[p] = { u.ports[p] with
      window := if u.phase = .init ∨ u.osc.latch ≠ (u.completeCheck m).osc.latch then
          (if u.ports[p].setup.enabled = true ∧ u.ports[p].activity = true ∧ (u.completeCheck m).osc.latch = false then
            some (if u.phase = .init ∧ u.osc.latch = true then 0 else u.ports[p].window.getD 0) else none)
        else u.ports[p].window } := by
  have hlatch : (u.completeCheck m).osc.latch = decide (2000 < |roundOffset m|) := by rw [completeCheck_osc]
  have hjudged : (u.checkJudged (outcomeOf (roundOffset m)) (some (roundOffset m))).osc.latch =
      decide (2000 < |roundOffset m|) := by
    obtain ⟨hpass, hfail⟩ := checkJudged_osc u (some (roundOffset m))
    unfold outcomeOf
    by_cases h : |roundOffset m| ≤ 2000
    · rw [if_pos h, hpass, decide_eq_false (not_lt.mpr h)]
    · rw [if_neg h, hfail, decide_eq_true (not_le.mp h)]
  obtain ⟨hpass, hfail⟩ := checkJudged_port u (some (roundOffset m)) p
  have hports : (u.completeCheck m).ports[p] =
      if u.phase = .init then (u.checkJudged (outcomeOf (roundOffset m)) (some (roundOffset m))).ports[p].syncWindow
        !decide (2000 < |roundOffset m|)
      else (u.checkJudged (outcomeOf (roundOffset m)) (some (roundOffset m))).ports[p] := by
    rw [completeCheck_eq, endCheck_eq, ← hjudged]
    split
    · exact endInit_port _ _ p
    · rfl
  rw [hlatch, hports]
  by_cases hle : |roundOffset m| ≤ 2000
  · have hout : outcomeOf (roundOffset m) = .pass := outcomeOf_pass.mpr hle
    rw [hout, hpass, decide_eq_false (not_lt.mpr hle)]
    generalize u.ports[p] = r
    unfold Port.syncWindow
    by_cases hi : u.phase = .init <;> cases hl : u.osc.latch <;> simp [hi]
  · have hl := h.resolve_left hle
    have hout : outcomeOf (roundOffset m) = .fail := if_neg hle
    rw [hout, hfail hl, decide_eq_true (not_le.mp hle), hl]
    generalize u.ports[p] = r
    unfold Port.syncWindow
    by_cases hi : u.phase = .init <;> simp [hi]

/-! ## The shelves once a check has ended -/

theorem completeCheck_distrusts (h : 2000 < |roundOffset m|) (hl : u.osc.latch = false) :
    Distrusts u (u.completeCheck m) := by
  have hd : Distrusts u (u.checkJudged .fail (some (roundOffset m))) :=
    (distrusts_setLatch (s := u.setOsc (u.osc.ended .fail (some (roundOffset m)))) hl .check).of_setOsc
  have hout : outcomeOf (roundOffset m) = .fail := if_neg (not_le.mpr h)
  rw [completeCheck_eq, endCheck_eq, hout]
  generalize u.checkJudged .fail (some (roundOffset m)) = w at hd
  have hlater : ∀ t : State, t.osc = w.osc → (∀ p : PortId, t.ports[p] = w.ports[p]) →
      t = { w with osc := t.osc, phase := t.phase, ports := t.ports, partEvents := t.partEvents } → Distrusts u t := by
    intro t hosc hports ht
    obtain ⟨e, hs, hp⟩ := hd.events
    refine ⟨by rw [hosc]; exact hd.latch, fun p => (hports p).trans (hd.ports p), fun sh => ?_, ?_, ?_, ?_, ?_, ?_, ?_, ?_, e, hs,
      hp.of_events rfl (by rw [ht])⟩
    all_goals rw [ht]
    · exact hd.shelves sh
    · exact hd.units
    · exact hd.queue
    · exact hd.grades
    · exact hd.current
    · exact hd.domains
    · exact hd.lists
    · exact hd.cells
  split
  · refine hlater _ (endInit_osc _ _) (fun p => ?_) rfl
    rw [endInit_port, raisePart_osc, hd.latch]
    have hw : w.ports[p].window = none := by
      rw [hd.ports, (distrusted_fields u p).1]
    have hsync : w.ports[p].syncWindow (!true) = w.ports[p] := by
      generalize w.ports[p] = r at hw
      unfold Port.syncWindow
      rw [Bool.not_true, Bool.and_false, if_neg Bool.false_ne_true, ← hw]
    exact hsync
  · exact hlater _ rfl (fun _ => rfl) rfl

/-- The monitor has moved no shelf and raised nothing in a domain. -/
def QuietMonitor (s t : State) : Prop :=
  t = { s with osc := t.osc, phase := t.phase, ports := t.ports, partEvents := t.partEvents }

theorem QuietMonitor.trans (h : QuietMonitor s t) (k : QuietMonitor t u) : QuietMonitor s u := by
  unfold QuietMonitor at h k ⊢
  rw [k, h]

theorem checkJudged_quiet {o : CheckOutcome} (h : o = .pass ∨ u.osc.latch = true) (d : Option Int) : QuietMonitor u (u.checkJudged o d) := by
  unfold State.checkJudged
  cases o with
  | pass =>
    dsimp only
    split <;> rfl
  | fail =>
    dsimp only
    rw [setLatch_set (by exact h.resolve_left nofun)]
    rfl
  | inconclusive => rfl

theorem outcomeOf_quiet (h : |roundOffset m| ≤ 2000 ∨ u.osc.latch = true) :
    outcomeOf (roundOffset m) = .pass ∨ u.osc.latch = true := h.imp_left outcomeOf_pass.mpr

/-- A check that distrusts no port and releases no shelf moves none. -/
theorem completeCheck_quiet (h : |roundOffset m| ≤ 2000 ∨ u.osc.latch = true)
    (hp : u.phase ≠ .init ∨ (u.completeCheck m).phase = .held) : QuietMonitor u (u.completeCheck m) := by
  have hj := checkJudged_quiet (outcomeOf_quiet h) (some (roundOffset m))
  rw [completeCheck_eq, endCheck_eq] at hp ⊢
  by_cases hi : u.phase = .init
  · rw [if_pos hi] at hp ⊢
    have hheld := hp.resolve_left (not_not.mpr hi)
    rw [endInit_phase] at hheld
    unfold State.endInit
    split
    · next hrel =>
      rw [if_pos hrel] at hheld
      cases hheld
    · exact hj.trans rfl
  · rw [if_neg hi]
    exact hj.trans rfl

theorem QuietMonitor.looksAlike (h : QuietMonitor s t)
    (hp : ∀ p : PortId, t.ports[p].state = s.ports[p].state ∧ t.ports[p].activity = s.ports[p].activity) :
    LooksAlike s t := by
  unfold QuietMonitor at h
  refine ⟨fun p => (hp p).1, fun p => (hp p).2, ?_, ?_, ?_, ?_, ?_⟩ <;> rw [h]

end

end Sys2Proof.Machine
end

section
/-!
PROOFS. CHECK_COMPLETE (R118, R183).
-/

namespace Sys2Proof.Machine

section
variable {s t u v : State} {m : Int}

/-- A part released after a check that passed looks alike to the engine (R67). -/
theorem release_looksAlike (s : State) : LooksAlike s s.release := by
  have hc : Consequences (s.enterPhase .running) s.release := (moves_releaseShelves (s.enterPhase .running)).consequences
  refine ⟨fun p => ?_, fun p => ?_, hc.grades, hc.current, hc.domains, hc.lists, hc.cells⟩ <;> rw [release_port] <;> rfl

theorem LooksAlike.trans (h : LooksAlike s t) (k : LooksAlike t u) : LooksAlike s u :=
  ⟨fun p => (k.state p).trans (h.state p), fun p => (k.activity p).trans (h.activity p), k.grades.trans h.grades,
    k.current.trans h.current, k.domains.trans h.domains, k.lists.trans h.lists, k.cells.trans h.cells⟩

theorem checkJudged_looksAlike (h : |roundOffset m| ≤ 2000 ∨ u.osc.latch = true) (d : Option Int) :
    LooksAlike u (u.checkJudged (outcomeOf (roundOffset m)) d) := by
  refine (checkJudged_quiet (outcomeOf_quiet h) d).looksAlike fun p => ?_
  obtain ⟨hpass, hfail⟩ := checkJudged_port u d p
  unfold outcomeOf
  by_cases hle : |roundOffset m| ≤ 2000
  · rw [if_pos hle, hpass]
    split <;> exact ⟨rfl, rfl⟩
  · rw [if_neg hle, hfail (h.resolve_left hle)]
    exact ⟨rfl, rfl⟩

theorem completeCheck_shelvesKept (h : |roundOffset m| ≤ 2000 ∨ u.osc.latch = true)
    (hp : u.phase ≠ .init ∨ (u.completeCheck m).phase = .held) (x : Ctx) :
    ShelvesKept u (State.commit u (u.completeCheck m) x) := by
  have hq := completeCheck_quiet h hp
  have halike : LooksAlike u (u.completeCheck m) := hq.looksAlike fun p => by
    rw [completeCheck_port h p]
    exact ⟨rfl, rfl⟩
  unfold QuietMonitor at hq
  exact halike.shelvesKept (by rw [hq]) (by rw [hq]) (by rw [hq]) (by rw [hq]) x

/-- The steering of a pinned shelf stays at a release (R133). -/
theorem release_pins (hh : ∀ x : ShelfId, s.shelves[x].state.isHeld = true) (sh : ShelfId) (p : PortId) :
    s.release.shelves[sh].steering = .pin p ↔ s.shelves[sh].steering = .pin p := by
  have hun := unheld_releaseShelves (List.finRange 48) (List.nodup_finRange 48) (s.enterPhase .running) fun x _ => hh x
  have hsteer : s.release.shelves[sh].steering = ((s.enterPhase .running).unheldShelf sh).steering := by
    rw [← if_pos (c := sh ∈ List.finRange 48) (List.mem_finRange sh) (t := (s.enterPhase .running).unheldShelf sh)
      (e := (s.enterPhase .running).shelves[sh]), ← hun.shelves]
    rcases (lend_lending _).shelves sh with e | e
    · exact congrArg Shelf.steering e
    · exact e.kept.1
  rw [hsteer]
  unfold State.unheldShelf State.releasedShelf State.releasedSteering
  have hsame : (s.enterPhase .running).shelves[sh] = s.shelves[sh] := rfl
  rw [hsame]
  split
  · rfl
  · generalize s.shelves[sh] = r
    cases hr : r.steering with
    | steer q =>
      dsimp only
      split <;> simp
    | auto => simp
    | pin q => simp

/-- The initial check that passes releases the shelves (R87, R183). -/
theorem completeCheck_releases (h : |roundOffset m| ≤ 2000) (hm : u.straps.holdMode = false) (hp : u.phase = .init)
    (hs : u.phaseSound) (hq : u.queue = []) (hu : ∀ v : UnitId, u.units[v] = none) (x : Ctx) :
    Releases u (State.commit u (u.completeCheck m) x) := by
  have hout : outcomeOf (roundOffset m) = .pass := outcomeOf_pass.mpr h
  have halike := checkJudged_looksAlike (u := u) (.inl h) (some (roundOffset m))
  have hquiet := checkJudged_quiet (u := u) (.inl hout) (some (roundOffset m))
  have hheld : ∀ sh : ShelfId, u.shelves[sh].state.isHeld = true := fun sh => (hs sh).mpr (by rw [hp]; exact nofun)
  have heq : u.completeCheck m =
      ((u.checkJudged (outcomeOf (roundOffset m)) (some (roundOffset m))).raisePart .checkDone).release := by
    rw [completeCheck_eq, endCheck_eq, if_pos hp, State.endInit, if_pos]
    rw [raisePart_straps, checkJudged_straps, hm, hout]
    rfl
  rw [heq]
  generalize u.checkJudged (outcomeOf (roundOffset m)) (some (roundOffset m)) = w at halike hquiet
  have hw : w.shelves = u.shelves ∧ w.units = u.units ∧ w.queue = u.queue ∧ w.domainEvents = u.domainEvents := by
    unfold QuietMonitor at hquiet
    rw [hquiet]
    exact ⟨rfl, rfl, rfl, rfl⟩
  obtain ⟨hshelves, hunits, hqueue, hevents⟩ := hw
  have hwheld : ∀ sh : ShelfId, (w.raisePart .checkDone).shelves[sh].state.isHeld = true := fun sh => by
    rw [raisePart_shelves, hshelves]
    exact hheld sh
  have hall : LooksAlike u (w.raisePart .checkDone).release :=
    (halike.trans (u := w.raisePart .checkDone) (SameInputs.looksAlike ⟨rfl, rfl, rfl, rfl, rfl, rfl⟩)).trans
      (release_looksAlike _)
  rw [hall.commit (fun sh p => by rw [release_pins hwheld, raisePart_shelves, hshelves])]
  have hrel := releases_releaseShelves (s := (w.raisePart .checkDone).enterPhase .running) hwheld
    (hqueue.trans hq) (fun a => by
      have ha : ((w.raisePart .checkDone).enterPhase .running).units[a] = w.units[a] := rfl
      rw [ha, hunits, hu])
    (refresh_shelvesKept u (w.raisePart .checkDone).release)
  exact hrel.of_shelves hshelves halike.current halike.domains hevents

end

/-- Settles O27. -/
theorem checkOutcomeDecidesLatchAndPhase : Obligations.CheckOutcomeDecidesLatchAndPhase := by
  intro m s u hr
  refine ⟨fun hnone => ?_, ?_⟩
  · show execCheckComplete m s = _
    rw [execCheckComplete, live_of_not_inReset s _ hr]
    simp only [hnone]
  rintro left hcheck rfl
  have hexec : exec (.checkComplete m) s = .next (State.commit (s.elapse left)
      ((s.elapse left).completeCheck m) Ctx.ranking) := by
    show execCheckComplete m s = _
    rw [execCheckComplete, live_of_not_inReset s _ hr]
    simp only [hcheck]
    rfl
  generalize s.elapse left = u at hexec ⊢
  have hc := commit_consequences u (u.completeCheck m) Ctx.ranking
  have hosc := hc.osc.trans (completeCheck_osc u m)
  have hphase := hc.phase.trans (completeCheck_phase u m)
  obtain ⟨hmask, hlatched⟩ := completeCheck_partEvents u m
  rw [← hc.partEvents] at hmask hlatched
  have hmon : Consequences
      { u with
        osc := (u.completeCheck m).osc, phase := (u.completeCheck m).phase, ports := (u.completeCheck m).ports,
        partEvents := (u.completeCheck m).partEvents }
      (State.commit u (u.completeCheck m) Ctx.ranking) := by
    refine MonitorOnly.commit ?_ Ctx.ranking
    rw [completeCheck_eq]
    exact monitorOnly_endCheck _ _ _
  rw [← hc.osc, ← hc.phase, ← hc.ports, ← hc.partEvents] at hmon
  have hport := fun h p => completeCheck_port (u := u) (m := m) h p
  have htakes := fun h hl => (completeCheck_distrusts (u := u) (m := m) h hl).latchTakesEffect
  have hkept := fun h hp => completeCheck_shelvesKept (u := u) (m := m) h hp Ctx.ranking
  have hrel := fun h hm hp hs hq hu => completeCheck_releases (u := u) (m := m) h hm hp hs hq hu Ctx.ranking
  rw [← hc.osc, ← hc.ports] at hport
  rw [← hc.phase] at hkept
  generalize State.commit u (u.completeCheck m) Ctx.ranking = t
    at hexec hosc hphase hmask hlatched hmon hport htakes hkept hrel
  clear hc
  have hbit : ∀ k : PartEvent, u.partMasked k = false → t.partLatched k = (u.partEvents.latched |||
      (~~~u.partEvents.mask &&& (PartEvent.checkDone.bit ||| ((if u.phase = .init then PartEvent.phase.bit else 0) |||
        (if 2000 < |roundOffset m| ∧ u.osc.latch = false then PartEvent.oscFault.bit else 0))))).getLsbD (partPlace k) :=
    fun k _ => by rw [State.partLatched, mem_partSet, hlatched]
  have hmasked : ∀ k : PartEvent, u.partMasked k = false → u.partEvents.mask.getLsbD (partPlace k) = false := fun k h => by
    rw [State.partMasked, mem_partSet] at h
    exact h
  have hplace : ∀ k : PartEvent, k.bit.getLsbD (partPlace k) = true := fun k => by cases k <;> decide
  refine ⟨t, hexec, ?_, ?_, fun h => ?_, fun h => ?_, fun h => ?_, fun h => ?_, fun h => ⟨?_, fun hm => ?_⟩, hosc, hmon, hmask,
    hlatched, hport, htakes, hkept, hrel⟩
  · rw [hosc]
  · rw [hosc]
  · rw [hbit _ h]
    simp only [BitVec.getLsbD_or, BitVec.getLsbD_and, BitVec.getLsbD_not, hmasked _ h, hplace, partPlace_lt, decide_true,
      Bool.not_false, Bool.true_or, Bool.and_self, Bool.or_true]
  · rw [hosc, if_pos h, if_pos h, decide_eq_false (not_lt.mpr h)]
    exact ⟨rfl, rfl, rfl⟩
  · rw [hosc, if_neg (not_le.mpr h), if_neg (not_le.mpr h), decide_eq_true h]
    exact ⟨rfl, rfl, rfl⟩
  · rw [hphase, if_neg h]
  · rw [hphase, if_pos h]
  · rw [hbit _ hm, if_pos h]
    simp only [BitVec.getLsbD_or, BitVec.getLsbD_and, BitVec.getLsbD_not, hmasked _ hm, hplace, partPlace_lt, decide_true,
      Bool.not_false, Bool.true_or, Bool.and_self, Bool.or_true]

end Sys2Proof.Machine
end

section
/-!
PROOFS. Transactions (R163, R164, R169, R170, R188), and the reset pin and power-on (R180, R181).
-/

namespace Sys2Proof.Machine

section
variable {s : State} {cp : ControlPort}

theorem setCpi_setCpi (s : State) (cp : ControlPort) (c c' : Cpi) : (s.setCpi cp c).setCpi cp c' = s.setCpi cp c' := by
  cases cp <;> rfl

theorem setCpi_self (s : State) (cp : ControlPort) : s.setCpi cp (s.cpi cp) = s := by
  cases cp <;> rfl

theorem shiftOut_nil (n : Nat) : shiftOut [] n = List.replicate n 0xFF := by simp [shiftOut]

/-- A transaction that shifts out nothing of a reply shifts out 0xFF after the status byte (R170). -/
theorem shift_nil (s : State) (cp : ControlPort) (n : Nat) :
    s.shift cp [] n =
      s.setCpi cp { s.cpi cp with shifted := s.statusByte cp :: List.replicate n 0xFF, shiftedBits := [] } := by
  rw [State.shift, shiftOut_nil]

theorem resync_eq (s : State) (cp : ControlPort) (n : Nat) :
    s.resync cp n = s.setCpi cp { s.cpi cp with
      receiver := [], shifted := s.statusByte cp :: List.replicate n 0xFF, shiftedBits := [] } := by
  rw [State.resync, shift_nil]
  simp only [setCpi_cpi_self, setCpi_setCpi]

theorem replyRead_reply {f : List Byte} (h : (s.cpi cp).stage = .reply f) (n : Nat) :
    s.replyRead cp n = s.setCpi cp { s.cpi cp with
      receiver := [], frameDropped := false, shiftedBits := [],
      shifted := s.statusByte cp :: (f.take n ++ List.replicate (n - f.length) 0xFF) } := by
  unfold State.replyRead
  rw [h]
  dsimp only
  unfold State.shift
  simp only [setCpi_cpi_self, setCpi_setCpi, shiftOut]

theorem replyRead_other (h : ∀ f, (s.cpi cp).stage ≠ .reply f) (n : Nat) : s.replyRead cp n = s.resync cp n := by
  unfold State.replyRead
  split
  · next f hf => exact absurd hf (h f)
  · rfl

/-- The status byte bit by bit (R188). -/
theorem statusByte_eq (s : State) (cp : ControlPort) : s.statusByte cp =
    0x80#8 ||| ((match s.phase with | .init => 0x00#8 | .held => 0x10#8 | .running => 0x20#8) |||
      ((if (s.cpi cp).frameDropped then 0x08#8 else 0x00#8) ||| ((if s.active = cp then 0x04#8 else 0x00#8) |||
        (match (s.cpi cp).stage with | .idle => 0x00#8 | .working _ => 0x01#8 | .reply _ => 0x02#8)))) := by
  unfold State.statusByte
  have hactive : ∀ b : Bool, ∀ p : PartPhase, ∀ c : Bool, ∀ n : Fin 3,
      byte (0x80 + (phaseCode p).toNat * 16 + (if b then 8 else 0) + (if c then 4 else 0) + n.val) =
      0x80#8 ||| ((match p with | .init => 0x00#8 | .held => 0x10#8 | .running => 0x20#8) |||
        ((if b then 0x08#8 else 0x00#8) ||| ((if c then 0x04#8 else 0x00#8) |||
          (match n with | 0 => 0x00#8 | 1 => 0x01#8 | 2 => 0x02#8)))) := by
    intro b p c n
    cases b <;> cases p <;> cases c <;> revert n <;> decide
  have hcase := fun n => hactive (s.cpi cp).frameDropped s.phase (decide (s.active = cp)) n
  simp only [decide_eq_true_eq] at hcase
  cases (s.cpi cp).stage with
  | idle => exact hcase 0
  | working w => exact hcase 1
  | reply f => exact hcase 2

end

/-- Settles O49. -/
theorem transactionsShiftOutStatusAndReply : Obligations.TransactionsShiftOutStatusAndReply := by
  rintro cp n bytes s c hr rfl
  have hlive : ∀ (o : Byte) (b : List Byte), exec (.statusOnlyTransaction cp o b) s = .next (s.transaction cp o b) :=
    fun o b => by
      show execStatusOnlyTransaction cp o b s = _
      rw [execStatusOnlyTransaction, live_of_not_inReset s _ hr]
  have hwrite : ∀ b : List Byte, exec (.frameWrite cp b) s = .next (s.frameWrite cp b) := fun b => by
    show execFrameWrite cp b s = _
    rw [execFrameWrite, live_of_not_inReset s _ hr, transaction_frameWrite]
  have hread : ∀ k, exec (.replyRead cp k) s = .next (s.replyRead cp k) := fun k => by
    show execReplyRead cp k s = _
    rw [execReplyRead, live_of_not_inReset s _ hr, transaction_replyRead, fillerBytes_length]
  have hresync : ∀ k, exec (.resync cp k) s = .next (s.resync cp k) := fun k => by
    show execResync cp k s = _
    rw [execResync, live_of_not_inReset s _ hr, transaction_resync, fillerBytes_length]
  refine ⟨fun f h => ?_, fun h => ?_, ?_, fun o h1 h2 h3 hn => ?_, ?_, ?_, ?_, ?_, statusByte_eq s cp⟩
  · rw [hread, replyRead_reply h]
  · rw [hread, replyRead_other h, resync_eq]
  · rw [hresync, resync_eq]
  · rw [hlive, transaction_statusOnly s cp o bytes h1 h2 h3, hn, shift_nil]
  · rw [hlive, hwrite, transaction_frameWrite]
  · rw [hlive, hread, transaction_replyRead]
  · rw [hlive, hresync, transaction_resync]
  · show execVoidTransaction cp n s = _
    rw [execVoidTransaction, live_of_not_inReset s _ hr]
    rfl

/-- Settles O10. -/
theorem resetPinAndPowerOnGiveResetValues : Obligations.ResetPinAndPowerOnGiveResetValues := by
  intro pins s
  have hin : s.assertReset.inReset = true := rfl
  refine ⟨⟨s.assertReset, rfl, hin, fun line => ?_, fun sh => ⟨?_, ?_⟩, fun cp => ⟨?_, ?_⟩⟩, fun hp hi => ?_, fun hp hi => ?_,
    fun hp => ?_, fun hp => ?_, fun hp => ⟨{ s.assertReset with internalReset := false }, ?_, rfl, rfl⟩⟩
  · cases line with
    | none => rfl
    | some d => exact match d with
      | 0 | 1 | 2 | 3 => rfl
  · rw [State.clockLine, hin]
    rfl
  · rw [State.gradeLine, hin]
    rfl
  · rw [State.dataOut, hin]
    rfl
  · rw [State.dataOutBits, hin]
    rfl
  · show Host.Outcome.next (s.riseOfPin pins) = _
    rw [State.riseOfPin, hp, hi]
    rfl
  · show Host.Outcome.next (s.riseOfPin pins) = _
    rw [State.riseOfPin, hp, hi]
    rfl
  · show Host.Outcome.next (s.riseOfPin pins) = _
    rw [State.riseOfPin, hp]
    rfl
  · show Host.Outcome.next (s.powerUp pins) = _
    rw [State.powerUp, hp]
    rfl
  · show Host.Outcome.next (s.powerUp pins) = _
    rw [State.powerUp, hp]
    rfl

end Sys2Proof.Machine
end

section
/-!
PROOFS. HELD and the phase stay together (R86): only the release and a reset take a shelf out of HELD or put it there.
-/

namespace Sys2Proof.Machine

/-- No shelf enters or leaves HELD. -/
def HeldAlike (s t : State) : Prop := ∀ x : ShelfId, t.shelves[x].state.isHeld = s.shelves[x].state.isHeld

theorem HeldAlike.refl (s : State) : HeldAlike s s := fun _ => rfl

theorem HeldAlike.trans {s t u : State} (h : HeldAlike s t) (k : HeldAlike t u) : HeldAlike s u :=
  fun x => (k x).trans (h x)

section
variable {s t u v : State} {sh : ShelfId}

theorem heldAlike_of_shelves (h : t.shelves = s.shelves) : HeldAlike s t := fun x => by rw [h]

theorem Moved.heldAlike {K : List DomainEvent} (h : Moved s t sh K) : HeldAlike s t := fun x => by
  by_cases hx : x = sh
  · rw [hx]
    exact h.held
  · rcases h.others x hx with e | e
    · rw [e]
    · exact e.kept.2.2.1

theorem Acts.heldAlike (h : Acts s t sh) : HeldAlike s t := by
  obtain ⟨K, hm, -⟩ := h
  exact hm.heldAlike

theorem ShelvesKept.heldAlike (h : ShelvesKept s t) : HeldAlike s t := fun x => (h.2.2.2 x).isHeld

theorem heldAlike_setShelf {r : Shelf} (h : r.state.isHeld = s.shelves[sh].state.isHeld) : HeldAlike s (s.setShelf sh r) := by
  intro x
  rw [setShelf_get]
  split
  · next hx => rw [← hx, h]
  · rfl

theorem heldAlike_setSteering (s : State) (sh : ShelfId) (st : Steering) : HeldAlike s (s.setSteering sh st) :=
  heldAlike_setShelf rfl

theorem heldAlike_foldl {f : State → ShelfId → State} (h : ∀ s x, HeldAlike s (f s x)) (l : List ShelfId) (s : State) :
    HeldAlike s (l.foldl f s) := by
  induction l generalizing s with
  | nil => exact .refl s
  | cons x rest ih => exact (h s x).trans (ih _)

theorem heldAlike_inTurn {f : State → ShelfId → State} (h : ∀ s x, HeldAlike s (f s x)) (l : List ShelfId) (s : State) :
    HeldAlike s (s.inTurn l f) := by
  obtain ⟨order, n, -, e⟩ := inTurn_order s l f
  rw [e]
  exact heldAlike_foldl h order _

/-! ## Moves of one shelf -/

theorem heldAlike_act (s : State) (sh : ShelfId) (x : Ctx) : HeldAlike s (s.act sh x) := fun y => act_isHeld s sh y x

theorem heldAlike_loseSteering (s : State) (sh : ShelfId) : HeldAlike s (s.loseSteering sh) := (moved_loseSteering s sh).heldAlike

theorem heldAlike_park (h : s.shelves[sh].state.isHeld = false) (cause : Cause) : HeldAlike s (s.park sh cause) := by
  have hpool := (moved_leavePool s sh).heldAlike
  have hstate := (hpool sh).trans h
  unfold State.park
  generalize (s.leaveAcquire sh).leaveQueue sh = u at hpool hstate
  have henter := (moved_enterState u (sh := sh) (st := .parked) (some cause) none (by rw [hstate]; rfl) (fun h => by cases h)).heldAlike
  exact (hpool.trans henter).trans (heldAlike_setShelf rfl)

theorem heldAlike_moveShelf (old s : State) (sh : ShelfId) : HeldAlike s (State.moveShelf old s sh) := by
  unfold State.moveShelf
  have hlost : HeldAlike s (if s.shelves[sh].steering = .auto then s else s.loseSteering sh) := by
    split
    · exact .refl s
    · exact heldAlike_loseSteering s sh
  have hauto : (if s.shelves[sh].steering = .auto then s else s.loseSteering sh).shelves[sh].steering = .auto := by
    split
    · next h => exact h
    · rw [loseSteering_self]
  generalize (if s.shelves[sh].steering = .auto then s else s.loseSteering sh) = u at hlost hauto
  dsimp only
  refine hlost.trans ?_
  split
  · exact .refl u
  · next hheld =>
    rw [Bool.not_eq_true] at hheld
    split
    · exact heldAlike_park hheld _
    · split
      · exact (moved_reselect hheld _).heldAlike
      · split
        iterate 4 exact (moved_reselect hheld _).heldAlike
        exact (acts_actAuto hauto _).heldAlike

theorem heldAlike_keepShelf (old s : State) (sh : ShelfId) : HeldAlike s (State.keepShelf old s sh) := by
  unfold State.keepShelf
  split
  · split
    · exact heldAlike_act s sh _
    · obtain ⟨K, hm, -⟩ := moved_actUnsteered s sh { forced := some .partition, strict := true, ceased := false }
      exact hm.heldAlike
  · exact heldAlike_act s sh _

theorem heldAlike_applyToShelf (old s : State) (sh : ShelfId) : HeldAlike s (State.applyToShelf old s sh) := by
  unfold State.applyToShelf
  split
  · exact heldAlike_keepShelf old s sh
  · exact heldAlike_moveShelf old s sh

theorem heldAlike_judgeShelf (s : State) (sh : ShelfId) : HeldAlike s (s.judgeShelf sh) := by
  unfold State.judgeShelf
  split
  · next h =>
    split
    · exact .refl s
    · exact (moved_enterRest (by rw [h]; rfl) none).heldAlike
  · next h =>
    split
    · exact (moved_enterRest (by rw [h]; rfl) none).heldAlike
    · exact .refl s
  · exact .refl s

theorem heldAlike_judgeShelves (s : State) : HeldAlike s s.judgeShelves := heldAlike_foldl heldAlike_judgeShelf _ s

theorem heldAlike_expireLimit {left : Nat} (h : s.shelves[sh].state = .holdover (some left)) :
    HeldAlike s (s.expireLimit sh) := by
  intro x
  obtain ⟨hself, hother, -, -⟩ := expireLimit_shelf s sh
  by_cases hx : x = sh
  · rw [hx, hself, h]
    rfl
  · rw [hother x hx]

theorem heldAlike_endHoldOff {c : PortId} {left : Nat} (h : s.shelves[sh].state = .bridge c left) :
    HeldAlike s (s.endHoldOff sh) := by
  obtain ⟨⟨K, hm⟩, -⟩ := endHoldOff_moves h
  exact hm.heldAlike

theorem heldAlike_completeSettle {q : PortId} {left : Nat} (h : s.shelves[sh].state = .acquire q left) (p : PortId) :
    HeldAlike s (s.completeSettle sh p) := by
  obtain ⟨K, hm, -⟩ := completeSettle_moved (p := p) h
  have hone : HeldAlike s (s.unlearned sh) := heldAlike_setShelf rfl
  exact hone.trans hm.heldAlike

theorem heldAlike_shelfChange (h : ShelfChange s v) : HeldAlike s v := by
  cases h with
  | steer sh p _ => exact (heldAlike_setSteering s sh _).trans (fits_steerTo _ sh p).1.heldAlike
  | pin sh p _ _ => exact (heldAlike_setSteering s sh _).trans (fits_pinTo _ sh p).1.heldAlike
  | clear sh _ =>
    have hauto : (s.setSteering sh .auto).shelves[sh].steering = .auto := by rw [setSteering_self]
    exact (heldAlike_setSteering s sh _).trans (acts_unsteer hauto).heldAlike
  | holdOff sh c left h => exact heldAlike_endHoldOff h
  | settle sh t left h => exact heldAlike_completeSettle h t
  | limit sh left h => exact heldAlike_expireLimit h
  | learned => exact .refl s

theorem heldAlike_refresh (old s : State) : HeldAlike s (State.refresh old s) := fun x => by
  have hnom := refreshNominees_isHeld s x
  have hkept : (State.refresh old s).shelves[x].state = s.refreshNominees.shelves[x].state := by
    rw [refresh_shelf, refreshNominees_shelf]
  rw [hkept]
  exact hnom

theorem heldAlike_commit (old s : State) (x : Ctx) : HeldAlike s (State.commit old s x) := by
  have h : HeldAlike s (State.rerank old s x) := rerank_isHeld old s x
  exact h.trans (heldAlike_refresh old _)

end

/-! ## The monitor -/

/-- What setting the latch, a check's outcome or any change of ports, grades, lists and cells does to the shelves: each keeps
its record or is distrusted (R115), where it stands. -/
structure Doubts (s t : State) : Prop where
  phase : t.phase = s.phase
  units : t.units = s.units
  queue : t.queue = s.queue
  shelves : ∀ x : ShelfId, t.shelves[x] = s.shelves[x] ∨ t.shelves[x] = s.shelves[x].distrusted

/-- What a change of inputs or of the monitor does to the shelves before they act: the end of INIT comes after it, and
the release only where the inputs look as before (R183). -/
inductive MonitorStep (s : State) : State → Prop where
  | doubts {t : State} : Doubts s t → MonitorStep s t
  | held {t : State} : s.phase = .init → Doubts s t → MonitorStep s (t.enterPhase .held)
  | released {t : State} : s.phase = .init → Doubts s t → LooksAlike s t → MonitorStep s t.release

section
variable {s t u v : State}

theorem Doubts.of_same (hp : t.phase = s.phase) (hs : t.shelves = s.shelves) (hu : t.units = s.units)
    (hq : t.queue = s.queue) : Doubts s t := ⟨hp, hu, hq, fun x => .inl (by rw [hs])⟩

theorem PortsOnly.doubts (h : PortsOnly s t) : Doubts s t := by
  unfold PortsOnly at h
  exact .of_same (by rw [h]) (by rw [h]) (by rw [h]) (by rw [h])

theorem GradesOnly.doubts (h : GradesOnly s t) : Doubts s t := by
  unfold GradesOnly at h
  exact .of_same (by rw [h]) (by rw [h]) (by rw [h]) (by rw [h])

theorem Doubts.after {w : State} (h : Doubts t w) (hs : t.shelves = s.shelves) (hp : t.phase = s.phase)
    (hu : t.units = s.units) (hq : t.queue = s.queue) : Doubts s w :=
  ⟨h.phase.trans hp, h.units.trans hu, h.queue.trans hq, fun x => by rw [← hs]; exact h.shelves x⟩

theorem distrusted_isHeld (r : Shelf) : r.distrusted.state.isHeld = r.state.isHeld := by
  unfold Shelf.distrusted
  cases r with | mk st => cases st <;> rfl

theorem Doubts.heldAlike (h : Doubts s t) : HeldAlike s t := fun x => by
  rcases h.shelves x with e | e
  · rw [e]
  · rw [e, distrusted_isHeld]

theorem doubts_setLatch (s : State) (source : LatchSource) : Doubts s (s.setLatch source) := by
  cases h : s.osc.latch with
  | true =>
    rw [setLatch_set h]
    exact .of_same rfl rfl rfl rfl
  | false =>
    have hd := distrusts_setLatch h source
    exact ⟨setLatch_phase s source, hd.units, hd.queue, fun x => .inr (hd.shelves x)⟩

theorem doubts_checkJudged (s : State) (o : CheckOutcome) (d : Option Int) : Doubts s (s.checkJudged o d) := by
  unfold State.checkJudged
  cases o with
  | pass =>
    dsimp only
    split <;> exact .of_same rfl rfl rfl rfl
  | fail =>
    have h := (doubts_setLatch (s.setOsc (s.osc.ended .fail d)) .check).after (s := s) rfl rfl rfl rfl
    exact h
  | inconclusive => exact .of_same rfl rfl rfl rfl

/-- A check that passes leaves the inputs looking as before (R116). -/
theorem checkJudged_pass_looksAlike (s : State) (d : Option Int) : LooksAlike s (s.checkJudged .pass d) := by
  refine (checkJudged_quiet (.inl rfl) d).looksAlike fun p => ?_
  obtain ⟨hpass, -⟩ := checkJudged_port s d p
  rw [hpass]
  split <;> exact ⟨rfl, rfl⟩

theorem monitorStep_endCheck (s : State) (o : CheckOutcome) (d : Option Int) : MonitorStep s (s.endCheck o d) := by
  have hd := doubts_checkJudged s o d
  have hraised : Doubts s ((s.checkJudged o d).raisePart .checkDone) := ⟨hd.phase, hd.units, hd.queue, hd.shelves⟩
  rw [endCheck_eq]
  split
  · next hp =>
    unfold State.endInit
    split
    · next hpass =>
      refine .released hp hraised ?_
      obtain rfl : o = .pass := of_decide_eq_true (Bool.and_eq_true_iff.mp hpass).1
      exact (checkJudged_pass_looksAlike s d).trans (SameInputs.looksAlike ⟨rfl, rfl, rfl, rfl, rfl, rfl⟩)
    · exact .held hp hraised
  · exact .doubts hraised

theorem MonitorStep.after {w : State} (h : MonitorStep t w) (hs : t.shelves = s.shelves) (hp : t.phase = s.phase)
    (hu : t.units = s.units) (hq : t.queue = s.queue) (hi : SameInputs s t) : MonitorStep s w := by
  cases h with
  | doubts h => exact .doubts (h.after hs hp hu hq)
  | held h1 h => exact .held (hp ▸ h1) (h.after hs hp hu hq)
  | released h1 h ha => exact .released (hp ▸ h1) (h.after hs hp hu hq) (hi.looksAlike.trans ha)

theorem monitorStep_loseGuard (s : State) : MonitorStep s s.loseGuard := by
  unfold State.loseGuard
  dsimp only
  split
  · exact (monitorStep_endCheck _ _ _).after rfl rfl rfl rfl ⟨rfl, rfl, rfl, rfl, rfl, rfl⟩
  · exact .doubts (.of_same rfl rfl rfl rfl)

theorem monitorStep_startCheck (s : State) : MonitorStep s s.startCheck := by
  unfold State.startCheck
  split
  · exact .doubts (.of_same rfl rfl rfl rfl)
  · exact monitorStep_endCheck s _ _

theorem doubts_completeBackground (s : State) (m : Int) : Doubts s (s.completeBackground m) := by
  unfold State.completeBackground
  dsimp only
  split
  · exact .of_same rfl rfl rfl rfl
  · exact (doubts_setLatch _ _).after rfl rfl rfl rfl

theorem InputChange.monitorStep (h : InputChange s u) : MonitorStep s u := by
  cases h with
  | confirm p _ _ => exact .doubts (portsOnly_putPort s p _).doubts
  | lose p _ => exact .doubts (portsOnly_putPort s p _).doubts
  | window p m _ => exact .doubts (portsOnly_putPort s p _).doubts
  | restore p _ => exact .doubts (portsOnly_putPort s p _).doubts
  | setup p new _ =>
    have e := replaceSetup_only s p new
    exact .doubts (.of_same (by rw [e]) (by rw [e]) (by rw [e]) (by rw [e]))
  | message p bytes bad => exact .doubts (gradesOnly_completeMessage s p bytes bad).doubts
  | byte p b bad => exact .doubts (gradesOnly_receiveByte s p b bad).doubts
  | gradeExpiry p => exact .doubts (gradesOnly_putGrade s p _).doubts
  | nodeId own => exact .doubts (gradesOnly_setNodeId s own).doubts
  | cell sh p v => exact .doubts (.of_same rfl rfl rfl rfl)
  | cells w w' place values =>
    have e := writeCells_only s w place values
    exact .doubts (.of_same (by rw [e]) (by rw [e]) (by rw [e]) (by rw [e]))
  | list d list _ _ _ => exact .doubts (.of_same rfl rfl rfl rfl)
  | background m => exact .doubts (doubts_completeBackground s m)
  | check m => exact monitorStep_endCheck s _ _
  | startCheck _ => exact monitorStep_startCheck s

/-! ## The release -/

/-- A shelf of a part that leaves HELD stands where its release puts it, or has been lent a unit there (R87, R133). -/
theorem release_shelf (hh : ∀ x : ShelfId, s.shelves[x].state.isHeld = true) (sh : ShelfId) :
    s.release.shelves[sh] =
        { s.unheldShelf sh with state := s.release.shelves[sh].state, valid := s.release.shelves[sh].valid } ∧
      (s.release.shelves[sh].state = (s.unheldShelf sh).state ∨
        ∃ p, (s.unheldShelf sh).state = .queued p ∧ s.release.shelves[sh].state = .acquire p (s.settleMs sh)) := by
  have hun := unheld_releaseShelves (List.finRange 48) (List.nodup_finRange 48) (s.enterPhase .running) fun x _ => hh x
  have hshelf := hun.shelves sh
  rw [if_pos (List.mem_finRange sh)] at hshelf
  have hlent := unheldShelf_lent hun.conseq hshelf ((lend_lending _).shelves sh)
  exact hlent

theorem release_not_held (hh : ∀ x : ShelfId, s.shelves[x].state.isHeld = true) (sh : ShelfId) :
    s.release.shelves[sh].state.isHeld = false := by
  rcases (release_shelf hh sh).2 with e | ⟨p, -, e⟩
  · rw [e, unheldShelf_state]
    split
    · rfl
    · split <;> rfl
  · rw [e]
    rfl

theorem release_phase (s : State) : s.release.phase = .running :=
  (moves_releaseShelves (s.enterPhase .running)).consequences.phase

/-! ## Every step -/

theorem phaseSound_congr (h : s.phaseSound) (hp : t.phase = s.phase) (hh : HeldAlike s t) : t.phaseSound := fun sh => by
  rw [hh sh, hp]
  exact h sh

theorem phaseSound_release (h : s.phaseSound) (hp : s.phase ≠ .running) : s.release.phaseSound := fun sh => by
  rw [release_not_held (fun x => (h x).mpr hp) sh, release_phase]
  simp

theorem phaseSound_monitorStep (h : s.phaseSound) (hm : MonitorStep s u) : u.phaseSound := by
  have hinit : ∀ {t : State}, s.phase = .init → Doubts s t → t.phase ≠ .running := fun hp hd => by
    rw [hd.phase, hp]
    exact nofun
  cases hm with
  | doubts hd => exact phaseSound_congr h hd.phase hd.heldAlike
  | @held t hp hd =>
    have hsound := phaseSound_congr h hd.phase hd.heldAlike
    exact fun sh => (hsound sh).trans (iff_of_true (hinit hp hd) nofun)
  | released hp hd _ => exact phaseSound_release (phaseSound_congr h hd.phase hd.heldAlike) (hinit hp hd)

theorem phaseSound_refresh (h : s.phaseSound) (old : State) : (State.refresh old s).phaseSound :=
  phaseSound_congr h (refresh_consequences old s).phase (heldAlike_refresh old s)

theorem phaseSound_commit (h : s.phaseSound) (old : State) (x : Ctx) : (State.commit old s x).phaseSound :=
  phaseSound_congr h (commit_consequences old s x).phase (heldAlike_commit old s x)

theorem heldAlike_apply (h : s.pendingPart ≠ s.current) : HeldAlike s s.doApplyPartition.1 := by
  rw [State.doApplyPartition, if_neg h]
  have hturns := heldAlike_inTurn (heldAlike_applyToShelf s) (State.appliedTo s (s.repartition.raisePart .applied))
    (s.repartition.raisePart .applied)
  exact ((heldAlike_of_shelves (s := s) rfl).trans (hturns.trans (heldAlike_judgeShelves _))).trans (heldAlike_refresh s _)

theorem heldAlike_domainSetup (n : Nat) (b : DomainSetupBody) : HeldAlike s (s.doDomainSetup n b).1 := by
  unfold State.doDomainSetup
  split
  · next d record _ _ =>
    split
    · exact .refl s
    · have hturns := heldAlike_inTurn (f := fun t sh => State.meet s t sh Ctx.failing) (fun t sh => heldAlike_act t sh _)
        (State.resetupShelves s { s with domains := s.domains.set d record } d)
        { s with domains := s.domains.set d record }
      exact ((heldAlike_of_shelves (s := s) rfl).trans (hturns.trans (heldAlike_judgeShelves _))).trans (heldAlike_refresh s _)
  · exact .refl s

theorem phaseSound_change (h : s.phaseSound) (ht : Change s t) : t.phaseSound := by
  cases ht with
  | idle => exact h
  | housekeeping hk => exact phaseSound_congr h (by rw [hk.rest]) fun x => by rw [hk.shelves]
  | input x hu _ => exact phaseSound_commit (phaseSound_monitorStep h hu.monitorStep) s x
  | shelf hv =>
    exact phaseSound_refresh (phaseSound_congr h hv.moves.consequences.phase (heldAlike_shelfChange hv)) s
  | release hp => exact phaseSound_refresh (phaseSound_release h hp) s
  | loseGuard => exact phaseSound_refresh (phaseSound_monitorStep h (monitorStep_loseGuard s)) s
  | apply hne =>
    exact phaseSound_congr h ((doApplyPartition_only hne).phase) (heldAlike_apply hne)
  | domainSetup n b =>
    refine phaseSound_congr h ?_ (heldAlike_domainSetup n b)
    rw [doDomainSetup_kept]
  | restart cp reply _ =>
    have hreset := phaseSound_atReset s.straps (shunMsg (nodeIdOf s.straps)).bytes s.now s.freeCount s.pending
    cases cp <;> exact hreset
  | outputSetup sh new => exact phaseSound_refresh (s := s.setOutput sh _) h s
  | seam sh setup _ => exact phaseSound_refresh (s := s.takeSetup sh setup) h s
  | send sh _ => exact h
  | sendEnd sh => exact h
  | rise pins => exact phaseSound_atReset _ _ _ _ _
  | pinUp _ => exact h
  | silence pins b =>
    have hreset := phaseSound_atReset pins (shunMsg (nodeIdOf pins)).bytes s.now s.freeCount s.pending
    exact hreset

theorem elapse_isHeld (st : ShelfState) (d : Nat) : (st.elapse d).isHeld = st.isHeld := by cases st <;> rfl

theorem phaseSound_elapse (h : s.phaseSound) (d : Nat) : (s.elapse d).phaseSound := by
  have hphase : (s.elapse d).phase = s.phase := by rw [elapse_only]
  refine phaseSound_congr h hphase fun x => ?_
  rcases Nat.eq_zero_or_pos d with rfl | hd
  · rw [elapse_zero]
  · rw [elapse_shelves_get s hd]
    exact elapse_isHeld _ d

/-- Settles O55: only a release and a reset take shelves out of HELD or into it, and each changes the phase with them. -/
theorem everyStepKeepsHeldAndPhaseTogether : Obligations.EveryStepKeepsHeldAndPhaseTogether := by
  intro s t hs h
  exact step_keeps (P := State.phaseSound) (fun _ _ h => h) (fun _ d h => phaseSound_elapse h d)
    (fun _ _ h hc => phaseSound_change h hc) hs h

end

end Sys2Proof.Machine
end

section
/-!
PROOFS. What the fault latch means holds after every step (R114): no shelf learns or holds over, and no port is measured.
-/

namespace Sys2Proof.Machine

/-- No fault is declared on the port and no window runs (R4, R14). -/
def Port.quiet (r : Port) : Prop := r.state ≠ .suspect ∧ r.window = none

/-- While the latch is set no shelf has learned anything and none is in HOLDOVER (R114). -/
def State.rested (s : State) : Prop :=
  s.osc.latch = true → ∀ sh : ShelfId, s.shelves[sh].learned = 0 ∧ s.shelves[sh].state.isHoldover = false

/-- While the latch is set every port is quiet (R114). -/
def State.unmeasured (s : State) : Prop := s.osc.latch = true → ∀ p : PortId, s.ports[p].quiet

section
variable {s t u v : State} {sh : ShelfId}

theorem latchSound_iff (s : State) : s.latchSound ↔ s.rested ∧ s.unmeasured :=
  ⟨fun h => ⟨fun hl => (h hl).1, fun hl => (h hl).2⟩, fun h hl => ⟨h.1 hl, h.2 hl⟩⟩

/-! ## Shelves -/

theorem rested_iff (h : s.osc.latch = true) : s.rested ↔ Untrusted s :=
  ⟨fun k => ⟨h, fun sh => (k h sh).1, fun sh => (k h sh).2⟩, fun k _ sh => ⟨k.learned sh, k.rests sh⟩⟩

/-- It is enough to show it where the latch is set before and after. -/
theorem rested_of_untrusted (hl : t.osc.latch = s.osc.latch) (h : s.rested) (k : Untrusted s → Untrusted t) : t.rested := fun ht =>
  (rested_iff ht).mpr (k ((rested_iff (hl ▸ ht)).mp h)) ht

theorem rested_congr (h : s.rested) (hl : t.osc.latch = s.osc.latch) (hs : t.shelves = s.shelves) : t.rested := fun ht => by
  rw [hs]
  exact h (hl ▸ ht)

theorem Untrusted.moved {K : List DomainEvent} (h : Untrusted s) (hm : Moved s t sh K) : Untrusted t := by
  refine ⟨hm.moves.consequences.osc.symm ▸ h.latch, fun y => ?_, fun y => ?_⟩
  · by_cases hy : y = sh
    · rw [hy, hm.learned]
      exact h.learned sh
    · rcases hm.others y hy with e | e
      · rw [e]
        exact h.learned y
      · rw [e.kept.2.1]
        exact h.learned y
  · by_cases hy : y = sh
    · subst hy
      refine Bool.eq_false_iff.mpr fun hrest => (hm.rests hrest).elim (fun e => ?_) fun e => ?_
      · rw [h.rests] at e
        cases e
      · rw [holdoverValid_latched h.latch] at e
        cases e
    · rcases hm.others y hy with e | e
      · rw [e]
        exact h.rests y
      · exact e.kept.2.2.2

theorem Untrusted.acts (h : Untrusted s) (ha : Acts s t sh) : Untrusted t := by
  obtain ⟨K, hm, -⟩ := ha
  exact h.moved hm

/-- A shelf's record written with nothing learned and outside HOLDOVER. -/
theorem Untrusted.setShelf (h : Untrusted s) (sh : ShelfId) {r : Shelf} (hl : r.learned = 0)
    (hr : r.state.isHoldover = false) : Untrusted (s.setShelf sh r) := by
  refine ⟨h.latch, fun x => ?_, fun x => ?_⟩
  · rw [setShelf_get]
    split
    · exact hl
    · exact h.learned x
  · rw [setShelf_get]
    split
    · exact hr
    · exact h.rests x

theorem Untrusted.setSteering (h : Untrusted s) (sh : ShelfId) (st : Steering) : Untrusted (s.setSteering sh st) :=
  h.setShelf sh (h.learned sh) (h.rests sh)

theorem Untrusted.foldl {f : State → ShelfId → State} (hf : ∀ s x, Untrusted s → Untrusted (f s x)) (l : List ShelfId)
    (h : Untrusted s) : Untrusted (l.foldl f s) := by
  induction l generalizing s with
  | nil => exact h
  | cons x rest ih => exact ih (hf s x h)

theorem Untrusted.inTurn {f : State → ShelfId → State} (hf : ∀ s x, Untrusted s → Untrusted (f s x)) (l : List ShelfId)
    (h : Untrusted s) : Untrusted (s.inTurn l f) := by
  obtain ⟨order, n, -, e⟩ := inTurn_order s l f
  rw [e]
  exact .foldl hf order ⟨h.latch, h.learned, h.rests⟩

theorem Untrusted.park (h : Untrusted s) (hheld : s.shelves[sh].state.isHeld = false) (cause : Cause) :
    Untrusted (s.park sh cause) := by
  have hm := moved_leavePool s sh
  have hpool := h.moved hm
  have hstate := hm.held.trans hheld
  unfold State.park
  generalize (s.leaveAcquire sh).leaveQueue sh = u at hpool hstate
  have henter := hpool.moved (moved_enterState u (sh := sh) (st := .parked) (some cause) none (by rw [hstate]; rfl)
    (fun e => by cases e))
  refine henter.setShelf sh rfl ?_
  rw [enterState_self]
  rfl

theorem Untrusted.moveShelf (h : Untrusted s) (old : State) (sh : ShelfId) : Untrusted (State.moveShelf old s sh) := by
  unfold State.moveShelf
  have hlost : Untrusted (if s.shelves[sh].steering = .auto then s else s.loseSteering sh) := by
    split
    · exact h
    · exact h.moved (moved_loseSteering s sh)
  have hauto : (if s.shelves[sh].steering = .auto then s else s.loseSteering sh).shelves[sh].steering = .auto := by
    split
    · next h => exact h
    · rw [loseSteering_self]
  generalize (if s.shelves[sh].steering = .auto then s else s.loseSteering sh) = u at hlost hauto
  dsimp only
  split
  · exact hlost
  · next hheld =>
    rw [Bool.not_eq_true] at hheld
    split
    · exact hlost.park hheld _
    · split
      · exact hlost.moved (moved_reselect hheld _)
      · split
        iterate 4 exact hlost.moved (moved_reselect hheld _)
        exact hlost.acts (acts_actAuto hauto _)

theorem Untrusted.keepShelf (h : Untrusted s) (old : State) (sh : ShelfId) : Untrusted (State.keepShelf old s sh) := by
  unfold State.keepShelf
  split
  · split
    · exact untrusted_act h sh _
    · obtain ⟨K, hm, -⟩ := moved_actUnsteered s sh { forced := some .partition, strict := true, ceased := false }
      exact h.moved hm
  · exact untrusted_act h sh _

theorem Untrusted.applyToShelf (old : State) (s : State) (sh : ShelfId) (h : Untrusted s) : Untrusted (State.applyToShelf old s sh) := by
  unfold State.applyToShelf
  split
  · exact h.keepShelf old sh
  · exact h.moveShelf old sh

theorem Untrusted.judgeShelf (s : State) (sh : ShelfId) (h : Untrusted s) : Untrusted (s.judgeShelf sh) := by
  unfold State.judgeShelf
  split
  · next hs =>
    split
    · exact h
    · exact h.moved (moved_enterRest (by rw [hs]; rfl) none)
  · next hs =>
    split
    · exact h.moved (moved_enterRest (by rw [hs]; rfl) none)
    · exact h
  · exact h

theorem Untrusted.judgeShelves (h : Untrusted s) : Untrusted s.judgeShelves := .foldl Untrusted.judgeShelf _ h

theorem Untrusted.shelfChange (h : Untrusted s) (hv : ShelfChange s v) : Untrusted v := by
  cases hv with
  | steer sh p _ => exact (h.setSteering sh _).acts (fits_steerTo _ sh p).1
  | pin sh p _ _ => exact (h.setSteering sh _).acts (fits_pinTo _ sh p).1
  | clear sh _ =>
    have hauto : (s.setSteering sh .auto).shelves[sh].steering = .auto := by rw [setSteering_self]
    exact (h.setSteering sh _).acts (acts_unsteer hauto)
  | holdOff sh c left hs =>
    obtain ⟨⟨K, hm⟩, -⟩ := endHoldOff_moves hs
    exact h.moved hm
  | settle sh t left hs =>
    obtain ⟨K, hm, -⟩ := completeSettle_moved (p := t) hs
    have hone : Untrusted (s.unlearned sh) := h.setShelf sh rfl (h.rests sh)
    exact hone.moved hm
  | limit sh left hs =>
    have hho := h.rests sh
    rw [hs] at hho
    cases hho
  | learned => exact h

/-- The release lets no shelf into HOLDOVER and touches no learned time (R87, R133). -/
theorem Untrusted.releaseShelf (s : State) (sh : ShelfId) (h : Untrusted s) : Untrusted (s.releaseShelf sh) := by
  cases hs : s.shelves[sh].state with
  | held n =>
    have hlatch : (s.releaseShelf sh).osc.latch = true := by
      rw [(moves_releaseShelf s sh).consequences.osc]
      exact h.latch
    have hfields : (s.releasedShelf sh n).learned = s.shelves[sh].learned ∧
        (s.releasedShelf sh n).state.isHoldover = false := by
      unfold State.releasedShelf
      split
      · exact ⟨rfl, rfl⟩
      · cases n <;> exact ⟨rfl, rfl⟩
    refine ⟨hlatch, fun x => ?_, fun x => ?_⟩
    · rw [releaseShelf_get hs]
      split
      · exact hfields.1.trans (h.learned sh)
      · exact h.learned x
    · rw [releaseShelf_get hs]
      split
      · exact hfields.2
      · exact h.rests x
  | _ =>
    unfold State.releaseShelf
    rw [hs]
    exact h

theorem Untrusted.lend (h : Untrusted s) : Untrusted s.lend := by
  have hl := lend_lending s
  refine ⟨hl.moves.consequences.osc.symm ▸ h.latch, fun x => ?_, fun x => ?_⟩
  · rcases hl.shelves x with e | e
    · rw [e]
      exact h.learned x
    · exact e.kept.2.1.trans (h.learned x)
  · rcases hl.shelves x with e | e
    · rw [e]
      exact h.rests x
    · exact e.kept.2.2.2

theorem Untrusted.release (h : Untrusted s) : Untrusted s.release := by
  have henter : Untrusted (s.enterPhase .running) := ⟨h.latch, h.learned, h.rests⟩
  unfold State.release State.releaseShelves
  exact (henter.foldl Untrusted.releaseShelf _).lend

/-! ## Ports -/

theorem unmeasured_congr (h : s.unmeasured) (hl : t.osc.latch = s.osc.latch) (hp : t.ports = s.ports) : t.unmeasured := fun ht => by
  rw [hp]
  exact h (hl ▸ ht)

theorem unmeasured_putPort (h : s.unmeasured) {p : PortId} {r : Port} (hr : s.osc.latch = true → r.quiet) :
    (s.putPort p r).unmeasured := by
  intro hl q
  have hosc : (s.putPort p r).osc = s.osc := by rw [putPort_only]
  rw [hosc] at hl
  rw [putPort_get]
  split
  · exact hr hl
  · exact h hl q

theorem syncWindow_quiet {r : Port} (h : r.state ≠ .suspect) : (r.syncWindow false).quiet := by
  refine ⟨h, ?_⟩
  unfold Port.syncWindow
  rw [Bool.and_false]
  rfl

theorem mayMeasure_latched (h : s.osc.latch = true) : s.mayMeasure = false := by
  unfold State.mayMeasure
  rw [h, Bool.not_true, Bool.and_false]

theorem qualify_not_suspect (s : State) (p : PortId) (r : Port) : (s.qualify p r).state ≠ .suspect := by
  rcases (qualify_fields s p r).2 with e | e <;> rw [e] <;> exact nofun

theorem resetup_quiet {r : Port} (h : r.quiet) (new : PortSetup) (now : Nat) : (r.resetup new now false).quiet :=
  syncWindow_quiet h.1

theorem unmeasured_replaceSetup (h : s.unmeasured) (p : PortId) (new : PortSetup) : (s.replaceSetup p new).unmeasured := by
  unfold State.replaceSetup
  dsimp only
  split
  · have hput := unmeasured_putPort h (p := p) (r := { s.ports[p].disable s.now with setup := new }) fun _ => ⟨nofun, rfl⟩
    split
    · exact unmeasured_congr hput rfl rfl
    · refine unmeasured_congr hput ?_ ?_
      · rw [raisePort_osc]
        rfl
      · rw [raisePort_ports]
        rfl
  · have hput := unmeasured_putPort h (p := p) (r := { s.ports[p] with setup := new, state := .down, since := s.now })
      fun hl => ⟨nofun, (h hl p).2⟩
    exact unmeasured_congr hput rfl rfl
  · exact unmeasured_putPort h fun hl => h hl p
  · refine unmeasured_putPort h fun hl => ?_
    rw [mayMeasure_latched hl]
    exact resetup_quiet (h hl p) new s.now

end

/-! ## The monitor -/

section
variable {s t u v : State} {sh : ShelfId}

theorem latchSound_congr (h : s.latchSound) (hl : t.osc.latch = s.osc.latch) (hs : t.shelves = s.shelves)
    (hp : t.ports = s.ports) : t.latchSound := by
  intro ht
  rw [hs, hp]
  exact h (hl ▸ ht)

theorem latchSound_setOsc (h : s.latchSound) {o : Oscillator} (hl : o.latch = s.osc.latch) : (s.setOsc o).latchSound :=
  latchSound_congr h hl rfl rfl

theorem latchSound_setLatch (h : s.latchSound) (source : LatchSource) : (s.setLatch source).latchSound := by
  cases hl : s.osc.latch with
  | true =>
    rw [setLatch_set hl]
    exact latchSound_congr h hl.symm rfl rfl
  | false =>
    have hd := distrusts_setLatch hl source
    generalize s.setLatch source = t at hd
    refine fun _ => ⟨fun sh => ⟨hd.untrusted.learned sh, hd.untrusted.rests sh⟩, fun p => ?_⟩
    obtain ⟨hfields, -, -, hstate⟩ := distrusted_fields s p
    rw [hd.ports]
    exact ⟨hstate, by rw [hfields]⟩

theorem unmeasured_sync (h : s.unmeasured) (hl : t.osc.latch = s.osc.latch)
    (hp : ∀ p : PortId, ∃ may : Bool, t.ports[p] = s.ports[p].syncWindow (may && !s.osc.latch)) : t.unmeasured := by
  intro ht p
  obtain ⟨may, e⟩ := hp p
  rw [hl] at ht
  rw [e, ht, Bool.not_true, Bool.and_false]
  exact syncWindow_quiet (h ht p).1

theorem latchSound_enterPhase (h : s.latchSound) (phase : PartPhase) : (s.enterPhase phase).latchSound := by
  obtain ⟨hrest, hquiet⟩ := (latchSound_iff s).mp h
  exact (latchSound_iff _).mpr ⟨rested_congr hrest rfl rfl,
    unmeasured_sync hquiet rfl fun p => ⟨phase != .init, enterPhase_port s phase p⟩⟩

theorem latchSound_release (h : s.latchSound) : s.release.latchSound := by
  obtain ⟨hrest, hquiet⟩ := (latchSound_iff s).mp h
  have hosc : s.release.osc = s.osc := (moves_releaseShelves (s.enterPhase .running)).consequences.osc
  refine (latchSound_iff _).mpr ⟨rested_of_untrusted (by rw [hosc]) hrest Untrusted.release,
    unmeasured_sync hquiet (by rw [hosc]) fun p => ⟨true, ?_⟩⟩
  rw [Bool.true_and]
  exact release_port s p

theorem latchSound_endInit (h : s.latchSound) (o : CheckOutcome) : (s.endInit o).latchSound := by
  unfold State.endInit
  split
  · exact latchSound_release h
  · exact latchSound_enterPhase h _

theorem latchSound_endCheck (h : s.latchSound) (o : CheckOutcome) (d : Option Int) : (s.endCheck o d).latchSound := by
  have hosc : ∀ k, (s.setOsc (s.osc.ended k d)).latchSound := fun k => latchSound_congr h rfl rfl rfl
  have hjudged : (s.checkJudged o d).latchSound := by
    unfold State.checkJudged
    cases o with
    | pass =>
      dsimp only
      split
      · exact nofun
      · exact hosc _
    | fail => exact latchSound_setLatch (hosc _) _
    | inconclusive => exact hosc _
  have hraised : ((s.checkJudged o d).raisePart .checkDone).latchSound := latchSound_congr hjudged rfl rfl rfl
  rw [endCheck_eq]
  split
  · exact latchSound_endInit hraised o
  · exact hraised

theorem latchSound_loseGuard (h : s.latchSound) : s.loseGuard.latchSound := by
  unfold State.loseGuard
  dsimp only
  split
  · refine latchSound_endCheck ?_ _ _
    exact latchSound_setOsc h rfl
  · exact latchSound_setOsc h rfl

/-! ## Every step -/

theorem PortsOnly.latchSound (h : PortsOnly s t) (hs : s.latchSound) (ht : t.unmeasured) : t.latchSound := by
  unfold PortsOnly at h
  refine (latchSound_iff t).mpr ⟨rested_congr ((latchSound_iff s).mp hs).1 ?_ ?_, ht⟩ <;> rw [h]

theorem GradesOnly.latchSound (h : GradesOnly s t) (hs : s.latchSound) : t.latchSound := by
  unfold GradesOnly at h
  refine latchSound_congr hs ?_ ?_ ?_ <;> rw [h]

theorem latchSound_input (h : s.latchSound) (hu : InputChange s u) : u.latchSound := by
  have hquiet := ((latchSound_iff s).mp h).2
  cases hu with
  | confirm p _ _ =>
    refine (portsOnly_putPort s p _).latchSound h (unmeasured_putPort hquiet fun hl => ?_)
    rw [mayMeasure_latched hl]
    exact syncWindow_quiet (qualify_not_suspect _ _ _)
  | lose p _ => exact (portsOnly_putPort s p _).latchSound h (unmeasured_putPort hquiet fun _ => ⟨nofun, rfl⟩)
  | window p m hw =>
    exact (portsOnly_putPort s p _).latchSound h (unmeasured_putPort hquiet fun hl => absurd (hquiet hl p).2 hw)
  | restore p _ =>
    exact (portsOnly_putPort s p _).latchSound h (unmeasured_putPort hquiet fun hl => ⟨nofun, (hquiet hl p).2⟩)
  | setup p new _ =>
    have e := replaceSetup_only s p new
    exact (latchSound_iff _).mpr ⟨rested_congr ((latchSound_iff s).mp h).1 (by rw [e]) (by rw [e]),
      unmeasured_replaceSetup hquiet p new⟩
  | message p bytes bad => exact (gradesOnly_completeMessage s p bytes bad).latchSound h
  | byte p b bad => exact (gradesOnly_receiveByte s p b bad).latchSound h
  | gradeExpiry p => exact (gradesOnly_putGrade s p _).latchSound h
  | nodeId own => exact (gradesOnly_setNodeId s own).latchSound h
  | cell sh p v => exact latchSound_congr h rfl rfl rfl
  | cells w w' place values =>
    have e := writeCells_only s w place values
    exact latchSound_congr h (by rw [e]) (by rw [e]) (by rw [e])
  | list d list _ _ _ => exact latchSound_congr h rfl rfl rfl
  | background m =>
    unfold State.completeBackground
    dsimp only
    split
    · exact latchSound_setOsc h rfl
    · refine latchSound_setLatch ?_ _
      exact latchSound_setOsc h rfl
  | check m => exact latchSound_endCheck h _ _
  | startCheck _ =>
    unfold State.startCheck
    split
    · exact latchSound_setOsc h rfl
    · exact latchSound_endCheck h _ _

/-- What the shelves do about a change keeps it, where it keeps the shelves distrusted. -/
theorem latchSound_of_untrusted (h : s.latchSound) (hosc : t.osc = s.osc) (hports : t.ports = s.ports)
    (k : Untrusted s → Untrusted t) : t.latchSound := by
  obtain ⟨hrest, hquiet⟩ := (latchSound_iff s).mp h
  exact (latchSound_iff t).mpr ⟨rested_of_untrusted (by rw [hosc]) hrest k, unmeasured_congr hquiet (by rw [hosc]) hports⟩

theorem latchSound_refresh (h : s.latchSound) (old : State) : (State.refresh old s).latchSound :=
  latchSound_of_untrusted h (refresh_consequences old s).osc (refresh_consequences old s).ports fun k => untrusted_refresh k old

theorem untrusted_apply (hne : s.pendingPart ≠ s.current) (h : Untrusted s) : Untrusted s.doApplyPartition.1 := by
  have hstart : Untrusted (s.repartition.raisePart .applied) := ⟨h.latch, h.learned, h.rests⟩
  rw [State.doApplyPartition, if_neg hne]
  exact untrusted_refresh (hstart.inTurn (Untrusted.applyToShelf s) _).judgeShelves s

theorem untrusted_domainSetup (n : Nat) (b : DomainSetupBody) (h : Untrusted s) : Untrusted (s.doDomainSetup n b).1 := by
  unfold State.doDomainSetup
  split
  · next d record _ _ =>
    split
    · exact h
    · have hstart : Untrusted { s with domains := s.domains.set d record } := ⟨h.latch, h.learned, h.rests⟩
      exact untrusted_refresh (hstart.inTurn (f := fun t sh => State.meet s t sh Ctx.failing)
        (fun t sh ht => untrusted_act ht sh _) _).judgeShelves s
  · exact h

theorem latchSound_change (h : s.latchSound) (ht : Change s t) : t.latchSound := by
  cases ht with
  | idle => exact h
  | housekeeping hk =>
    intro hl
    rw [hk.osc] at hl
    refine ⟨fun sh => ?_, fun p => ?_⟩
    · rw [hk.shelves]
      exact (h hl).1 sh
    · rw [hk.ports]
      exact (h hl).2 p
  | @input u x hu _ =>
    have hc := commit_consequences s u x
    exact latchSound_of_untrusted (latchSound_input h hu) hc.osc hc.ports fun k => untrusted_commit k s x
  | shelf hv =>
    have hc := hv.moves.consequences
    exact latchSound_refresh (latchSound_of_untrusted h hc.osc hc.ports fun k => k.shelfChange hv) s
  | release _ => exact latchSound_refresh (latchSound_release h) s
  | loseGuard => exact latchSound_refresh (latchSound_loseGuard h) s
  | apply hne =>
    refine latchSound_of_untrusted h ?_ ?_ (untrusted_apply hne) <;> rw [doApplyPartition_kept]
  | domainSetup n b =>
    refine latchSound_of_untrusted h ?_ ?_ (untrusted_domainSetup n b) <;> rw [doDomainSetup_kept]
  | restart cp reply _ =>
    have hreset := latchSound_atReset s.straps (shunMsg (nodeIdOf s.straps)).bytes s.now s.freeCount s.pending
    cases cp <;> exact hreset
  | outputSetup sh new => exact latchSound_refresh (s := s.setOutput sh _) h s
  | seam sh setup _ => exact latchSound_refresh (s := s.takeSetup sh setup) h s
  | send sh _ => exact h
  | sendEnd sh => exact h
  | rise pins => exact latchSound_atReset _ _ _ _ _
  | pinUp _ => exact h
  | silence pins b =>
    have hreset := latchSound_atReset pins (shunMsg (nodeIdOf pins)).bytes s.now s.freeCount s.pending
    exact hreset

theorem latchSound_elapse (h : s.latchSound) (d : Nat) : (s.elapse d).latchSound := by
  rcases Nat.eq_zero_or_pos d with rfl | hd
  · rwa [elapse_zero]
  · intro hl
    rw [elapse_latch] at hl
    obtain ⟨hshelves, hports⟩ := h hl
    refine ⟨fun sh => ?_, fun p => ?_⟩
    · obtain ⟨hlearned, hho⟩ := hshelves sh
      rw [elapse_shelves_get s hd]
      refine ⟨?_, ?_⟩
      · show (if s.shelves[sh].state.isLocked && !s.osc.latch then _ else s.shelves[sh].learned) = 0
        rw [hl, Bool.not_true, Bool.and_false]
        exact hlearned
      · show (s.shelves[sh].state.elapse d).isHoldover = false
        rw [← hho]
        cases s.shelves[sh].state <;> rfl
    · obtain ⟨hstate, hwindow⟩ := hports p
      rw [elapse_ports_get s hd]
      refine ⟨hstate, ?_⟩
      show s.ports[p].window.map _ = none
      rw [hwindow]
      rfl

/-- Settles O56: setting the latch distrusts every shelf and port, and while it is set no rule lets a shelf learn or hold
over or a window run. -/
theorem everyStepKeepsTheLatchMeaning : Obligations.EveryStepKeepsTheLatchMeaning := by
  intro s t hs h
  exact step_keeps (P := State.latchSound) (fun _ _ h => h) (fun _ d h => latchSound_elapse h d)
    (fun _ _ h hc => latchSound_change h hc) hs h

end

end Sys2Proof.Machine
end

section
/-!
PROOFS. The queue through the turns of a change (R80 to R82): who keeps a place keeps its order and stands ahead of all that
join, and units go to the shelves that stood ahead.
-/

namespace Sys2Proof.Machine

/-- The port a waiting shelf waits for (R79): the target of a QUEUED shelf, the pending target of a LOCKED one. -/
def ShelfState.waitsFor : ShelfState → Option PortId
  | .queued t => some t
  | .locked _ (some (b, _)) => some b
  | _ => none

/-- From `v` to `w` the shelf keeps its steering, and its state but for a unit lent to it while it waited. -/
def GrantedAtMost (v w : State) (x : ShelfId) : Prop :=
  w.shelves[x].steering = v.shelves[x].steering ∧ (w.shelves[x].state = v.shelves[x].state ∨
    ∃ p left, w.shelves[x].state = .acquire p left ∧ v.shelves[x].state.waitsFor = some p)

/-- What moves of the pool make of the queue: shelves leave it, those of `pre` from its front and lent a unit, and those of
`tail` join behind. -/
def QueueMoves (v w : State) (tail : List ShelfId) : Prop :=
  ∃ pre rest : List ShelfId, (pre ++ rest).Sublist v.queue ∧ w.queue = rest ++ tail ∧
    (w.queue = [] ∨ ∀ x : ShelfId, w.shelves[x].state.isAcquire = true → v.shelves[x].state.isAcquire = true ∨ x ∈ pre)

/-- The order of the queue from `s` to `t`, as EveryStepKeepsThePoolSound says it, with the shelves that joined among `done`. -/
def QueueOrder (s t : State) (done : ShelfId → Prop) : Prop :=
  ∃ kept joined : List ShelfId, t.queue = kept ++ joined ∧ kept.Sublist s.queue ∧ (∀ x ∈ joined, done x) ∧
    (∀ x ∈ joined, x ∈ s.queue → t.shelves[x].state ≠ s.shelves[x].state ∨ t.shelves[x].steering ≠ s.shelves[x].steering) ∧
    (∀ x ∈ s.queue, t.shelves[x].state.isAcquire = true → ∀ y ∈ kept, [x, y].Sublist s.queue)

section
variable {s t u v w : State} {sh : ShelfId} {done : ShelfId → Prop}

theorem waits_iff_waitsFor {st : ShelfState} : st.waits = true ↔ ∃ p, st.waitsFor = some p := by
  unfold ShelfState.waits ShelfState.waitsFor
  cases st with
  | locked c pend => cases pend <;> simp [ShelfState.isQueued, ShelfState.pending?]
  | _ => simp [ShelfState.isQueued, ShelfState.pending?]

theorem Lent.grantedAtMost {x : ShelfId} (h : Lent v w x) : GrantedAtMost v w x := by
  refine ⟨h.kept.1, .inr ?_⟩
  obtain ⟨-, ⟨b, hs, ht⟩ | ⟨c, b, cause, hs, ht⟩⟩ := h.cases <;> rw [ht, hs] <;> exact ⟨b, _, rfl, rfl⟩

theorem Moved.grantedAtMost {K : List DomainEvent} (h : Moved v w sh K) {x : ShelfId} (hx : x ≠ sh) : GrantedAtMost v w x := by
  rcases h.others x hx with e | e
  · rw [GrantedAtMost, e]
    exact ⟨rfl, .inl rfl⟩
  · exact e.grantedAtMost

/-! ## One shelf's move -/

/-- The pool rules for one move, as moves of the queue. -/
theorem PoolFollows.queueMoves (h : PoolFollows v w sh) (hv : v.poolSound) (hw : w.poolSound) :
    ∃ tail, QueueMoves v w tail ∧ (tail = [] ∨ tail = [sh] ∧ v.shelves[sh].state.waits = false ∧
      w.shelves[sh].state.waits = true) := by
  obtain ⟨hsame, hunit, hnone⟩ := h
  obtain ⟨wholds, wheld, wonce, wqueue, -, -⟩ := hw
  have hkeeps : ∀ {tail}, w.queue = v.queue → w.units = v.units → tail = [] → QueueMoves v w tail := by
    rintro _ hq hu rfl
    refine ⟨[], v.queue, .refl _, by rw [hq, List.append_nil], .inr fun x hx => .inl ?_⟩
    obtain ⟨a, ha⟩ := wheld x hx
    rw [hu] at ha
    exact hv.1 a x ha
  by_cases hstate : w.shelves[sh].state = v.shelves[sh].state
  · obtain ⟨hu, hq⟩ := hsame hstate
    exact ⟨[], hkeeps hq hu rfl, .inl rfl⟩
  · by_cases hex : ∃ a : UnitId, v.units[a] = some sh
    · obtain ⟨unit, hunit'⟩ := hex
      have hacq := hv.1 unit sh hunit'
      have hmove := hunit unit hunit' hstate
      cases hq : v.queue with
      | nil =>
        rw [hq] at hmove
        exact ⟨[], ⟨[], [], by simp, hmove.1, .inl hmove.1⟩, .inl rfl⟩
      | cons head rest =>
        rw [hq] at hmove
        obtain ⟨hunits, hqueue⟩ := hmove
        have hacquires : ∀ x : ShelfId, w.shelves[x].state.isAcquire = true →
            v.shelves[x].state.isAcquire = true ∨ x ∈ [head] := fun x hx => by
          obtain ⟨a, ha⟩ := wheld x hx
          rw [hunits, units_set_get] at ha
          split at ha
          · exact .inr (by rw [Option.some.inj ha]; exact List.mem_singleton.mpr rfl)
          · exact .inl (hv.1 a x ha)
        cases hwait : w.shelves[sh].state.waits with
        | true =>
          rw [hwait, if_pos rfl] at hqueue
          exact ⟨[sh], ⟨[head], rest, by rw [hq]; exact .refl _, hqueue, .inr hacquires⟩,
            .inr ⟨rfl, waits_of_isAcquire hacq, rfl⟩⟩
        | false =>
          rw [hwait, if_neg Bool.false_ne_true] at hqueue
          exact ⟨[], ⟨[head], rest, by rw [hq]; exact .refl _, by rw [hqueue, List.append_nil], .inr hacquires⟩, .inl rfl⟩
    · obtain ⟨hwait, hacq, hout⟩ := hnone (not_exists.mp hex)
      have hno : ∀ {q tail}, w.units = v.units → q.Sublist v.queue → w.queue = q ++ tail → QueueMoves v w tail := by
        intro q tail hu hsub hqueue
        refine ⟨[], q, hsub, hqueue, .inr fun x hx => .inl ?_⟩
        obtain ⟨a, ha⟩ := wheld x hx
        rw [hu] at ha
        exact hv.1 a x ha
      cases hw1 : w.shelves[sh].state.waits with
      | true =>
        obtain ⟨hu, hqueue⟩ := hwait hw1
        by_cases hm : sh ∈ v.queue
        · rw [if_pos hm] at hqueue
          exact ⟨[], hkeeps hqueue hu rfl, .inl rfl⟩
        · rw [if_neg hm] at hqueue
          refine ⟨[sh], hno hu (.refl _) hqueue, .inr ⟨rfl, ?_, rfl⟩⟩
          exact Bool.eq_false_iff.mpr fun e => hm ((hv.2.2.2.1 sh).mpr e)
      | false =>
        cases hw2 : w.shelves[sh].state.isAcquire with
        | true =>
          obtain ⟨hq, hqueue, -⟩ := hacq hw2
          exact ⟨[], ⟨[], [], by simp, hqueue, .inl hqueue⟩, .inl rfl⟩
        | false =>
          obtain ⟨hu, hqueue⟩ := hout hw1 hw2
          exact ⟨[], hno hu List.filter_sublist (by rw [hqueue, List.append_nil]), .inl rfl⟩

/-- A move that starts from the part without the shelf's steering moves the queue as one from the part itself. -/
theorem QueueMoves.of_unsteered {tail : List ShelfId} (h : QueueMoves (v.unsteered sh) w tail) : QueueMoves v w tail := by
  obtain ⟨pre, rest, hsub, hq, hacq⟩ := h
  refine ⟨pre, rest, hsub.trans ?_, hq, hacq.imp id fun k x hx => (k x hx).imp (fun e => ?_) id⟩
  · unfold State.unsteered
    dsimp only
    split
    · exact List.filter_sublist
    · exact .refl _
  · by_cases hx : x = sh
    · subst hx
      rw [unsteered_self] at e
      dsimp only at e
      unfold ShelfState.unpended at e
      split at e
      · cases e
      · exact e
    · have hother : (v.unsteered sh).shelves[x] = v.shelves[x] := setShelf_get_ne v sh x _ (Ne.symm hx)
      rwa [hother] at e

/-- One shelf's turn: it moves within the pool rules, from the part without its steering where it loses it. -/
structure Turn (v w : State) (sh : ShelfId) : Prop where
  sound : w.poolSound
  others : ∀ x : ShelfId, x ≠ sh → GrantedAtMost v w x
  follows : PoolFollows v w sh ∨ v.shelves[sh].steering ≠ .auto ∧ w.shelves[sh].steering = .auto ∧
    PoolFollows (v.unsteered sh) w sh
  requeued : ∀ p left, v.shelves[sh].state = .acquire p left → w.shelves[sh].state = .queued p ∨ w.shelves[sh].state.isLocked = true →
    w.shelves[sh].steering ≠ v.shelves[sh].steering

/-! ## The order of the queue -/

theorem QueueOrder.refl (h : s.poolSound) : QueueOrder s s done := by
  refine ⟨s.queue, [], (List.append_nil _).symm, .refl _, nofun, nofun, fun x hx ha => ?_⟩
  rw [h.2.2.2.1] at hx
  rw [waits_of_isAcquire ha] at hx
  cases hx

/-- Moves of the queue keep its order, where each shelf that joins and stood in it has changed. -/
theorem QueueOrder.moves {done' : ShelfId → Prop} {tail : List ShelfId} (h : QueueOrder s v done) (hw : w.poolSound)
    (hm : QueueMoves v w tail) (hsub : ∀ x, done x → done' x) (hdone : ∀ x ∈ tail, done' x)
    (htail : ∀ x ∈ tail, x ∈ s.queue →
      w.shelves[x].state ≠ s.shelves[x].state ∨ w.shelves[x].steering ≠ s.shelves[x].steering)
    (hsame : ∀ x, done x → x ∉ tail → GrantedAtMost v w x) : QueueOrder s w done' := by
  obtain ⟨kept, joined, hq, hkept, hjd, hjoined, hacq⟩ := h
  obtain ⟨pre, rest, hpr, hwq, hwacq⟩ := hm
  rw [hq] at hpr
  obtain ⟨l, r, hlr, hl, hr⟩ := List.sublist_append_iff.mp hpr
  rcases hwacq with hnil | hwacq
  · exact ⟨[], [], hnil, List.nil_sublist _, nofun, nofun, fun _ _ _ => nofun⟩
  have hrest : rest = l.drop pre.length ++ r.drop (pre.length - l.length) := by
    rw [← List.drop_append, ← hlr, List.drop_left]
  have hmem : ∀ x ∈ r.drop (pre.length - l.length), x ∈ joined := fun x hx => hr.subset (List.mem_of_mem_drop hx)
  have hnodup : (rest ++ tail).Nodup := by
    rw [← hwq]
    exact hw.2.2.2.2.1
  refine ⟨l.drop pre.length, r.drop (pre.length - l.length) ++ tail, ?_, ?_, ?_, ?_, ?_⟩
  · rw [hwq, hrest, List.append_assoc]
  · exact ((List.drop_sublist _ _).trans hl).trans hkept
  · intro x hx
    rcases List.mem_append.mp hx with hx | hx
    · exact hsub x (hjd x (hmem x hx))
    · exact hdone x hx
  · intro x hx hxs
    rcases List.mem_append.mp hx with hx | hx
    · have hxrest : x ∈ rest := by
        rw [hrest]
        exact List.mem_append_right _ hx
      have hxt : x ∉ tail := fun hxt => (List.nodup_append.mp hnodup).2.2 x hxrest x hxt rfl
      obtain ⟨hst, hstate⟩ := hsame x (hjd x (hmem x hx)) hxt
      have hwaits : w.shelves[x].state.waits = true := (hw.2.2.2.1 x).mp (by rw [hwq]; exact List.mem_append_left _ hxrest)
      have hstate : w.shelves[x].state = v.shelves[x].state := by
        rcases hstate with e | ⟨p, left, e, -⟩
        · exact e
        · rw [e] at hwaits
          cases hwaits
      rw [hstate, hst]
      exact hjoined x (hmem x hx) hxs
    · exact htail x hx hxs
  · intro x hxs hx y hy
    rcases hwacq x hx with hv | hpre
    · exact hacq x hxs hv y (hl.subset (List.mem_of_mem_drop hy))
    · have hlen : pre.length < l.length := by
        by_contra hle
        rw [List.drop_eq_nil_iff.mpr (by omega)] at hy
        cases hy
      have htake : pre = l.take pre.length := by
        have := congrArg (List.take pre.length) hlr
        rwa [List.take_left, List.take_append_of_le_length (by omega)] at this
      have hxy : [x, y].Sublist (l.take pre.length ++ l.drop pre.length) :=
        (List.singleton_sublist.mpr (htake ▸ hpre)).append (List.singleton_sublist.mpr hy)
      rw [List.take_append_drop] at hxy
      exact (hxy.trans hl).trans hkept

/-! ## Turn after turn -/

/-- While shelves take their turns from `s`: the pool is sound, the queue in order, and a shelf whose turn has not come stands
as it stood, but for a unit lent to it. -/
structure InTurns (s v : State) (done : ShelfId → Prop) : Prop where
  sound : v.poolSound
  order : QueueOrder s v done
  waiting : ∀ x, ¬ done x → GrantedAtMost s v x

theorem InTurns.start (h : s.poolSound) (done : ShelfId → Prop) : InTurns s s done :=
  ⟨h, .refl h, fun _ _ => ⟨rfl, .inl rfl⟩⟩

theorem GrantedAtMost.trans {x : ShelfId} (h : GrantedAtMost s v x) (k : GrantedAtMost v w x) : GrantedAtMost s w x := by
  obtain ⟨hst, hs⟩ := h
  obtain ⟨kst, ks⟩ := k
  refine ⟨kst.trans hst, ?_⟩
  rcases hs with hs | ⟨p, left, hs, hp⟩
  · rw [hs] at ks
    exact ks
  · rcases ks with ks | ⟨q, left', -, hq⟩
    · exact .inr ⟨p, left, ks.trans hs, hp⟩
    · rw [hs] at hq
      cases hq

theorem InTurns.turn (hs : s.poolSound) (h : InTurns s v done) (hsh : ¬ done sh) (k : Turn v w sh) :
    InTurns s w (fun x => done x ∨ x = sh) := by
  obtain ⟨hst, hstate⟩ := h.waiting sh hsh
  have hmoves : ∃ tail, QueueMoves v w tail ∧ (tail = [] ∨ tail = [sh] ∧ w.shelves[sh].state.waits = true ∧
      (v.shelves[sh].state.waits = false ∨ w.shelves[sh].steering ≠ v.shelves[sh].steering)) := by
    rcases k.follows with hf | ⟨hne, hauto, hf⟩
    · obtain ⟨tail, hm, ht⟩ := hf.queueMoves h.sound k.sound
      exact ⟨tail, hm, ht.imp id fun ⟨e, a, b⟩ => ⟨e, b, .inl a⟩⟩
    · obtain ⟨tail, hm, ht⟩ := hf.queueMoves (poolSound_unsteered h.sound) k.sound
      exact ⟨tail, hm.of_unsteered, ht.imp id fun ⟨e, _, b⟩ => ⟨e, b, .inr (by rw [hauto]; exact hne.symm)⟩⟩
  obtain ⟨tail, hm, htail⟩ := hmoves
  refine ⟨k.sound, h.order.moves k.sound hm (fun _ => .inl) ?_ ?_ ?_, fun x hx => ?_⟩
  · intro x hx
    rcases htail with rfl | ⟨rfl, -⟩
    · cases hx
    · exact .inr (List.mem_singleton.mp hx)
  · intro x hx hxs
    rcases htail with rfl | ⟨rfl, hwaits, hv⟩
    · cases hx
    obtain rfl := List.mem_singleton.mp hx
    rcases hv with hv | hv
    · have hswaits := (hs.2.2.2.1 x).mp hxs
      rcases hstate with e | ⟨p, left, e, hp⟩
      · rw [e, hswaits] at hv
        cases hv
      · by_cases hsame : w.shelves[x].state = s.shelves[x].state
        · refine .inr ?_
          rw [← hst]
          refine k.requeued p left e ?_
          rw [hsame]
          unfold ShelfState.waitsFor at hp
          split at hp
          · next hq => exact .inl (by rw [hq, Option.some.inj hp])
          · next hq => exact .inr (by rw [hq]; rfl)
          · cases hp
        · exact .inl hsame
    · rw [← hst]
      exact .inr hv
  · intro x hx _
    refine k.others x ?_
    rintro rfl
    exact hsh hx
  · obtain ⟨hx1, hx2⟩ := not_or.mp hx
    exact (h.waiting x hx1).trans (k.others x hx2)

theorem InTurns.foldl (hs : s.poolSound) {f : State → ShelfId → State} {P : State → Prop}
    (hf : ∀ v x, P v → v.poolSound → GrantedAtMost s v x → Turn v (f v x) x ∧ P (f v x)) (l : List ShelfId) (hl : l.Nodup)
    (hnot : ∀ x ∈ l, ¬ done x) (h : InTurns s v done) (hP : P v) : ∃ done', InTurns s (l.foldl f v) done' ∧ P (l.foldl f v) := by
  induction l generalizing v done with
  | nil => exact ⟨done, h, hP⟩
  | cons x rest ih =>
    obtain ⟨hx, hrest⟩ := List.nodup_cons.mp hl
    have hxd := hnot x List.mem_cons_self
    obtain ⟨hturn, hP'⟩ := hf v x hP h.sound (h.waiting x hxd)
    refine ih hrest (fun y hy => not_or.mpr ⟨hnot y (List.mem_cons_of_mem _ hy), ?_⟩) (h.turn hs hxd hturn) hP'
    rintro rfl
    exact hx hy

end

end Sys2Proof.Machine
end

section
/-!
PROOFS. Each turn of a change of ranking inputs is a turn of the pool, and so is each turn of an APPLY PARTITION where every
target was a port of the shelf's own domain before (R46, R48, R68).
-/

namespace Sys2Proof.Machine

section
variable {s t u v w : State} {sh : ShelfId}

/-! ## Moves that keep steering and start from the part itself -/

theorem turn_of_fits (hv : v.poolSound) (hf : PoolFits v w sh) (hothers : ∀ x : ShelfId, x ≠ sh → GrantedAtMost v w x)
    (hre : ∀ p left, v.shelves[sh].state = .acquire p left →
      w.shelves[sh].state = .queued p ∨ w.shelves[sh].state.isLocked = true → w.shelves[sh].steering ≠ v.shelves[sh].steering) :
    Turn v w sh := ⟨(hf hv).1, hothers, .inl (hf hv).2, hre⟩

theorem grantedAtMost_of_same {x : ShelfId} (h : w.shelves[x] = v.shelves[x]) : GrantedAtMost v w x := by
  rw [GrantedAtMost, h]
  exact ⟨rfl, .inl rfl⟩

theorem turn_refl (hv : v.poolSound) (sh : ShelfId) : Turn v v sh :=
  turn_of_fits hv (.refl v sh) (fun _ _ => grantedAtMost_of_same rfl) fun p left h hr => by
    rw [h] at hr
    rcases hr with hr | hr <;> cases hr

/-- A move that starts with the steering taken away, or from the same record with nothing taken. -/
theorem Turn.before (h : Turn u w sh) (k : SamePool v u sh) (hs : u.shelves[sh].state = v.shelves[sh].state)
    (hst : u.shelves[sh].steering = v.shelves[sh].steering ∨
      w.shelves[sh].steering = .auto ∧ v.shelves[sh].steering ≠ .auto)
    (hf : PoolFollows u w sh) : Turn v w sh := by
  refine ⟨h.sound, fun x hx => ?_, .inl (hf.congr k.units.symm k.queue.symm hs.symm rfl rfl rfl), fun p left hp hr => ?_⟩
  · have hrec := k.others x hx
    have := h.others x hx
    unfold GrantedAtMost at this ⊢
    rwa [hrec] at this
  · rcases hst with e | ⟨e, e'⟩
    · rw [← e]
      exact h.requeued p left (hs.trans hp) hr
    · rw [e]
      exact e'.symm

theorem restState_not_queued (v : State) (sh : ShelfId) (p : PortId) :
    ¬ (v.restState sh = .queued p ∨ (v.restState sh).isLocked = true) := by
  unfold State.restState
  split <;> rintro (h | h) <;> cases h

/-- A shelf that reselects from ACQUIRE waits for no port it acquired, where its choice is another. -/
theorem reselect_requeued {p : PortId} (hne : v.choice sh ≠ some p) (cause : Cause) :
    ¬ ((v.reselect sh cause).shelves[sh].state = .queued p ∨ (v.reselect sh cause).shelves[sh].state.isLocked = true) := by
  unfold State.reselect
  split
  · next t ht =>
    obtain ⟨hstate, -⟩ := toward_shelf v sh t cause
    rcases hstate with e | e <;> rw [e] <;> rintro (h | h)
    · injection h with h
      exact hne (by rw [ht, h])
    all_goals cases h
  · rw [rest_shelf]
    exact restState_not_queued v sh p

/-! ## A shelf acts -/

/-- What a shelf in ACQUIRE does with a ranking: it goes on, reselects where its target is not eligible, loses its steering,
or rests (R92, R127, R130). -/
theorem act_of_acquire {p : PortId} {left : Nat} (h : v.shelves[sh].state = .acquire p left) (x : Ctx) :
    v.act sh x = v ∨
      (v.shelves[sh].steering = .auto ∧ v.eligible sh p = false ∧ ∃ cause, v.act sh x = v.reselect sh cause) ∨
      (v.shelves[sh].steering ≠ .auto ∧ v.act sh x = v.actUnsteered sh x) ∨ ∃ cause, v.act sh x = v.rest sh cause := by
  unfold State.act
  cases hst : v.shelves[sh].steering with
  | auto =>
    dsimp only
    rw [State.actAuto, h]
    dsimp only
    split
    · exact .inl rfl
    · next he => exact .inr (.inl ⟨rfl, Bool.eq_false_iff.mpr he, _, rfl⟩)
  | steer q =>
    dsimp only
    rw [State.actSteer, h]
    dsimp only
    split
    · exact .inl rfl
    · exact .inr (.inr (.inl ⟨nofun, rfl⟩))
  | pin q =>
    dsimp only
    unfold State.actPin
    split
    · exact .inr (.inr (.inl ⟨nofun, rfl⟩))
    · split
      · rw [State.actPinActive, h]
        exact .inl rfl
      · rw [State.actPinInactive, h]
        exact .inr (.inr (.inr ⟨_, rfl⟩))

theorem actUnsteered_auto (v : State) (sh : ShelfId) (x : Ctx) : (v.actUnsteered sh x).shelves[sh].steering = .auto := by
  obtain ⟨K, -, -, hauto, -⟩ := moved_actUnsteered v sh x
  exact hauto

/-- A shelf that acts from ACQUIRE and comes to wait waits for another port, or has lost its steering. -/
theorem act_requeued {p : PortId} {left : Nat} (h : v.shelves[sh].state = .acquire p left) (x : Ctx)
    (hr : (v.act sh x).shelves[sh].state = .queued p ∨ (v.act sh x).shelves[sh].state.isLocked = true) :
    (v.act sh x).shelves[sh].steering ≠ v.shelves[sh].steering := by
  rcases act_of_acquire h x with e | ⟨hauto, he, cause, e⟩ | ⟨hst, e⟩ | ⟨cause, e⟩
  · rw [e, h] at hr
    rcases hr with hr | hr <;> cases hr
  · rw [e] at hr
    refine absurd hr (reselect_requeued ?_ cause)
    rw [choice_auto hauto]
    exact best_ne (by rw [he]; exact Bool.false_ne_true)
  · rw [e, actUnsteered_auto]
    exact hst.symm
  · rw [e, rest_shelf] at hr
    exact absurd hr (restState_not_queued v sh p)

theorem turn_act (hv : v.poolSound) (sh : ShelfId) (x : Ctx) : Turn v (v.act sh x) sh := by
  obtain ⟨hsound, hfollows⟩ := poolFits_act (sh := sh) hv x
  refine ⟨hsound, fun y hy => ?_, ?_, fun p left h hr => act_requeued h x hr⟩
  · obtain ⟨K, hm⟩ := moved_act v sh x
    exact hm.grantedAtMost hy
  · unfold State.unsteeredIfLost at hfollows
    split at hfollows
    · next h => exact .inr ⟨h.1, h.2, hfollows⟩
    · exact .inl hfollows

/-- A shelf that loses its steering and acts. -/
theorem turn_actUnsteered (hv : v.poolSound) (hst : v.shelves[sh].steering ≠ .auto) (x : Ctx) : Turn v (v.actUnsteered sh x) sh := by
  obtain ⟨hsound, hfollows⟩ := poolFits_actUnsteered (sh := sh) x (poolSound_unsteered hv)
  obtain ⟨K, hm, -, hauto, -⟩ := moved_actUnsteered v sh x
  refine ⟨hsound, fun y hy => hm.grantedAtMost hy, .inr ⟨hst, hauto, hfollows⟩, fun _ _ _ _ => ?_⟩
  rw [hauto]
  exact hst.symm

/-! ## Settled targets -/

/-- Every port a shelf acquires or waits for is one of its own domain. -/
def State.targetsOwn (s : State) : Prop :=
  ∀ (sh : ShelfId) (p : PortId), (∃ left, s.shelves[sh].state = .acquire p left) ∨ s.shelves[sh].state.waitsFor = some p →
    s.sameDomain sh p = true

theorem sameDomain_iff (s : State) (sh : ShelfId) (p : PortId) :
    s.sameDomain sh p = true ↔ ∃ d, s.shelfDomain sh = some d ∧ s.portDomain p = some d := by
  unfold State.sameDomain
  cases s.shelfDomain sh <;> simp

theorem admissible_sameDomain {p : PortId} (h : s.admissible sh p = true) : s.sameDomain sh p = true := by
  rw [sameDomain_iff]
  unfold State.admissible at h
  split at h
  · next d hd => exact ⟨d, hd, beq_iff_eq.mp (Bool.and_eq_true_iff.mp h).1⟩
  · cases h

theorem eligible_admissible {p : PortId} (h : s.eligible sh p = true) : s.admissible sh p = true :=
  (Bool.and_eq_true_iff.mp h).2

theorem eligible_sameDomain {p : PortId} (h : s.eligible sh p = true) : s.sameDomain sh p = true :=
  admissible_sameDomain (eligible_admissible h)

/-- The switch rule wants the best candidate (R95). -/
theorem switchWanted_best {c b : PortId} {cause : Cause} (h : s.switchWanted sh c = some (b, cause)) : s.best sh = some b := by
  unfold State.switchWanted at h
  split at h
  · next d e f _ he _ =>
    have hport : e.port = b := by
      split at h
      · cases h
      · split at h
        · simp only [Option.some.injEq, Prod.mk.injEq] at h
          exact h.1
        · split at h
          · simp only [Option.some.injEq, Prod.mk.injEq] at h
            exact h.1
          · cases h
    rw [State.best, he, Option.map_some, hport]
  · cases h

/-- Under STEER or PIN toward `q` a settled shelf acquires and waits for `q` alone. -/
theorem steered_target {q p : PortId} (h : s.shelfSettled sh = true)
    (hst : s.shelves[sh].steering = .steer q ∨ s.shelves[sh].steering = .pin q)
    (hp : (∃ left, s.shelves[sh].state = .acquire p left) ∨ s.shelves[sh].state.waitsFor = some p) :
    p = q ∧ s.sameDomain sh q = true := by
  unfold State.shelfSettled at h
  generalize hs : s.shelves[sh].state = st at h hp
  rcases hst with hst | hst <;> rw [hst] at h <;> simp only [Bool.and_eq_true] at h
  · obtain ⟨hd, h⟩ := h
    refine ⟨?_, hd⟩
    rcases hp with ⟨left, rfl⟩ | hp
    · simp only [Bool.and_eq_true, beq_iff_eq] at h
      exact h.1
    · unfold ShelfState.waitsFor at hp
      split at hp
      · simp only [Bool.and_eq_true, beq_iff_eq] at h
        exact (Option.some.inj hp).symm.trans h.1
      · dsimp only at h
        split at h
        · simp at h
        · simp only [Option.map_some, Bool.and_eq_true, beq_iff_eq, Option.some.injEq] at h
          exact (Option.some.inj hp).symm.trans h.1.1.2
      · cases hp
  · obtain ⟨⟨hd, -⟩, h⟩ := h
    refine ⟨?_, hd⟩
    rcases hp with ⟨left, rfl⟩ | hp
    · simp only [Bool.and_eq_true, beq_iff_eq] at h
      exact h.1
    · unfold ShelfState.waitsFor at hp
      split at hp
      · simp only [Bool.and_eq_true, beq_iff_eq] at h
        exact (Option.some.inj hp).symm.trans h.1
      · dsimp only at h
        split at h
        · simp at h
        · simp only [Option.map_some, Bool.and_eq_true, beq_iff_eq, Option.some.injEq] at h
          exact (Option.some.inj hp).symm.trans h.1.1.2
      · cases hp

theorem targetsOwn_of_settled (h : s.shelvesSettled) : s.targetsOwn := by
  intro sh p hp
  have hsh := h sh
  unfold State.shelfSettled at hsh
  cases hst : s.shelves[sh].steering with
  | auto =>
    rw [hst] at hsh
    dsimp only at hsh
    cases hs : s.shelves[sh].state with
    | acquire t left =>
      rw [hs] at hp hsh
      obtain ⟨left', e⟩ | e := hp
      · injection e with e
        rw [← e]
        exact eligible_sameDomain hsh
      · cases e
    | queued t =>
      rw [hs] at hp hsh
      obtain ⟨left', e⟩ | e := hp
      · cases e
      · obtain rfl := Option.some.inj e
        exact eligible_sameDomain (best_listed (beq_iff_eq.mp hsh)).1
    | locked c pend =>
      rw [hs] at hp hsh
      obtain ⟨left', e⟩ | e := hp
      · cases e
      · obtain ⟨-, hw⟩ := Bool.and_eq_true_iff.mp hsh
        cases pend with
        | none => cases e
        | some pair =>
          obtain rfl := Option.some.inj e
          exact eligible_sameDomain (best_listed (switchWanted_best (beq_iff_eq.mp hw).symm)).1
    | _ =>
      rw [hs] at hp
      obtain ⟨left', e⟩ | e := hp <;> cases e
  | steer q =>
    obtain ⟨rfl, hd⟩ := steered_target (h sh) (.inl hst) hp
    exact hd
  | pin q =>
    obtain ⟨rfl, hd⟩ := steered_target (h sh) (.inr hst) hp
    exact hd

/-! ## APPLY PARTITION -/

theorem poolSound_join (hv : v.poolSound) (k : SamePool (v.leaveAcquire sh) u sh) (hw : u.shelves[sh].state.waits = true) :
    (u.join sh).poolSound := by
  cases hacq : v.shelves[sh].state.isAcquire with
  | false => exact (poolFits_join k hw (by rw [hacq]; exact nofun) hv).1
  | true =>
    obtain ⟨unit, hunit⟩ := hv.2.1 sh hacq
    have hfree : v.leaveAcquire sh = v.freeUnit sh := by rw [State.leaveAcquire, if_pos hacq]
    rw [hfree] at k
    exact (((poolAside_freeUnit hv hunit (.refl v sh) (waits_of_isAcquire hacq)).1.congr k).join hw).1

theorem poolSound_reselect (hv : v.poolSound) (cause : Cause) : (v.reselect sh cause).poolSound := by
  unfold State.reselect
  split
  · exact poolSound_join hv (samePool_enterState _ _ _ _ _) (by rw [enterState_self]; rfl)
  · exact (poolFits_rest cause hv).1

theorem samePool_loseSteering (v : State) (sh : ShelfId) : SamePool v (v.loseSteering sh) sh :=
  ⟨loseSteering_units v sh, loseSteering_queue v sh, fun x hx => by rw [loseSteering_get, if_neg hx.symm]⟩

/-- The part a shelf that changed its domain moves in: without its steering (R47). -/
def State.movedOut (v : State) (sh : ShelfId) : State :=
  if v.shelves[sh].steering = .auto then v else v.loseSteering sh

theorem movedOut_shelf (v : State) (sh : ShelfId) :
    (v.movedOut sh).shelves[sh] = { v.shelves[sh] with steering := .auto } := by
  by_cases h : v.shelves[sh].steering = .auto
  · have heq : v.movedOut sh = v := if_pos h
    rw [heq]
    generalize v.shelves[sh] = r at h ⊢
    cases r
    cases h
    rfl
  · have heq : v.movedOut sh = v.loseSteering sh := if_neg h
    rw [heq, loseSteering_self]

theorem samePool_movedOut (v : State) (sh : ShelfId) : SamePool v (v.movedOut sh) sh := by
  unfold State.movedOut
  split
  · exact .refl v sh
  · exact samePool_loseSteering v sh

theorem movedOut_consequences (v : State) (sh : ShelfId) : Consequences v (v.movedOut sh) := by
  unfold State.movedOut
  split
  · exact .refl v
  · exact (moves_loseSteering v sh).consequences

theorem poolSound_movedOut (hv : v.poolSound) (sh : ShelfId) : (v.movedOut sh).poolSound :=
  hv.congr (samePool_movedOut v sh) (by rw [movedOut_shelf]) (by rw [movedOut_shelf])

/-- What a shelf that changed its domain does (R47): it stays HELD, parks, reselects, or acts as an AUTO shelf. -/
theorem moveShelf_cases (old v : State) (sh : ShelfId) :
    (State.moveShelf old v sh = v.movedOut sh ∧ v.shelves[sh].state.isHeld = true) ∨
      v.shelves[sh].state.isHeld = false ∧
        ((v.shelfDomain sh = none ∧ State.moveShelf old v sh = (v.movedOut sh).park sh .partition) ∨
          (v.shelfDomain sh ≠ none ∧ ∃ cause, State.moveShelf old v sh = (v.movedOut sh).reselect sh cause) ∨
          State.moveShelf old v sh = (v.movedOut sh).actAuto sh Ctx.failing ∧
            (∀ q left, v.shelves[sh].state ≠ .acquire q left)) := by
  have hself := movedOut_shelf v sh
  have hdom := (movedOut_consequences v sh).shelfDomain sh
  have heq : State.moveShelf old v sh =
      if (v.movedOut sh).shelves[sh].state.isHeld then v.movedOut sh
      else if ((v.movedOut sh).shelfDomain sh).isNone then (v.movedOut sh).park sh .partition
      else if (old.shelfDomain sh).isNone then (v.movedOut sh).reselect sh .assigned
      else
        match (v.movedOut sh).shelves[sh].state with
        | .queued _ => (v.movedOut sh).reselect sh .partition
        | .acquire _ _ => (v.movedOut sh).reselect sh .partition
        | .locked _ _ => (v.movedOut sh).reselect sh .partition
        | .bridge _ _ => (v.movedOut sh).reselect sh .partition
        | _ => (v.movedOut sh).actAuto sh Ctx.failing := rfl
  rw [hself, hdom] at heq
  cases hheld : v.shelves[sh].state.isHeld with
  | true =>
    rw [if_pos hheld] at heq
    exact .inl ⟨heq, rfl⟩
  | false =>
    rw [if_neg (by rw [hheld]; exact Bool.false_ne_true)] at heq
    refine .inr ⟨rfl, ?_⟩
    cases hd : v.shelfDomain sh with
    | none =>
      rw [hd] at heq
      exact .inl ⟨rfl, heq⟩
    | some d =>
      rw [hd, if_neg (by simp)] at heq
      refine .inr ?_
      split at heq
      · exact .inl ⟨nofun, _, heq⟩
      · cases hs : v.shelves[sh].state with
        | queued q => rw [hs] at heq; exact .inl ⟨nofun, _, heq⟩
        | acquire q left => rw [hs] at heq; exact .inl ⟨nofun, _, heq⟩
        | locked c pend => rw [hs] at heq; exact .inl ⟨nofun, _, heq⟩
        | bridge c left => rw [hs] at heq; exact .inl ⟨nofun, _, heq⟩
        | _ => rw [hs] at heq; exact .inr ⟨heq, nofun⟩

theorem poolSound_moveShelf (hv : v.poolSound) (old : State) (sh : ShelfId) : (State.moveShelf old v sh).poolSound := by
  have hout := poolSound_movedOut hv sh
  have hauto : (v.movedOut sh).shelves[sh].steering = .auto := by rw [movedOut_shelf]
  rcases moveShelf_cases old v sh with ⟨e, -⟩ | ⟨-, ⟨-, e⟩ | ⟨-, cause, e⟩ | ⟨e, -⟩⟩ <;> rw [e]
  · exact hout
  · exact (poolFits_park .partition hout).1
  · exact poolSound_reselect hout cause
  · exact (poolFits_actAuto hauto Ctx.failing hout).1

theorem poolSound_keepShelf (hv : v.poolSound) (old : State) (sh : ShelfId) : (State.keepShelf old v sh).poolSound := by
  unfold State.keepShelf
  split
  · split
    · exact (poolFits_act hv _).1
    · exact (poolFits_actUnsteered _ (poolSound_unsteered hv)).1
  · exact (poolFits_act hv _).1

theorem poolSound_applyToShelf (hv : v.poolSound) (old : State) (sh : ShelfId) : (State.applyToShelf old v sh).poolSound := by
  unfold State.applyToShelf
  split
  · exact poolSound_keepShelf hv old sh
  · exact poolSound_moveShelf hv old sh

/-- The choice of a shelf that changed its domain is no port of the domain it left (R46). -/
theorem movedOut_choice_ne {old : State} {q : PortId} (hs : old.listsSound) (hl : v.lists = old.repartition.lists)
    (hd : old.shelfDomain sh ≠ v.shelfDomain sh) (hq : old.sameDomain sh q = true) : (v.movedOut sh).choice sh ≠ some q := by
  rw [choice_auto (by rw [movedOut_shelf])]
  intro hb
  have hlists : (v.movedOut sh).lists = old.repartition.lists := (movedOut_consequences v sh).lists.trans hl
  obtain ⟨d, hd1, hd2⟩ := repartition_best hs hlists hb
  rw [(movedOut_consequences v sh).shelfDomain] at hd1
  obtain ⟨e, he1, he2⟩ := (sameDomain_iff old sh q).mp hq
  rw [hd2] at he2
  rw [he1, hd1] at hd
  exact hd he2.symm

theorem grantedAtMost_park (cause : Cause) {x : ShelfId} (hx : x ≠ sh) :
    GrantedAtMost v (v.park sh cause) x := by
  have hrec : (v.park sh cause).shelves[x] = ((v.leaveAcquire sh).leaveQueue sh).shelves[x] := by
    unfold State.park
    rw [setShelf_get_ne _ sh x _ hx.symm, enterState_get, if_neg hx.symm]
  have h := (moved_leavePool v sh).grantedAtMost hx
  unfold GrantedAtMost at h ⊢
  rwa [hrec]

/-- A shelf that changed its domain takes its turn within the pool rules, where what it acquired was of the domain it left. -/
theorem turn_moveShelf (hv : v.poolSound) {old : State} (hs : old.listsSound) (hl : v.lists = old.repartition.lists)
    (hd : old.shelfDomain sh ≠ v.shelfDomain sh)
    (hq : ∀ q left, v.shelves[sh].state = .acquire q left → old.sameDomain sh q = true) :
    Turn v (State.moveShelf old v sh) sh ∧ PoolFollows v (State.moveShelf old v sh) sh := by
  have hout := poolSound_movedOut hv sh
  have hsame := samePool_movedOut v sh
  have hself := movedOut_shelf v sh
  have hstate : (v.movedOut sh).shelves[sh].state = v.shelves[sh].state := by rw [hself]
  have hauto : (v.movedOut sh).shelves[sh].steering = .auto := by rw [hself]
  have hend : ∀ {w}, Turn (v.movedOut sh) w sh → w.shelves[sh].steering = .auto → PoolFollows (v.movedOut sh) w sh →
      Turn v w sh ∧ PoolFollows v w sh := by
    intro w hturn hw hf
    refine ⟨hturn.before hsame hstate ?_ hf, hf.congr hsame.units.symm hsame.queue.symm hstate.symm rfl rfl rfl⟩
    by_cases hva : v.shelves[sh].steering = .auto
    · exact .inl (hauto.trans hva.symm)
    · exact .inr ⟨hw, hva⟩
  rcases moveShelf_cases old v sh with ⟨e, -⟩ | ⟨hheld, hcases⟩
  · rw [e]
    exact hend (turn_refl hout sh) hauto (.refl hout sh)
  have hheld' : (v.movedOut sh).shelves[sh].state.isHeld = false := hstate ▸ hheld
  rcases hcases with ⟨-, e⟩ | ⟨-, cause, e⟩ | ⟨e, hna⟩ <;> rw [e]
  · have hfits := poolFits_park (s := v.movedOut sh) (sh := sh) .partition
    have hpark : ((v.movedOut sh).park sh .partition).shelves[sh].steering = .auto ∧
        ((v.movedOut sh).park sh .partition).shelves[sh].state = .parked := by
      unfold State.park
      rw [setShelf_get_self, enterState_self, leavePool_shelf]
      exact ⟨hauto, rfl⟩
    refine hend (turn_of_fits hout hfits (fun x hx => grantedAtMost_park _ hx) fun p left _ hr => ?_)
      hpark.1 (hfits hout).2
    rw [hpark.2] at hr
    rcases hr with hr | hr <;> cases hr
  · have hne : ∀ q left, (v.movedOut sh).shelves[sh].state = .acquire q left → (v.movedOut sh).choice sh ≠ some q :=
      fun q left hq' => movedOut_choice_ne hs hl hd (hq q left (hstate ▸ hq'))
    have hfits := poolFits_reselect cause hne
    have hm := moved_reselect (s := v.movedOut sh) (sh := sh) hheld' cause
    have hst : ((v.movedOut sh).reselect sh cause).shelves[sh].steering = .auto := by
      rcases hm.steering with e | ⟨-, e⟩
      · exact e.trans hauto
      · exact e
    exact hend (turn_of_fits hout hfits (fun x hx => hm.grantedAtMost hx) fun p left hp hr =>
      absurd hr (reselect_requeued (hne p left hp) cause)) hst (hfits hout).2
  · have hfits := poolFits_actAuto hauto Ctx.failing
    obtain ⟨K, hm, hst, -⟩ := acts_actAuto hauto Ctx.failing
    refine hend (turn_of_fits hout hfits (fun x hx => hm.grantedAtMost hx) fun p left hp _ => ?_) (hst.trans hauto)
      (hfits hout).2
    rw [hstate] at hp
    exact absurd hp (hna p left)

/-- A shelf takes its turn in an apply within the pool rules, where what it acquired was of its domain before. -/
theorem turn_applyToShelf (hv : v.poolSound) {old : State} (hs : old.listsSound) (hl : v.lists = old.repartition.lists)
    (hq : ∀ q left, v.shelves[sh].state = .acquire q left → old.sameDomain sh q = true) :
    Turn v (State.applyToShelf old v sh) sh := by
  unfold State.applyToShelf
  split
  · unfold State.keepShelf
    split
    · next p hp =>
      split
      · exact turn_act hv sh _
      · refine turn_actUnsteered hv (fun e => ?_) _
        rw [e] at hp
        cases hp
    · exact turn_act hv sh _
  · next hd => exact (turn_moveShelf hv hs hl hd hq).1

end

end Sys2Proof.Machine
end

section
/-!
PROOFS. The pool after a release (R87), and what a change does beside the turns of its shelves: it leaves the pool as it stands.
-/

namespace Sys2Proof.Machine

/-! ## Units lent until none is idle or nobody waits -/

/-- The pool is sound but that units may be idle while shelves wait: so it stands before they are lent (R79, R82). -/
structure State.PoolLoose (s : State) : Prop where
  holds : ∀ (a : UnitId) (x : ShelfId), s.units[a] = some x → s.shelves[x].state.isAcquire = true
  held : ∀ x : ShelfId, s.shelves[x].state.isAcquire = true → ∃ a : UnitId, s.units[a] = some x
  once : ∀ (a b : UnitId) (x : ShelfId), s.units[a] = some x → s.units[b] = some x → a = b
  queue : ∀ x : ShelfId, x ∈ s.queue ↔ s.shelves[x].state.waits = true
  nodup : s.queue.Nodup

/-- How many units are idle. -/
def State.idleUnits (s : State) : Nat := (Finset.univ.filter fun a : UnitId => s.units[a] = none).card

section
variable {s t u v w : State} {sh : ShelfId} {done : ShelfId → Prop}

theorem State.poolSound.loose (h : s.poolSound) : s.PoolLoose := by
  obtain ⟨h1, h2, h3, h4, h5, -⟩ := h
  exact ⟨h1, h2, h3, h4, h5⟩

/-- A unit lent to the head of the queue (R82). -/
theorem State.PoolLoose.grant (h : s.PoolLoose) {x : ShelfId} {rest : List ShelfId} (hq : s.queue = x :: rest) {a : UnitId}
    (ha : s.units[a] = none) : ((s.setQueue rest).grant x a).PoolLoose := by
  have hw : s.shelves[x].state.waits = true := (h.queue x).mp (by rw [hq]; exact List.mem_cons_self)
  obtain ⟨hunits, hqueue, hacq, hother⟩ := grant_waits (s := s.setQueue rest) (x := x) hw a
  generalize (s.setQueue rest).grant x a = t at hunits hqueue hacq hother
  have hunits : t.units = s.units.set a (some x) := hunits
  have hqueue : t.queue = rest := hqueue
  have hother : ∀ y, y ≠ x → t.shelves[y] = s.shelves[y] := hother
  have hnone : ∀ b : UnitId, s.units[b] ≠ some x := fun b hb => by
    rw [waits_of_isAcquire (h.holds b x hb)] at hw
    cases hw
  have hnodup := h.nodup
  rw [hq] at hnodup
  obtain ⟨hx, hrest⟩ := List.nodup_cons.mp hnodup
  refine ⟨fun b y hb => ?_, fun y hy => ?_, fun b c y hb hc => ?_, fun y => ?_, by rw [hqueue]; exact hrest⟩
  · rw [hunits, units_set_get] at hb
    split at hb
    · rw [← Option.some.inj hb]
      exact hacq
    · have hyx : y ≠ x := by
        rintro rfl
        exact hnone b hb
      rw [hother y hyx]
      exact h.holds b y hb
  · by_cases hyx : y = x
    · exact ⟨a, by rw [hunits, units_set_get, if_pos rfl, hyx]⟩
    · rw [hother y hyx] at hy
      obtain ⟨b, hb⟩ := h.held y hy
      refine ⟨b, ?_⟩
      rw [hunits, units_set_get, if_neg, hb]
      rintro rfl
      rw [ha] at hb
      cases hb
  · rw [hunits, units_set_get] at hb hc
    split at hb
    · next hab =>
      split at hc
      · next hac => exact hab.symm.trans hac
      · exact absurd (by rw [hc, ← hb]) (hnone c)
    · split at hc
      · exact absurd (by rw [hb, ← hc]) (hnone b)
      · exact h.once b c y hb hc
  · rw [hqueue]
    by_cases hyx : y = x
    · subst hyx
      rw [waits_of_isAcquire hacq]
      exact iff_of_false hx Bool.false_ne_true
    · rw [hother y hyx, ← h.queue, hq, List.mem_cons]
      exact ⟨.inr, fun e => e.resolve_left hyx⟩

theorem idleUnits_eq_zero (h : s.idleUnits = 0) (a : UnitId) : s.units[a] ≠ none := fun e => by
  have hmem : a ∈ Finset.univ.filter fun a : UnitId => s.units[a] = none := Finset.mem_filter.mpr ⟨Finset.mem_univ a, e⟩
  rw [Finset.card_eq_zero.mp h] at hmem
  cases hmem

theorem idleUnits_le (s : State) : s.idleUnits ≤ 6 := (Finset.card_filter_le _ _).trans (by simp)

theorem idleUnits_grant {x : ShelfId} {rest : List ShelfId} (hw : s.shelves[x].state.waits = true) {a : UnitId}
    (ha : s.units[a] = none) : ((s.setQueue rest).grant x a).idleUnits < s.idleUnits := by
  obtain ⟨hunits, -⟩ := grant_waits (s := s.setQueue rest) (x := x) hw a
  have hget : ∀ b : UnitId, ((s.setQueue rest).grant x a).units[b] = if a = b then some x else s.units[b] := fun b => by
    rw [hunits]
    exact units_set_get s.units a b (some x)
  unfold State.idleUnits
  refine Finset.card_lt_card ((Finset.ssubset_iff_of_subset fun b hb => ?_).mpr ⟨a, ?_, fun hb => ?_⟩)
  · obtain ⟨-, hb⟩ := Finset.mem_filter.mp hb
    rw [hget] at hb
    split at hb
    · cases hb
    · exact Finset.mem_filter.mpr ⟨Finset.mem_univ b, hb⟩
  · exact Finset.mem_filter.mpr ⟨Finset.mem_univ a, ha⟩
  · obtain ⟨-, hb⟩ := Finset.mem_filter.mp hb
    rw [hget, if_pos rfl] at hb
    cases hb

/-- Shelves left the queue from its front, and were lent units. -/
def Popped (s t : State) : Prop :=
  ∃ pre : List ShelfId, s.queue = pre ++ t.queue ∧
    ∀ x : ShelfId, t.shelves[x].state.isAcquire = true → s.shelves[x].state.isAcquire = true ∨ x ∈ pre

theorem Popped.trans (h : Popped s t) (k : Popped t u) : Popped s u := by
  obtain ⟨pre, hq, ha⟩ := h
  obtain ⟨pre', kq, ka⟩ := k
  refine ⟨pre ++ pre', by rw [hq, kq, List.append_assoc], fun x hx => ?_⟩
  rcases ka x hx with e | e
  · exact (ha x e).imp id (List.mem_append_left _)
  · exact .inr (List.mem_append_right _ e)

theorem Popped.refl (s : State) : Popped s s := ⟨[], rfl, fun _ h => .inl h⟩

/-- One lending either gives a unit to the head, or there is nothing left to lend. -/
theorem lendOne_cases (h : s.PoolLoose) : (s.lendOne = s ∧ (s.queue = [] ∨ s.idleUnits = 0)) ∨
    (Popped s s.lendOne ∧ s.lendOne.PoolLoose ∧ s.lendOne.idleUnits < s.idleUnits) := by
  unfold State.lendOne
  cases hq : s.queue with
  | nil => exact .inl ⟨rfl, .inl rfl⟩
  | cons x rest =>
    cases hu : s.idleUnit with
    | none =>
      refine .inl ⟨rfl, .inr ?_⟩
      unfold State.idleUnits
      rw [Finset.card_eq_zero, Finset.filter_eq_empty_iff]
      exact fun a _ => idleUnit_eq_none.mp hu a
    | some a =>
      have ha := (idleUnit_lowest hu).1
      have hw : s.shelves[x].state.waits = true := (h.queue x).mp (by rw [hq]; exact List.mem_cons_self)
      obtain ⟨-, hqueue, -, hother⟩ := grant_waits (s := s.setQueue rest) (x := x) hw a
      refine .inr ⟨⟨[x], ?_, fun y hy => ?_⟩, h.grant hq ha, idleUnits_grant hw ha⟩
      · rw [hq, hqueue]
        rfl
      · by_cases hyx : y = x
        · exact .inr (List.mem_singleton.mpr hyx)
        · rw [hother y hyx] at hy
          exact .inl hy

theorem lendTimes_cases (n : Nat) (h : s.PoolLoose) : Popped s (State.lendTimes n s) ∧ (State.lendTimes n s).PoolLoose ∧
    ((State.lendTimes n s).queue = [] ∨ (State.lendTimes n s).idleUnits = 0 ∨
      (State.lendTimes n s).idleUnits + n ≤ s.idleUnits) := by
  induction n generalizing s with
  | zero => exact ⟨.refl s, h, .inr (.inr (le_refl _))⟩
  | succ n ih =>
    rcases lendOne_cases h with ⟨hsame, hdone⟩ | ⟨hpop, hloose, hless⟩
    · have hstays : State.lendTimes (n + 1) s = s := by
        refine lendTimes_idle _ (hdone.symm.imp (fun e a => idleUnits_eq_zero e a) id)
      rw [hstays]
      exact ⟨.refl s, h, hdone.imp id .inl⟩
    · obtain ⟨kpop, kloose, kless⟩ := ih hloose
      exact ⟨hpop.trans kpop, kloose, kless.imp id (Or.imp id fun e => by show (State.lendTimes n s.lendOne).idleUnits + (n + 1) ≤ _; omega)⟩

/-- Lending makes a pool sound in which units were idle while shelves waited (R79, R82). -/
theorem poolSound_lend (h : s.PoolLoose) : s.lend.poolSound ∧ Popped s s.lend := by
  obtain ⟨hpop, hloose, hdone⟩ := lendTimes_cases 6 h
  refine ⟨⟨hloose.holds, hloose.held, hloose.once, hloose.queue, hloose.nodup, fun hne a => ?_⟩, hpop⟩
  have hzero : (State.lendTimes 6 s).idleUnits = 0 := by
    have hle := idleUnits_le s
    rcases hdone with e | e | e
    · exact absurd e hne
    · exact e
    · omega
  exact idleUnits_eq_zero hzero a

/-! ## Release -/

/-- Shelves have left HELD from `s` to `t`, those of `joined` behind the queue, and no unit has been lent. -/
structure LeftHeld (s t : State) (joined : List ShelfId) : Prop where
  units : t.units = s.units
  queue : t.queue = s.queue ++ joined
  nodup : joined.Nodup
  waits : ∀ x ∈ joined, s.shelves[x].state.isHeld = true ∧ t.shelves[x].state.waits = true
  shelves : ∀ x : ShelfId, t.shelves[x] = s.shelves[x] ∨ s.shelves[x].state.isHeld = true ∧
    t.shelves[x].state.isAcquire = false ∧ (t.shelves[x].state.waits = true → x ∈ joined)

theorem isHeld_others {st : ShelfState} (h : st.isHeld = true) : st.waits = false ∧ st.isAcquire = false := by
  cases st <;> first | exact ⟨rfl, rfl⟩ | cases h

theorem LeftHeld.releaseShelf {joined : List ShelfId} (h : LeftHeld s v joined) {x : ShelfId} (hx : v.shelves[x] = s.shelves[x]) :
    ∃ joined', LeftHeld s (v.releaseShelf x) joined' ∧ ∀ y, y ≠ x → (v.releaseShelf x).shelves[y] = v.shelves[y] := by
  cases hheld : v.shelves[x].state.isHeld with
  | false =>
    have hsame : v.releaseShelf x = v := by
      unfold State.releaseShelf
      cases hs : v.shelves[x].state with
      | held n => rw [hs] at hheld; cases hheld
      | _ => rfl
    rw [hsame]
    exact ⟨joined, h, fun _ _ => rfl⟩
  | true =>
    have hn := held_nominee hheld
    have hget := releaseShelf_get hn
    obtain ⟨hunits, hqueue⟩ := releaseShelf_pool hn
    have hself : (v.releaseShelf x).shelves[x] = v.unheldShelf x := by
      rw [hget, if_pos rfl]
      rfl
    have hother : ∀ y, y ≠ x → (v.releaseShelf x).shelves[y] = v.shelves[y] := fun y hy => by
      rw [hget, if_neg (Ne.symm hy)]
    have hsheld : s.shelves[x].state.isHeld = true := by rwa [← hx]
    have hnot : x ∉ joined := fun hm => by
      have hw := (h.waits x hm).2
      rw [(isHeld_others hheld).1] at hw
      cases hw
    have hstate := unheldShelf_state (s := v) x
    have hjoins : v.joins x = (v.unheldShelf x).state.waits ∧ (v.unheldShelf x).state.isAcquire = false := by
      rw [hstate]
      unfold State.joins
      cases hd : v.shelfDomain x with
      | none => exact ⟨rfl, rfl⟩
      | some d =>
        cases v.shelves[x].state.nominee? <;> exact ⟨rfl, rfl⟩
    refine ⟨joined ++ if v.joins x then [x] else [], ⟨hunits.trans h.units, ?_, ?_, fun y hy => ?_, fun y => ?_⟩, hother⟩
    · rw [hqueue, h.queue, List.append_assoc]
    · split
      · exact List.nodup_append.mpr ⟨h.nodup, List.nodup_singleton x, fun y hy z hz e => by
          rw [List.mem_singleton.mp hz] at e
          exact hnot (e ▸ hy)⟩
      · rw [List.append_nil]
        exact h.nodup
    · rcases List.mem_append.mp hy with hj | hy
      · have hne : y ≠ x := fun e => hnot (e ▸ hj)
        rw [hother y hne]
        exact h.waits y hj
      · split at hy
        · next hj =>
          obtain rfl := List.mem_singleton.mp hy
          rw [hself, ← hjoins.1]
          exact ⟨hsheld, hj⟩
        · cases hy
    · by_cases hne : y = x
      · subst hne
        refine .inr ⟨hsheld, ?_⟩
        rw [hself, ← hjoins.1]
        exact ⟨hjoins.2, fun hj => List.mem_append_right _ (by rw [if_pos hj]; exact List.mem_singleton.mpr rfl)⟩
      · rw [hother y hne]
        exact (h.shelves y).imp id fun ⟨h1, h2, h3⟩ => ⟨h1, h2, fun hw => List.mem_append_left _ (h3 hw)⟩

theorem leftHeld_foldl (l : List ShelfId) (hl : l.Nodup) {joined : List ShelfId} (h : LeftHeld s v joined)
    (hsame : ∀ x ∈ l, v.shelves[x] = s.shelves[x]) : ∃ joined', LeftHeld s (l.foldl State.releaseShelf v) joined' := by
  induction l generalizing v joined with
  | nil => exact ⟨joined, h⟩
  | cons x rest ih =>
    obtain ⟨hx, hrest⟩ := List.nodup_cons.mp hl
    obtain ⟨joined', h', hother⟩ := h.releaseShelf (hsame x List.mem_cons_self)
    refine ih hrest h' fun y hy => ?_
    rw [hother y fun e => hx (e ▸ hy), hsame y (List.mem_cons_of_mem _ hy)]

/-- The pool once every HELD shelf has left HELD and before units are lent. -/
theorem LeftHeld.loose {joined : List ShelfId} (h : LeftHeld s t joined) (hs : s.poolSound) : t.PoolLoose := by
  obtain ⟨hholds, hheld, honce, hqueue, hnodup, -⟩ := hs
  have hnotin : ∀ x, s.shelves[x].state.isHeld = true → x ∉ s.queue := fun x hx hm => by
    have hw := (hqueue x).mp hm
    rw [(isHeld_others hx).1] at hw
    cases hw
  have hacq : ∀ x : ShelfId, t.shelves[x].state.isAcquire = s.shelves[x].state.isAcquire := fun x => by
    rcases h.shelves x with e | ⟨hx, hna, -⟩
    · rw [e]
    · rw [hna, (isHeld_others hx).2]
  refine ⟨fun a x ha => ?_, fun x hx => ?_, fun a b x ha hb => ?_, fun x => ?_, ?_⟩
  · rw [h.units] at ha
    rw [hacq]
    exact hholds a x ha
  · rw [hacq] at hx
    rw [h.units]
    exact hheld x hx
  · rw [h.units] at ha hb
    exact honce a b x ha hb
  · rw [h.queue, List.mem_append, hqueue]
    rcases h.shelves x with e | ⟨hx, -, hw⟩
    · rw [e]
      exact ⟨fun hm => hm.elim id fun hj => by rw [← e]; exact (h.waits x hj).2, .inl⟩
    · rw [(isHeld_others hx).1]
      exact ⟨fun hm => hm.elim nofun fun hj => (h.waits x hj).2, fun hm => .inr (hw hm)⟩
  · rw [h.queue]
    refine List.nodup_append.mpr ⟨hnodup, h.nodup, fun x hx y hy e => ?_⟩
    exact hnotin y (h.waits y hy).1 (e ▸ hx)

/-- The queue after a release: shelves that waited keep their order, ahead of those that leave HELD (R87). -/
theorem release_pool (hs : s.poolSound) : s.release.poolSound ∧ QueueOrder s s.release (fun _ => True) := by
  have hstart : (s.enterPhase .running).poolSound := hs
  obtain ⟨joined, hleft⟩ := leftHeld_foldl (List.finRange 48) (List.nodup_finRange 48) (s := s.enterPhase .running)
    (v := s.enterPhase .running) ⟨rfl, (List.append_nil _).symm, .nil, nofun, fun _ => .inl rfl⟩ fun _ _ => rfl
  obtain ⟨hsound, pre, hq, hacq⟩ := poolSound_lend (hleft.loose hstart)
  have hrelease : s.release = ((List.finRange 48).foldl State.releaseShelf (s.enterPhase .running)).lend := rfl
  rw [hrelease]
  generalize (List.finRange 48).foldl State.releaseShelf (s.enterPhase .running) = w at hleft hsound hq hacq
  have hwq : s.queue ++ joined = pre ++ w.lend.queue := hleft.queue.symm.trans hq
  have hheld : ∀ x ∈ joined, x ∉ s.queue := fun x hx hm => by
    have hw := (hs.2.2.2.1 x).mp hm
    have hx' : s.shelves[x].state.isHeld = true := (hleft.waits x hx).1
    rw [(isHeld_others hx').1] at hw
    cases hw
  refine ⟨hsound, s.queue.drop pre.length, joined.drop (pre.length - s.queue.length), ?_, List.drop_sublist _ _,
    fun _ _ => trivial, fun x hx hm => absurd hm (hheld x (List.mem_of_mem_drop hx)), fun x hx ha y hy => ?_⟩
  · rw [← List.drop_append, hwq, List.drop_left]
  · have hlen : pre.length < s.queue.length := by
      by_contra hle
      rw [List.drop_eq_nil_iff.mpr (by omega)] at hy
      cases hy
    have htake : pre = s.queue.take pre.length := by
      have := congrArg (List.take pre.length) hwq
      rw [List.take_left, List.take_append_of_le_length (by omega)] at this
      exact this.symm
    have hpre : x ∈ pre := by
      refine (hacq x ha).resolve_left fun hwa => ?_
      have hsw := (hs.2.2.2.1 x).mp hx
      rcases hleft.shelves x with e | ⟨-, hna, -⟩
      · rw [e] at hwa
        have hwa : s.shelves[x].state.isAcquire = true := hwa
        rw [waits_of_isAcquire hwa] at hsw
        cases hsw
      · rw [hna] at hwa
        cases hwa
    have hxy : [x, y].Sublist (s.queue.take pre.length ++ s.queue.drop pre.length) :=
      (List.singleton_sublist.mpr (htake ▸ hpre)).append (List.singleton_sublist.mpr hy)
    rwa [List.take_append_drop] at hxy

/-! ## The pool left as it stands -/

/-- Units, queue and steering stay, and every shelf keeps its state or neither waits before nor after, and acquires after as
before. -/
structure PoolStays (s t : State) : Prop where
  units : t.units = s.units
  queue : t.queue = s.queue
  steering : ∀ x : ShelfId, t.shelves[x].steering = s.shelves[x].steering
  states : ∀ x : ShelfId, t.shelves[x].state = s.shelves[x].state ∨ s.shelves[x].state.waits = false ∧
    t.shelves[x].state.waits = false ∧ t.shelves[x].state.isAcquire = s.shelves[x].state.isAcquire

theorem PoolStays.refl (s : State) : PoolStays s s := ⟨rfl, rfl, fun _ => rfl, fun _ => .inl rfl⟩

theorem PoolStays.acquires (h : PoolStays s t) (x : ShelfId) : t.shelves[x].state.isAcquire = s.shelves[x].state.isAcquire := by
  rcases h.states x with e | ⟨-, -, e⟩
  · rw [e]
  · exact e

theorem PoolStays.waits (h : PoolStays s t) (x : ShelfId) : t.shelves[x].state.waits = s.shelves[x].state.waits := by
  rcases h.states x with e | ⟨e, e', -⟩
  · rw [e]
  · rw [e, e']

theorem PoolStays.trans (h : PoolStays s t) (k : PoolStays t u) : PoolStays s u := by
  refine ⟨k.units.trans h.units, k.queue.trans h.queue, fun x => (k.steering x).trans (h.steering x), fun x => ?_⟩
  have hw := (k.waits x).trans (h.waits x)
  have ha := (k.acquires x).trans (h.acquires x)
  rcases h.states x with e | ⟨e1, e2, -⟩
  · rcases k.states x with e' | ⟨e1, e2, -⟩
    · exact .inl (e'.trans e)
    · rw [e] at e1
      exact .inr ⟨e1, e2, ha⟩
  · exact .inr ⟨e1, hw.trans e1, ha⟩

theorem PoolStays.sound (h : PoolStays s t) (hs : s.poolSound) : t.poolSound := by
  unfold State.poolSound
  simp only [h.units, h.queue, h.acquires, h.waits]
  exact hs

theorem poolStays_of_shelves (hu : t.units = s.units) (hq : t.queue = s.queue) (hs : t.shelves = s.shelves) : PoolStays s t :=
  ⟨hu, hq, fun _ => by rw [hs], fun _ => .inl (by rw [hs])⟩

/-- What stays before and after does not matter to the order of the queue. -/
theorem QueueOrder.before (k : PoolStays s u) (hu : u.poolSound) (h : QueueOrder u t done) : QueueOrder s t done := by
  obtain ⟨kept, joined, hq, hkept, hd, hj, ha⟩ := h
  rw [k.queue] at hkept hj ha
  refine ⟨kept, joined, hq, hkept, hd, fun x hx hm => ?_, ha⟩
  have hw := (hu.2.2.2.1 x).mp (by rw [k.queue]; exact hm)
  have hstate : u.shelves[x].state = s.shelves[x].state := by
    rcases k.states x with e | ⟨-, e, -⟩
    · exact e
    · rw [e] at hw
      cases hw
  have := hj x hx hm
  rwa [hstate, k.steering] at this

theorem QueueOrder.after (h : QueueOrder s v done) (k : PoolStays v t) (hv : v.poolSound) : QueueOrder s t done := by
  obtain ⟨kept, joined, hq, hkept, hd, hj, ha⟩ := h
  refine ⟨kept, joined, k.queue.trans hq, hkept, hd, fun x hx hm => ?_, fun x hm hx => ha x hm (by rwa [k.acquires] at hx)⟩
  have hw := (hv.2.2.2.1 x).mp (by rw [hq]; exact List.mem_append_right _ hx)
  have hstate : t.shelves[x].state = v.shelves[x].state := by
    rcases k.states x with e | ⟨e, -, -⟩
    · exact e
    · rw [e] at hw
      cases hw
  have := hj x hx hm
  rwa [hstate, k.steering]

theorem poolStays_setShelf {r : Shelf} (hst : r.steering = s.shelves[sh].steering) (hw : s.shelves[sh].state.waits = false)
    (hw' : r.state.waits = false) (ha : r.state.isAcquire = s.shelves[sh].state.isAcquire) : PoolStays s (s.setShelf sh r) := by
  refine ⟨rfl, rfl, fun x => ?_, fun x => ?_⟩
  · rw [setShelf_get]
    split
    · next e => rw [← e, hst]
    · rfl
  · rw [setShelf_get]
    split
    · next e => exact .inr ⟨e ▸ hw, hw', by rw [ha, e]⟩
    · exact .inl rfl

theorem poolStays_foldl {f : State → ShelfId → State} (h : ∀ s x, PoolStays s (f s x)) (l : List ShelfId) (s : State) :
    PoolStays s (l.foldl f s) := by
  induction l generalizing s with
  | nil => exact .refl s
  | cons x rest ih => exact (h s x).trans (ih _)

/-- A shelf that rests comes to rest otherwise (R109): the pool stays. -/
theorem poolStays_enterRest (hw : s.shelves[sh].state.waits = false) (ha : s.shelves[sh].state.isAcquire = false)
    (cause : Option Cause) : PoolStays s (s.enterRest sh cause) := by
  have hrest : (s.restState sh).waits = false ∧ (s.restState sh).isAcquire = false := by
    unfold State.restState
    split <;> exact ⟨rfl, rfl⟩
  rw [enterRest_eq]
  refine ⟨enterState_units _ _ _ _ _, enterState_queue _ _ _ _ _, fun x => ?_, fun x => ?_⟩
  · rw [enterState_get]
    split
    · next e => rw [← e]; rfl
    · rfl
  · rw [enterState_get]
    split
    · next e => exact .inr ⟨e ▸ hw, hrest.1, by rw [← e, ha]; exact hrest.2⟩
    · exact .inl rfl

theorem poolStays_judgeShelf (s : State) (sh : ShelfId) : PoolStays s (s.judgeShelf sh) := by
  unfold State.judgeShelf
  split
  · next h =>
    split
    · exact .refl s
    · exact poolStays_enterRest (by rw [h]; rfl) (by rw [h]; rfl) none
  · next h =>
    split
    · exact poolStays_enterRest (by rw [h]; rfl) (by rw [h]; rfl) none
    · exact .refl s
  · exact .refl s

theorem poolStays_judgeShelves (s : State) : PoolStays s s.judgeShelves := poolStays_foldl poolStays_judgeShelf _ s

theorem poolStays_refresh (old s : State) : PoolStays s (State.refresh old s) := by
  refine ⟨(refresh_pool old s).1, (refresh_pool old s).2.1, fun x => ?_, fun x => ?_⟩
  · rw [refresh_shelf]
  · rw [refresh_shelf]
    dsimp only
    split
    · next h => exact .inr ⟨(isHeld_others h).1, rfl, (isHeld_others h).2.symm⟩
    · exact .inl rfl

theorem Doubts.poolStays (h : Doubts s t) : PoolStays s t := by
  refine ⟨h.units, h.queue, fun x => ?_, fun x => ?_⟩
  · rcases h.shelves x with e | e
    · rw [e]
    · rw [e, distrusted_steering]
  · rcases h.shelves x with e | e
    · rw [e]
      exact .inl rfl
    · rw [e]
      unfold Shelf.distrusted
      split
      · next hh =>
        refine .inr ⟨?_, rfl, ?_⟩ <;> cases hs : s.shelves[x].state <;> rw [hs] at hh <;> first | rfl | cases hh
      · exact .inl rfl

theorem poolStays_elapse (s : State) (d : Nat) : PoolStays s (s.elapse d) := by
  rcases Nat.eq_zero_or_pos d with rfl | hd
  · rw [elapse_zero]
    exact .refl s
  · refine ⟨by rw [elapse_only], by rw [elapse_only], fun x => ?_, fun x => ?_⟩
    · rw [elapse_shelves_get s hd]
      rfl
    · rw [elapse_shelves_get s hd]
      show s.shelves[x].state.elapse d = _ ∨ _ ∧ (s.shelves[x].state.elapse d).waits = false ∧ (s.shelves[x].state.elapse d).isAcquire = _
      cases s.shelves[x].state <;> first | exact .inl rfl | exact .inr ⟨rfl, rfl, rfl⟩

end

end Sys2Proof.Machine
end

section
/-!
PROOFS. Every step keeps the pool sound and the queue in order (R79 to R83).
-/

namespace Sys2Proof.Machine

/-- A change keeps the pool sound, and the queue in order where lists are sound and targets are of their shelf's domain. -/
def PoolStep (s t : State) : Prop :=
  s.poolSound → t.poolSound ∧ (s.listsSound → s.targetsOwn → QueueOrder s t fun _ => True)

section
variable {s t u v w : State} {sh : ShelfId} {done : ShelfId → Prop}

theorem QueueOrder.weaken (h : QueueOrder s t done) : QueueOrder s t fun _ => True := by
  obtain ⟨kept, joined, hq, hkept, -, hj, ha⟩ := h
  exact ⟨kept, joined, hq, hkept, fun _ _ => trivial, hj, ha⟩

theorem QueueOrder.of_empty (h : t.queue = []) : QueueOrder s t done :=
  ⟨[], [], h, List.nil_sublist _, nofun, nofun, fun _ _ _ => nofun⟩

theorem PoolStays.poolStep (h : PoolStays s t) : PoolStep s t := fun hs =>
  ⟨h.sound hs, fun _ _ => (QueueOrder.refl hs).after h hs⟩

/-- A change, once what stays before it and after it is set aside. -/
theorem PoolStep.after (h : PoolStep s v) (k : PoolStays v t) : PoolStep s t := fun hs =>
  ⟨k.sound (h hs).1, fun hl ht => ((h hs).2 hl ht).after k (h hs).1⟩

/-- One move within the pool rules, from the part without the steering where it is taken away. -/
theorem PoolStep.of_follows (h : s.poolSound → v.poolSound ∧ (PoolFollows s v sh ∨
    s.shelves[sh].steering ≠ .auto ∧ v.shelves[sh].steering = .auto ∧ PoolFollows (s.unsteered sh) v sh)) : PoolStep s v := fun hs => by
  obtain ⟨hsound, hf⟩ := h hs
  have hmoves : ∃ tail, QueueMoves s v tail ∧ (tail = [] ∨ tail = [sh] ∧
      (s.shelves[sh].state.waits = false ∨ v.shelves[sh].steering ≠ s.shelves[sh].steering)) := by
    rcases hf with hf | ⟨hne, hauto, hf⟩
    · obtain ⟨tail, hm, ht⟩ := hf.queueMoves hs hsound
      exact ⟨tail, hm, ht.imp id fun ⟨e, a, _⟩ => ⟨e, .inl a⟩⟩
    · obtain ⟨tail, hm, ht⟩ := hf.queueMoves (poolSound_unsteered hs) hsound
      exact ⟨tail, hm.of_unsteered, ht.imp id fun ⟨e, _⟩ => ⟨e, .inr (by rw [hauto]; exact hne.symm)⟩⟩
  obtain ⟨tail, hm, htail⟩ := hmoves
  refine ⟨hsound, fun _ _ => (QueueOrder.refl (done := fun _ => False) hs).moves hsound hm (fun _ => False.elim)
    (fun _ _ => trivial) (fun x hx hxs => ?_) fun x hx => hx.elim⟩
  rcases htail with rfl | ⟨rfl, hv⟩
  · cases hx
  obtain rfl := List.mem_singleton.mp hx
  rcases hv with hv | hv
  · rw [(hs.2.2.2.1 x).mp hxs] at hv
    cases hv
  · exact .inr hv

theorem PoolFits.poolStep (h : PoolFits s v sh) : PoolStep s v :=
  .of_follows (sh := sh) fun hs => ⟨(h hs).1, .inl (h hs).2⟩

theorem poolSound_foldl {f : State → ShelfId → State} (hf : ∀ v x, v.poolSound → (f v x).poolSound) (l : List ShelfId)
    (hv : v.poolSound) : (l.foldl f v).poolSound := by
  induction l generalizing v with
  | nil => exact hv
  | cons x rest ih => exact ih (hf v x hv)

/-- Shelves that act in turn from a part where the pool stayed. -/
theorem PoolStays.inTurn_acts (h : PoolStays s u) (l : List ShelfId) (hl : l.Nodup) (x : State → ShelfId → Ctx) :
    PoolStep s (u.inTurn l fun v y => v.act y (x v y)) := fun hs => by
  obtain ⟨order, n, hperm, e⟩ := inTurn_order u l fun v y => v.act y (x v y)
  have hstart : PoolStays s { u with freeCount := n } := h.trans (poolStays_of_shelves rfl rfl rfl)
  have hsound := hstart.sound hs
  rw [e]
  obtain ⟨done, hturns, -⟩ := InTurns.foldl (P := fun _ => True) hsound (f := fun v y => v.act y (x v y))
    (fun v y _ hv _ => ⟨turn_act hv y _, trivial⟩) order (hperm.nodup_iff.mpr hl) (fun _ _ => id)
    (InTurns.start hsound fun _ => False) trivial
  exact ⟨hturns.sound, fun _ _ => hturns.order.weaken.before hstart hsound⟩

theorem handedNew_nodup (old s : State) : (State.handedNew old s).Nodup := (List.nodup_finRange 48).filter _

theorem poolStep_commit (h : PoolStays s u) (x : Ctx) : PoolStep s (State.commit s u x) :=
  (h.inTurn_acts (State.handedNew s u) (handedNew_nodup s u) fun v y => { x with ceased := State.ceased s v y }).after
    (poolStays_refresh s _)

/-! ## Release and the monitor -/

theorem releaseShelf_pins (v : State) (x sh : ShelfId) (p : PortId) :
    (v.releaseShelf x).shelves[sh].steering = .pin p ↔ v.shelves[sh].steering = .pin p := by
  cases hs : v.shelves[x].state with
  | held n =>
    rw [releaseShelf_get hs]
    split
    · next e =>
      subst e
      unfold State.releasedShelf State.releasedSteering
      split
      · rfl
      · generalize v.shelves[x] = r
        cases hr : r.steering with
        | steer q =>
          dsimp only
          split <;> simp
        | _ => rfl
    · rfl
  | _ =>
    unfold State.releaseShelf
    rw [hs]

theorem releaseShelves_pins (s : State) (sh : ShelfId) (p : PortId) :
    s.release.shelves[sh].steering = .pin p ↔ s.shelves[sh].steering = .pin p := by
  have hfold : ∀ (l : List ShelfId) (v : State),
      (l.foldl State.releaseShelf v).shelves[sh].steering = .pin p ↔ v.shelves[sh].steering = .pin p := by
    intro l
    induction l with
    | nil => exact fun _ => .rfl
    | cons x rest ih => exact fun v => (ih _).trans (releaseShelf_pins v x sh p)
  have hlend : s.release.shelves[sh].steering =
      ((List.finRange 48).foldl State.releaseShelf (s.enterPhase .running)).shelves[sh].steering := by
    rcases (lend_lending ((List.finRange 48).foldl State.releaseShelf (s.enterPhase .running))).shelves sh with e | e
    · exact congrArg Shelf.steering e
    · exact e.kept.1
  rw [hlend]
  exact hfold _ (s.enterPhase .running)

theorem poolStep_release (h : PoolStays s t) : PoolStep s t.release := fun hs => by
  obtain ⟨hsound, horder⟩ := release_pool (h.sound hs)
  exact ⟨hsound, fun _ _ => horder.before h (h.sound hs)⟩

theorem poolStays_enterPhase (s : State) (phase : PartPhase) : PoolStays s (s.enterPhase phase) := poolStays_of_shelves rfl rfl rfl

theorem MonitorStep.poolStep (h : MonitorStep s u) : PoolStep s u := by
  cases h with
  | doubts hd => exact hd.poolStays.poolStep
  | held _ hd => exact (hd.poolStays.trans (poolStays_enterPhase _ _)).poolStep
  | released _ hd _ => exact poolStep_release hd.poolStays

/-- A part released after a check looks alike to the engine: no shelf acts on it. -/
theorem commit_released (hd : Doubts s t) (ha : LooksAlike s t) (x : Ctx) :
    State.commit s t.release x = State.refresh s t.release := by
  refine (ha.trans (release_looksAlike t)).commit (fun sh p => ?_) x
  rw [releaseShelves_pins]
  rcases hd.shelves sh with e | e
  · rw [e]
  · rw [e, distrusted_steering]

theorem MonitorStep.poolStep_commit (h : MonitorStep s u) (x : Ctx) : PoolStep s (State.commit s u x) := by
  cases h with
  | doubts hd => exact Machine.poolStep_commit hd.poolStays x
  | held _ hd => exact Machine.poolStep_commit (hd.poolStays.trans (poolStays_enterPhase _ _)) x
  | released _ hd ha =>
    rw [commit_released hd ha]
    exact (poolStep_release hd.poolStays).after (poolStays_refresh s _)

/-! ## One shelf's own move -/

theorem samePool_setSteering (s : State) (sh : ShelfId) (st : Steering) : SamePool s (s.setSteering sh st) sh :=
  ⟨rfl, rfl, fun _ hx => setSteering_other s st hx⟩

theorem poolSound_setSteering (hs : s.poolSound) (sh : ShelfId) (st : Steering) : (s.setSteering sh st).poolSound := by
  obtain ⟨hst, -⟩ := setSteering_fields s sh st
  exact hs.congr (samePool_setSteering s sh st) (by rw [hst]) (by rw [hst])

/-- A move that starts with a steering set moves the pool as one from the part before. -/
theorem PoolFits.steered {st : Steering} (h : PoolFits (s.setSteering sh st) v sh) : PoolFits s v sh := fun hs => by
  obtain ⟨hsound, hf⟩ := h (poolSound_setSteering hs sh st)
  obtain ⟨hst, -⟩ := setSteering_fields s sh st
  exact ⟨hsound, hf.congr rfl rfl hst.symm rfl rfl rfl⟩

/-- CLEAR STEERING of a LOCKED shelf starts without its pending target (R132). -/
theorem clear_locked_fits {c : PortId} {pend : Option (PortId × Cause)} (h : s.shelves[sh].state = .locked c pend)
    (hs : s.poolSound) : ((s.setSteering sh .auto).unsteer sh).poolSound ∧
      PoolFollows (s.unsteered sh) ((s.setSteering sh .auto).unsteer sh) sh := by
  obtain ⟨hst, -⟩ := setSteering_fields s sh .auto
  have heq : (s.setSteering sh .auto).unsteer sh =
      ((((s.setSteering sh .auto).dropPending sh c).actLocked sh c Ctx.clearing).markCleared sh) := by
    rw [State.unsteer, hst, h]
  have hd : ((s.setSteering sh .auto).dropPending sh c).shelves[sh] =
      { s.shelves[sh] with steering := .auto, state := .locked c none } := by
    rw [dropPending_shelf, setSteering_self]
  have hself : (s.unsteered sh).shelves[sh] = { s.shelves[sh] with steering := .auto, state := .locked c none } := by
    rw [unsteered_self, h]
    cases pend <;> rfl
  have hqueue : ((s.setSteering sh .auto).dropPending sh c).queue = (s.unsteered sh).queue := by
    show s.queue.filter (· != sh) = _
    cases pend with
    | none =>
      rw [unsteered_queue (by rw [h]; rfl)]
      exact filter_ne_of_not_mem (hs.not_mem (by rw [h]; rfl))
    | some pair => simp only [State.unsteered, h, ShelfState.pending?, Option.isSome_some, if_true]
  have hother : ∀ x, x ≠ sh → ((s.setSteering sh .auto).dropPending sh c).shelves[x] = (s.unsteered sh).shelves[x] := by
    intro x hx
    have hright : (s.unsteered sh).shelves[x] = s.shelves[x] := setShelf_get_ne s sh x _ hx.symm
    exact (setShelf_get_ne (s.setSteering sh .auto) sh x _ hx.symm).trans ((setSteering_other s .auto hx).trans hright.symm)
  have hfits := poolFits_unsteer_locked (s := (s.setSteering sh .auto).dropPending sh c) (sh := sh) (c := c)
    (by rw [hd]) (by rw [hd])
  have hsound : ((s.setSteering sh .auto).dropPending sh c).poolSound :=
    (poolSound_unsteered (sh := sh) hs).congr (sh := sh) ⟨rfl, hqueue, hother⟩ (by rw [hd, hself]) (by rw [hd, hself])
  rw [heq]
  exact ⟨(hfits hsound).1, (hfits hsound).2.congr rfl hqueue.symm (by rw [hd, hself]) rfl rfl rfl⟩

theorem poolStep_clear (hst : s.shelves[sh].steering ≠ .auto) : PoolStep s ((s.setSteering sh .auto).unsteer sh) := by
  have hself := setSteering_self s sh .auto
  have hauto : (s.setSteering sh .auto).shelves[sh].steering = .auto := by rw [hself]
  cases hl : s.shelves[sh].state.isLocked with
  | false => exact (poolFits_unsteer hauto (by rw [hself]; exact hl)).steered.poolStep
  | true =>
    cases hs : s.shelves[sh].state with
    | locked c pend =>
      obtain ⟨K, -, hsteer, -⟩ := acts_unsteer hauto
      refine .of_follows (sh := sh) fun hsound => ?_
      obtain ⟨h1, h2⟩ := clear_locked_fits hs hsound
      exact ⟨h1, .inr ⟨hst, hsteer.trans hauto, h2⟩⟩
    | _ => rw [hs] at hl; cases hl

theorem poolStep_expireLimit {left : Nat} (h : s.shelves[sh].state = .holdover (some left)) : PoolStep s (s.expireLimit sh) := by
  obtain ⟨hself, hother, hunits, hqueue⟩ := expireLimit_shelf s sh
  refine PoolStays.poolStep ⟨hunits, hqueue, fun x => ?_, fun x => ?_⟩
  · by_cases hx : x = sh
    · rw [hx, hself]
    · rw [hother x hx]
  · by_cases hx : x = sh
    · rw [hx, hself, h]
      exact .inr ⟨rfl, rfl, rfl⟩
    · rw [hother x hx]
      exact .inl rfl

theorem ShelfChange.poolStep (h : ShelfChange s v) : PoolStep s v := by
  cases h with
  | steer sh p _ => exact (fits_steerTo _ sh p).2.steered.poolStep
  | pin sh p _ _ => exact (fits_pinTo _ sh p).2.steered.poolStep
  | clear sh hst => exact poolStep_clear hst
  | holdOff sh c left hs => exact (endHoldOff_moves hs).2.2.poolStep
  | settle sh t left hs => exact (poolFits_completeSettle hs).poolStep
  | limit sh left hs => exact poolStep_expireLimit hs
  | learned => exact (PoolStays.refl s).poolStep

/-! ## APPLY PARTITION -/

/-- A target that a shelf acquires in its turn was one it acquired or waited for before. -/
theorem GrantedAtMost.target {x : ShelfId} {q : PortId} {left : Nat} (h : GrantedAtMost s v x) (ht : s.targetsOwn)
    (hv : v.shelves[x].state = .acquire q left) : s.sameDomain x q = true := by
  rcases h.2 with e | ⟨p, left', e, hp⟩
  · exact ht x q (.inl ⟨left, e.symm.trans hv⟩)
  · rw [hv] at e
    injection e with e
    rw [e]
    exact ht x p (.inr hp)

/-- The turns of an apply, from the part with the new partition. -/
theorem poolStep_applyTurns (s : State) : PoolStep s ((s.repartition.raisePart .applied).inTurn
    (State.appliedTo s (s.repartition.raisePart .applied)) (State.applyToShelf s)) := fun hs => by
  generalize hu : s.repartition.raisePart .applied = u
  have hshelves : u.shelves = s.shelves := by rw [← hu]; rfl
  have hlists : u.lists = s.repartition.lists := by rw [← hu]; rfl
  have hstays : PoolStays s u := poolStays_of_shelves (by rw [← hu]; rfl) (by rw [← hu]; rfl) hshelves
  obtain ⟨order, n, hperm, e⟩ := inTurn_order u (State.appliedTo s u) (State.applyToShelf s)
  have hstart : PoolStays s { u with freeCount := n } := hstays.trans (poolStays_of_shelves rfl rfl rfl)
  have hsound := hstart.sound hs
  rw [e]
  refine ⟨poolSound_foldl (fun v x hv => poolSound_applyToShelf hv s x) order hsound, fun hl ht => ?_⟩
  obtain ⟨done, hturns, -⟩ := InTurns.foldl (s := { u with freeCount := n }) (P := fun v => v.lists = s.repartition.lists)
    hsound (f := State.applyToShelf s)
    (fun v x hv hvs hg => ⟨turn_applyToShelf hvs hl hv fun q left hq => GrantedAtMost.target (s := s) (by
        unfold GrantedAtMost at hg ⊢
        rwa [← hshelves]) ht hq, (moves_applyToShelf s v x).consequences.lists.trans hv⟩)
    order (hperm.nodup_iff.mpr ((List.nodup_finRange 48).filter _)) (fun _ _ => id)
    (InTurns.start hsound fun _ => False) hlists
  exact hturns.order.weaken.before hstart hsound

theorem poolStep_apply (h : s.pendingPart ≠ s.current) : PoolStep s s.doApplyPartition.1 := by
  rw [State.doApplyPartition, if_neg h]
  exact ((poolStep_applyTurns s).after (poolStays_judgeShelves _)).after (poolStays_refresh s _)

theorem poolStep_domainSetup (n : Nat) (b : DomainSetupBody) : PoolStep s (s.doDomainSetup n b).1 := by
  unfold State.doDomainSetup
  split
  · next d record _ _ =>
    split
    · exact (PoolStays.refl s).poolStep
    · have hstays : PoolStays s { s with domains := s.domains.set d record } := poolStays_of_shelves rfl rfl rfl
      have hturns := hstays.inTurn_acts (State.resetupShelves s { s with domains := s.domains.set d record } d)
        ((List.nodup_finRange 48).filter _) fun v y => { Ctx.failing with ceased := State.ceased s v y }
      exact (hturns.after (poolStays_judgeShelves _)).after (poolStays_refresh s _)
  · exact (PoolStays.refl s).poolStep

/-! ## Every step -/

theorem Change.poolStep (h : Change s t) : PoolStep s t := by
  cases h with
  | idle => exact (PoolStays.refl s).poolStep
  | housekeeping hk =>
    refine PoolStays.poolStep ⟨by rw [hk.rest], by rw [hk.rest], fun x => ?_, fun x => .inl ?_⟩ <;> rw [hk.shelves]
  | input x hu _ => exact hu.monitorStep.poolStep_commit x
  | shelf hv => exact hv.poolStep.after (poolStays_refresh s _)
  | release _ => exact (poolStep_release (PoolStays.refl s)).after (poolStays_refresh s _)
  | loseGuard => exact (monitorStep_loseGuard s).poolStep.after (poolStays_refresh s _)
  | apply hne => exact poolStep_apply hne
  | domainSetup n b => exact poolStep_domainSetup n b
  | restart cp reply _ =>
    have hreset := poolSound_atReset s.straps (shunMsg (nodeIdOf s.straps)).bytes s.now
      s.freeCount s.pending
    cases cp <;> exact fun _ => ⟨hreset, fun _ _ => .of_empty rfl⟩
  | outputSetup sh new =>
    exact (poolStays_of_shelves (s := s) (t := s.setOutput sh { s.outputs[sh] with pendingSetup := some new }) rfl rfl rfl).poolStep.after
      (poolStays_refresh s _)
  | seam sh setup _ =>
    exact (poolStays_of_shelves (s := s) (t := s.takeSetup sh setup) rfl rfl rfl).poolStep.after (poolStays_refresh s _)
  | send sh _ => exact (poolStays_of_shelves rfl rfl rfl).poolStep
  | sendEnd sh => exact (poolStays_of_shelves rfl rfl rfl).poolStep
  | rise pins => exact fun _ => ⟨poolSound_atReset _ _ _ _ _, fun _ _ => .of_empty rfl⟩
  | pinUp _ => exact (poolStays_of_shelves rfl rfl rfl).poolStep
  | silence pins b =>
    have hreset := poolSound_atReset pins (shunMsg (nodeIdOf pins)).bytes s.now
      s.freeCount s.pending
    exact fun _ => ⟨hreset, fun _ _ => .of_empty rfl⟩

theorem targetsOwn_elapse (h : s.targetsOwn) (d : Nat) : (s.elapse d).targetsOwn := by
  intro sh p hp
  have hsame : (s.elapse d).sameDomain sh p = s.sameDomain sh p := by rw [elapse_only]; rfl
  rw [hsame]
  refine h sh p ?_
  rcases Nat.eq_zero_or_pos d with rfl | hd
  · rwa [elapse_zero] at hp
  · rw [elapse_shelves_get s hd] at hp
    have hp : (∃ left, s.shelves[sh].state.elapse d = .acquire p left) ∨ (s.shelves[sh].state.elapse d).waitsFor = some p := hp
    cases hs : s.shelves[sh].state with
    | acquire t left =>
      rw [hs] at hp
      rcases hp with ⟨left', e⟩ | e
      · injection e with e
        exact .inl ⟨left, by rw [e]⟩
      · cases e
    | _ =>
      rw [hs] at hp
      rcases hp with ⟨left', e⟩ | e
      · cases e
      · exact .inr e

theorem step_poolStep (h : step s = .next t) : PoolStep s t := by
  obtain ⟨k, d, u, hu, k', rfl, -⟩ := step_outcome h
  intro hs
  have hstays : PoolStays s ((s.withControl k).elapse d) :=
    (poolStays_of_shelves (s := s) (t := s.withControl k) rfl rfl rfl).trans (poolStays_elapse _ d)
  have hsound := hstays.sound hs
  obtain ⟨husound, horder⟩ := hu.poolStep hsound
  have hwrite : PoolStays u (u.withControl k') := poolStays_of_shelves rfl rfl rfl
  refine ⟨hwrite.sound husound, fun hl ht => ?_⟩
  have hlists : ((s.withControl k).elapse d).listsSound := by
    refine listsSound_congr hl ?_ ?_ <;> rw [elapse_only] <;> rfl
  have htargets : (s.withControl k).targetsOwn := ht
  exact ((horder hlists (targetsOwn_elapse htargets d)).after hwrite husound).before hstays hsound

/-- Settles O58: every change is a series of turns of the pool, each within the pool rules, and what comes before and after them
leaves units, queue and waiting shelves as they stand. -/
theorem everyStepKeepsThePoolSound : Obligations.EveryStepKeepsThePoolSound := by
  intro s t hs h
  obtain ⟨hsound, horder⟩ := step_poolStep h hs
  refine ⟨hsound, fun hl hsettled => ?_⟩
  obtain ⟨kept, joined, hq, hkept, -, hj, ha⟩ := horder hl (targetsOwn_of_settled hsettled)
  exact ⟨kept, joined, hq, hkept, hj, ha⟩

end

end Sys2Proof.Machine
end

section
/-!
PROOFS. The ranking (R60 to R66): reasons and verdicts, the eligible list complete and in order, and what a shelf is handed
fixes of it.
-/

namespace Sys2Proof.Machine

section
variable {s t u v : State} {sh : ShelfId} {d : DomainId} {p : PortId}

/-! ## Reasons and verdicts (R62 to R64) -/

theorem effective_eq (r : Domain) (accepted : Nat) :
    r.effective accepted = (if accepted = 0 then r.assume.getD 0 else accepted, accepted == 0 && r.assume.isSome) := by
  unfold Domain.effective
  by_cases h : accepted = 0
  · rw [if_pos h, if_pos h, h]
    cases r.assume <;> rfl
  · rw [if_neg h, if_neg h, beq_false_of_ne h]
    rfl

theorem firstFailing_nil : firstFailing [] = none := rfl

theorem firstFailing_cons (r : Reason) (fails : Bool) (rest : List (Reason × Bool)) :
    firstFailing ((r, fails) :: rest) = if fails then some r else firstFailing rest := by
  unfold firstFailing
  cases fails <;> rfl

/-- The first of checks 5 to 12 that fails. -/
theorem laterReason_eq (s : State) (sh : ShelfId) (d : DomainId) (p : PortId) :
    s.laterReason sh d p = firstFailing ((s.checks sh d p).drop 4) := by
  unfold State.laterReason State.checks
  simp only [List.drop_succ_cons, List.drop_zero, firstFailing_cons, firstFailing_nil, beq_iff_eq, decide_eq_true_eq]

theorem ite_reason_eq_none {c : Prop} [Decidable c] {r : Reason} {x : Option Reason} :
    (if c then some r else x) = none ↔ ¬ c ∧ x = none := by
  split <;> simp [*]

theorem laterReason_none_iff : s.laterReason sh d p = none ↔ s.suits sh d p := by
  unfold State.laterReason State.suits
  simp only [ite_reason_eq_none, and_true]
  have hpolicy : ¬ (s.grades[p].truncated && s.domains[d].truncatedPolicy == .exclude) = true ↔
      s.grades[p].truncated = false ∨ s.domains[d].truncatedPolicy = .accept := by
    cases s.grades[p].truncated <;> cases s.domains[d].truncatedPolicy <;> decide
  rw [hpolicy, not_lt, not_lt, Bool.not_eq_true, Bool.not_eq_true, Bool.not_eq_true, Bool.not_eq_false']
  simp only [List.contains_eq_mem, decide_eq_true_eq, ne_eq]

/-- The port state that a first reason tells of: UP where it is none of the port-state reasons. -/
def stateSeen : Option Reason → PortState
  | some .off => .off
  | some .down => .down
  | some .suspect => .suspect
  | some .qualifying => .qualifying
  | _ => .up

/-- No later reason is one of a port's state. -/
theorem stateSeen_laterReason (s : State) (sh : ShelfId) (d : DomainId) (p : PortId) : stateSeen (s.laterReason sh d p) = .up := by
  unfold State.laterReason
  repeat' split
  all_goals rfl

theorem verdict_port (s : State) (sh : ShelfId) (d : DomainId) (p : PortId) : (s.verdict sh d p).port = p := by
  unfold State.verdict
  split <;> rfl

theorem verdict_eq (s : State) (sh : ShelfId) (d : DomainId) (p : PortId) :
    s.verdict sh d p = { port := p, first := firstFailing (s.checks sh d p),
                         second := if s.ports[p].state = .up then none else firstFailing ((s.checks sh d p).drop 4) } := by
  unfold State.verdict
  rw [laterReason_eq]
  unfold State.checks
  cases s.ports[p].state <;> rfl

/-- A verdict tells the port's state, and whether checks 5 to 12 pass. -/
theorem verdict_tells (s : State) (sh : ShelfId) (d : DomainId) (p : PortId) :
    stateSeen (s.verdict sh d p).first = s.ports[p].state ∧
      (if s.ports[p].state = .up then (s.verdict sh d p).first else (s.verdict sh d p).second) = s.laterReason sh d p := by
  have hlater := stateSeen_laterReason s sh d p
  unfold State.verdict
  cases s.ports[p].state with
  | up => exact ⟨hlater, rfl⟩
  | _ => exact ⟨rfl, rfl⟩

theorem verdict_inj (h : s.verdict sh d p = t.verdict sh d p) :
    s.ports[p].state = t.ports[p].state ∧ s.laterReason sh d p = t.laterReason sh d p := by
  obtain ⟨hs1, hs2⟩ := verdict_tells s sh d p
  obtain ⟨ht1, ht2⟩ := verdict_tells t sh d p
  have hstate : s.ports[p].state = t.ports[p].state := by rw [← hs1, ← ht1, h]
  exact ⟨hstate, by rw [← hs2, ← ht2, h, hstate]⟩

/-! ## The eligible list (R60, R65) -/

theorem admissible_iff : s.admissible sh p = true ↔
    ∃ d, s.shelfDomain sh = some d ∧ s.portDomain p = some d ∧ s.suits sh d p := by
  unfold State.admissible
  cases s.shelfDomain sh <;> simp [laterReason_none_iff]

theorem eligible_iff : s.eligible sh p = true ↔ s.ports[p].state = .up ∧ s.admissible sh p = true := by
  unfold State.eligible
  rw [Bool.and_eq_true, beq_iff_eq]

/-- The entries are those of the eligible ports of the list, each with its place. -/
theorem mem_entriesFrom {e : Entry} {l : List PortId} {n : Nat} :
    e ∈ s.entriesFrom sh d n l ↔ ∃ i, l[i]? = some e.port ∧ s.eligible sh e.port = true ∧ e = s.entry d e.port (n + i) := by
  induction l generalizing n with
  | nil => simp [State.entriesFrom]
  | cons q rest ih =>
    have hsplit : (∃ i, (q :: rest)[i]? = some e.port ∧ s.eligible sh e.port = true ∧ e = s.entry d e.port (n + i)) ↔
        (q = e.port ∧ s.eligible sh e.port = true ∧ e = s.entry d e.port n) ∨
          ∃ i, rest[i]? = some e.port ∧ s.eligible sh e.port = true ∧ e = s.entry d e.port (n + 1 + i) := by
      constructor
      · rintro ⟨i, hi, he⟩
        cases i with
        | zero => exact .inl ⟨Option.some.inj hi, he⟩
        | succ i => exact .inr ⟨i, by simpa using hi, by rw [Nat.add_assoc, Nat.add_comm 1]; exact he⟩
      · rintro (⟨rfl, he⟩ | ⟨i, hi, he⟩)
        · exact ⟨0, rfl, he⟩
        · exact ⟨i + 1, by simpa using hi, by rw [Nat.add_assoc, Nat.add_comm 1] at he; exact he⟩
    rw [hsplit, State.entriesFrom]
    split
    · next he =>
      rw [List.mem_cons, ih]
      refine or_congr_left ⟨?_, ?_⟩
      · rintro rfl
        exact ⟨rfl, he, rfl⟩
      · rintro ⟨rfl, -, h⟩
        exact h
    · next he =>
      rw [ih]
      refine ⟨.inr, fun h => h.resolve_left ?_⟩
      rintro ⟨rfl, he', -⟩
      exact he he'

theorem insertEntry_perm (e : Entry) (l : List Entry) : (insertEntry e l).Perm (e :: l) := by
  induction l with
  | nil => exact .refl _
  | cons f rest ih =>
    unfold insertEntry
    split
    · exact .refl _
    · exact (ih.cons f).trans (.swap e f rest)

theorem sortEntries_perm (l : List Entry) : (sortEntries l).Perm l := by
  induction l with
  | nil => exact .refl _
  | cons e rest ih => exact (insertEntry_perm e _).trans (ih.cons e)

theorem mem_eligibleList {e : Entry} : e ∈ s.eligibleList sh ↔ ∃ d, s.shelfDomain sh = some d ∧
    ∃ i, s.lists[d][i]? = some e.port ∧ s.eligible sh e.port = true ∧ e = s.entry d e.port (1 + i) := by
  unfold State.eligibleList
  cases s.shelfDomain sh with
  | none => simp
  | some d =>
    rw [(sortEntries_perm _).mem_iff, mem_entriesFrom]
    simp

theorem eligible_listed (h : s.eligible sh p = true) : ∃ d, s.shelfDomain sh = some d ∧ p ∈ s.lists[d] := by
  obtain ⟨d, hd, -, hs⟩ := admissible_iff.mp (eligible_iff.mp h).2
  exact ⟨d, hd, hs.1⟩

/-- The list holds exactly the eligible ports (R60). -/
theorem eligibleList_complete : (∃ e ∈ s.eligibleList sh, e.port = p) ↔ s.eligible sh p = true := by
  constructor
  · rintro ⟨e, he, rfl⟩
    obtain ⟨-, -, -, -, h, -⟩ := mem_eligibleList.mp he
    exact h
  · intro h
    obtain ⟨d, hd, hp⟩ := eligible_listed h
    obtain ⟨i, hi⟩ := List.mem_iff_getElem?.mp hp
    exact ⟨s.entry d p (1 + i), mem_eligibleList.mpr ⟨d, hd, i, hi, h, rfl⟩, rfl⟩

/-- R65's order on entries. -/
def Entry.Before (a b : Entry) : Prop :=
  a.grade < b.grade ∨ (a.grade = b.grade ∧ a.holdover = false ∧ b.holdover = true) ∨
    (a.grade = b.grade ∧ a.holdover = b.holdover ∧ a.position < b.position)

theorem ahead_iff {a b : Entry} : a.ahead b = true ↔ a.Before b := by
  unfold Entry.ahead Entry.better Entry.equalQuality Entry.Before
  simp only [Bool.or_eq_true, Bool.and_eq_true, decide_eq_true_eq, beq_iff_eq, Bool.not_eq_true', or_assoc, and_assoc]

theorem Entry.Before.trans {a b c : Entry} (h : a.Before b) (k : b.Before c) : a.Before c := by
  unfold Entry.Before at *
  cases ha : a.holdover <;> cases hb : b.holdover <;> cases hc : c.holdover <;> simp only [ha, hb, hc] at h k ⊢ <;>
    simp at h k ⊢ <;> omega

theorem Entry.Before.total {a b : Entry} (hp : a.position ≠ b.position) (h : ¬ a.Before b) : b.Before a := by
  unfold Entry.Before at *
  cases ha : a.holdover <;> cases hb : b.holdover <;> simp only [ha, hb] at h ⊢ <;> simp at h ⊢ <;> omega

theorem insertEntry_sorted {e : Entry} {l : List Entry} (hl : l.Pairwise Entry.Before)
    (hp : ∀ f ∈ l, e.position ≠ f.position) : (insertEntry e l).Pairwise Entry.Before := by
  induction l with
  | nil => exact List.pairwise_singleton _ _
  | cons f rest ih =>
    obtain ⟨hf, hrest⟩ := List.pairwise_cons.mp hl
    unfold insertEntry
    split
    · next ha =>
      have hef := ahead_iff.mp ha
      refine List.pairwise_cons.mpr ⟨fun g hg => ?_, hl⟩
      rcases List.mem_cons.mp hg with rfl | hg
      · exact hef
      · exact hef.trans (hf g hg)
    · next ha =>
      refine List.pairwise_cons.mpr ⟨fun g hg => ?_, ih hrest fun g hg => hp g (List.mem_cons_of_mem _ hg)⟩
      rcases List.mem_cons.mp ((insertEntry_perm e rest).mem_iff.mp hg) with rfl | hg
      · exact .total (hp f List.mem_cons_self) fun h => ha (ahead_iff.mpr h)
      · exact hf g hg

theorem sortEntries_sorted {l : List Entry} (h : l.Pairwise fun a b => a.position ≠ b.position) :
    (sortEntries l).Pairwise Entry.Before := by
  induction l with
  | nil => exact .nil
  | cons e rest ih =>
    obtain ⟨he, hrest⟩ := List.pairwise_cons.mp h
    exact insertEntry_sorted (ih hrest) fun f hf => he f ((sortEntries_perm rest).mem_iff.mp hf)

theorem entriesFrom_positions (l : List PortId) (n : Nat) :
    (s.entriesFrom sh d n l).Pairwise fun a b => a.position ≠ b.position := by
  induction l generalizing n with
  | nil => exact .nil
  | cons q rest ih =>
    unfold State.entriesFrom
    split
    · refine List.pairwise_cons.mpr ⟨fun e he => ?_, ih _⟩
      obtain ⟨i, -, -, h⟩ := mem_entriesFrom.mp he
      rw [h]
      show n ≠ n + 1 + i
      omega
    · exact ih _

/-- The list stands in the strict order of R65. -/
theorem eligibleList_sorted (s : State) (sh : ShelfId) : (s.eligibleList sh).Pairwise Entry.Before := by
  unfold State.eligibleList
  split
  · exact sortEntries_sorted (entriesFrom_positions _ _)
  · exact .nil

theorem entriesFrom_length (l : List PortId) (n : Nat) : (s.entriesFrom sh d n l).length = (l.filter (s.eligible sh)).length := by
  induction l generalizing n with
  | nil => rfl
  | cons q rest ih =>
    unfold State.entriesFrom
    by_cases h : s.eligible sh q = true
    · rw [if_pos h, List.filter_cons_of_pos h, List.length_cons, List.length_cons, ih]
    · rw [if_neg h, List.filter_cons_of_neg h, ih]

/-- The eligible ports are those with no first reason. -/
theorem verdict_first_isSome (hd : s.shelfDomain sh = some d) (hp : s.portDomain p = some d) :
    (s.verdict sh d p).first.isSome = !s.eligible sh p := by
  unfold State.eligible State.admissible State.verdict
  rw [hd, hp]
  cases s.ports[p].state <;> simp [stateReason]

/-- Eligible and ineligible ports make up the domain (R73). -/
theorem eligibleList_length (hs : s.listsSound) (hd : s.shelfDomain sh = some d) :
    (s.eligibleList sh).length + ((s.verdicts sh).filter fun v => v.first.isSome).length = (s.portsOf d).length := by
  obtain ⟨hin, hnodup, -⟩ := hs d
  have hperm : (s.lists[d].filter (s.eligible sh)).Perm ((s.portsOf d).filter (s.eligible sh)) := by
    refine (List.perm_ext_iff_of_nodup (hnodup.filter _) (((List.nodup_finRange 24).filter _).filter _)).mpr fun p => ?_
    simp only [List.mem_filter, List.mem_finRange, true_and, beq_iff_eq]
    refine and_congr_left fun he => ⟨hin p, fun _ => ?_⟩
    obtain ⟨d', hd', hp⟩ := eligible_listed he
    rw [hd] at hd'
    rwa [Option.some.inj hd']
  have hlist : (s.eligibleList sh).length = ((s.portsOf d).filter (s.eligible sh)).length := by
    unfold State.eligibleList
    rw [hd]
    dsimp only
    rw [(sortEntries_perm _).length_eq, entriesFrom_length, hperm.length_eq]
  have hverdicts : ((s.verdicts sh).filter fun v => v.first.isSome).length =
      ((s.portsOf d).filter fun p => !s.eligible sh p).length := by
    unfold State.verdicts
    rw [hd]
    dsimp only
    rw [List.filter_map, List.length_map]
    congr 1
    refine List.filter_congr fun p hp => ?_
    rw [State.portsOf, List.mem_filter] at hp
    exact verdict_first_isSome hd (beq_iff_eq.mp hp.2)
  rw [hlist, hverdicts]
  exact (List.length_eq_length_filter_add _).symm

end

/-- Settles O20. -/
theorem eligibleListIsCompleteAndInOrder : Obligations.EligibleListIsCompleteAndInOrder := by
  refine ⟨fun sh d s hs hd => ⟨fun p => eligibleList_complete, eligibleList_sorted s sh, eligibleList_length hs hd⟩,
    fun d p s => ?_, fun sh d s hd => ⟨fun p => ⟨?_, ?_⟩, ?_, fun e he => ?_, rfl⟩, fun sh s hd => ⟨?_, ?_, fun p => ⟨?_, ?_⟩⟩⟩
  · rw [State.effectiveGrade, effective_eq]
  · rw [eligible_iff, admissible_iff]
    simp only [hd, Option.some.injEq, exists_eq_left']
    exact and_left_comm
  · rw [admissible_iff]
    simp only [hd, Option.some.injEq, exists_eq_left']
  · rw [State.verdicts, hd]
    exact List.map_congr_left fun p _ => verdict_eq s sh d p
  · obtain ⟨d', hd', i, hi, -, h⟩ := mem_eligibleList.mp he
    rw [hd] at hd'
    obtain rfl := Option.some.inj hd'
    have hpos : e.position = 1 + i := congrArg Entry.position h
    refine ⟨congrArg Entry.grade h, ?_, congrArg Entry.holdover h, by omega, ?_⟩
    · have hassumed : e.assumed = (s.domains[d].effective s.grades[e.port].accepted).2 := congrArg Entry.assumed h
      rw [hassumed, effective_eq]
    · rw [hpos, Nat.add_sub_cancel_left]
      exact hi
  · rw [State.eligibleList, hd]
  · rw [State.verdicts, hd]
  · rw [State.eligible, State.admissible, hd, Bool.and_false]
  · rw [State.admissible, hd]

end Sys2Proof.Machine
end

section
/-!
PROOFS. Where a shelf stands when it has acted on its ranking (R88 to R100, R126, R127, R130, R131), as a relation between the
ranking, the steering and the state; and that acting brings a shelf there.
-/

namespace Sys2Proof.Machine

/-- Where PIN(p) lets a shelf stand (R130, R131). -/
def State.standsPinned (v : State) (sh : ShelfId) (p : PortId) : ShelfState → Prop
  | .held _ => True
  | .queued q => q = p ∧ v.ports[p].activity = true
  | .acquire q _ => q = p ∧ v.ports[p].activity = true
  | .locked c pend => v.ports[p].activity = true ∧
      (c = p ∧ pend = none ∨ c ≠ p ∧ pend.map (·.1) = some p ∧ v.sameDomain sh c = true ∧ v.ports[c].activity = true)
  | .bridge c _ => c = p ∧ v.ports[p].activity = false
  | .freerun => v.ports[p].activity = false
  | .holdover _ => v.ports[p].activity = false
  | .parked => False

/-- Where STEER(p) lets a shelf stand (R126, R127). -/
def State.standsSteered (v : State) (sh : ShelfId) (p : PortId) : ShelfState → Prop
  | .held _ => True
  | .queued q => q = p ∧ v.eligible sh p = true
  | .acquire q _ => q = p ∧ v.eligible sh p = true
  | .locked c pend => v.eligible sh p = true ∧
      (c = p ∧ pend = none ∨ c ≠ p ∧ pend.map (·.1) = some p ∧ v.sameDomain sh c = true ∧ v.ports[c].activity = true)
  | .bridge c _ => c = p ∧ v.admissible sh p = true ∧ v.eligible sh p = false
  | .freerun => False
  | .holdover _ => False
  | .parked => False

/-- Where AUTO lets a shelf stand (R88 to R100). -/
def State.standsAuto (v : State) (sh : ShelfId) : ShelfState → Prop
  | .held _ => True
  | .parked => v.shelfDomain sh = none
  | .freerun => v.shelfDomain sh ≠ none ∧ v.best sh = none
  | .holdover _ => v.shelfDomain sh ≠ none ∧ v.best sh = none
  | .queued q => v.best sh = some q
  | .acquire q _ => v.eligible sh q = true
  | .locked c pend => v.eligible sh c = true ∧ pend = v.switchWanted sh c
  | .bridge c _ => v.admissible sh c = true ∧ v.eligible sh c = false

/-- Where a shelf may stand under a steering with the ranking of `v`: `State.shelfSettled` but for a HELD shelf's nominee. -/
def State.stands (v : State) (sh : ShelfId) (st : Steering) (x : ShelfState) : Prop :=
  match st with
  | .auto => v.standsAuto sh x
  | .steer p => v.sameDomain sh p = true ∧ v.standsSteered sh p x
  | .pin p => v.sameDomain sh p = true ∧ v.ports[p].state ≠ .off ∧ v.standsPinned sh p x

/-- The shelf stands in `t` where the ranking of `v` calls for it. -/
def StandsIn (v t : State) (sh : ShelfId) : Prop := v.stands sh t.shelves[sh].steering t.shelves[sh].state

section
variable {s t u v w : State} {sh : ShelfId} {p : PortId} {x : Ctx}

theorem shelfSettled_iff : s.shelfSettled sh = true ↔
    StandsIn s s sh ∧ ∀ n, s.shelves[sh].state = .held n → n = s.nomineeOf sh := by
  unfold State.shelfSettled StandsIn State.stands State.standsAuto State.standsSteered State.standsPinned
  generalize s.shelves[sh].state = st
  cases s.shelves[sh].steering with
  | auto => cases st <;> simp [Option.ne_none_iff_isSome]
  | steer q =>
    cases st with
    | locked c pend =>
      dsimp only
      by_cases hc : c = q <;> simp [hc, and_assoc]
    | _ => simp [and_assoc]
  | pin q =>
    cases st with
    | locked c pend =>
      dsimp only
      by_cases hc : c = q <;> simp [hc, and_assoc]
    | _ => simp [and_assoc]

/-- Standing speaks of ranking inputs alone. -/
theorem stands_congr (h : LooksAlike s t) (st : Steering) (y : ShelfState) : t.stands sh st y ↔ s.stands sh st y := by
  have hbest : t.best sh = s.best sh := by rw [State.best, State.best, h.eligibleList]
  have hwanted : ∀ c, t.switchWanted sh c = s.switchWanted sh c := fun c => by
    unfold State.switchWanted State.shelfRecord
    rw [h.eligibleList, h.shelfDomain, h.domains]
  unfold State.stands State.standsAuto State.standsSteered State.standsPinned
  simp only [h.shelfDomain, hbest, h.eligible, h.admissible, hwanted, h.sameDomain, h.state, h.activity]

theorem StandsIn.congr_shelf (h : StandsIn v t sh) (hs : u.shelves[sh].steering = t.shelves[sh].steering)
    (hst : u.shelves[sh].state = t.shelves[sh].state) : StandsIn v u sh := by
  unfold StandsIn at *
  rwa [hs, hst]

/-- A waiting shelf that is lent a unit still stands where it may (R82, R96). -/
theorem stands_lent {st : Steering} {y : ShelfState} (h : v.stands sh st y) {q : PortId} (hq : y.waitsFor = some q) (left : Nat) :
    v.stands sh st (.acquire q left) := by
  unfold ShelfState.waitsFor at hq
  cases st with
  | auto =>
    split at hq
    · obtain rfl := Option.some.inj hq
      exact (best_listed h).1
    · obtain rfl := Option.some.inj hq
      exact (best_listed (switchWanted_best h.2.symm)).1
    · cases hq
  | steer r =>
    obtain ⟨hd, h⟩ := h
    refine ⟨hd, ?_⟩
    split at hq
    · obtain rfl := Option.some.inj hq
      exact h
    · obtain rfl := Option.some.inj hq
      obtain ⟨he, ⟨-, e⟩ | ⟨-, e, -⟩⟩ := h
      · cases e
      · exact ⟨Option.some.inj e, he⟩
    · cases hq
  | pin r =>
    obtain ⟨hd, ho, h⟩ := h
    refine ⟨hd, ho, ?_⟩
    split at hq
    · obtain rfl := Option.some.inj hq
      exact h
    · obtain rfl := Option.some.inj hq
      obtain ⟨he, ⟨-, e⟩ | ⟨-, e, -⟩⟩ := h
      · cases e
      · exact ⟨Option.some.inj e, he⟩
    · cases hq

theorem GrantedAtMost.standsIn (h : GrantedAtMost t u sh) (k : StandsIn v t sh) : StandsIn v u sh := by
  obtain ⟨hs, e | ⟨q, left, e, hq⟩⟩ := h
  · exact k.congr_shelf hs e
  · have := stands_lent k hq left
    unfold StandsIn
    rwa [hs, e]

/-! ## Moves -/

theorem toward_stands (hheld : v.shelves[sh].state.isHeld = false) {b : PortId} (cause : Cause)
    (hq : v.stands sh v.shelves[sh].steering (.queued b)) : StandsIn v (v.toward sh b cause) sh := by
  unfold StandsIn
  rw [toward_steering hheld]
  rcases (toward_shelf v sh b cause).1 with e | e <;> rw [e]
  · exact hq
  · exact stands_lent hq rfl _

theorem rest_stands (cause : Cause) (hf : v.stands sh v.shelves[sh].steering .freerun)
    (hh : ∀ left, v.stands sh v.shelves[sh].steering (.holdover left)) : StandsIn v (v.rest sh cause) sh := by
  unfold StandsIn
  rw [rest_shelf]
  show v.stands sh v.shelves[sh].steering (v.restState sh)
  unfold State.restState
  split
  · exact hh _
  · exact hf

theorem reselect_stands (hauto : v.shelves[sh].steering = .auto) (hheld : v.shelves[sh].state.isHeld = false)
    (hd : v.shelfDomain sh ≠ none) (cause : Cause) : StandsIn v (v.reselect sh cause) sh := by
  unfold State.reselect
  rw [choice_auto hauto]
  split
  · next b hb =>
    refine toward_stands hheld cause ?_
    rw [hauto]
    exact hb
  · next hb =>
    refine rest_stands cause ?_ fun _ => ?_ <;> rw [hauto] <;> exact ⟨hd, hb⟩

/-- A LOCKED shelf under AUTO once the switch rule is applied (R95, R96). -/
theorem applySwitchRule_stands (hauto : v.shelves[sh].steering = .auto) {c : PortId} {pend : Option (PortId × Cause)}
    (hs : v.shelves[sh].state = .locked c pend) (he : v.eligible sh c = true) : StandsIn v (v.applySwitchRule sh c) sh := by
  have hlocked : v.shelves[sh].state.isLocked = true := by rw [hs]; rfl
  unfold State.applySwitchRule StandsIn
  split
  · next b cause hw =>
    obtain ⟨K, -, hst, -⟩ := acts_gainPending (s := v) (sh := sh) hlocked c b cause
    rw [hst, hauto]
    rcases gainPending_shelf v sh c b cause with e | ⟨e, -⟩
    · rw [e]
      exact ⟨he, hw.symm⟩
    · rw [e]
      exact (best_listed (switchWanted_best hw)).1
  · next hw =>
    split
    · rw [dropPending_shelf, hauto]
      exact ⟨he, hw.symm⟩
    · next hp =>
      rw [hauto, hs]
      rw [hs] at hp
      refine ⟨he, ?_⟩
      rw [hw]
      exact Option.not_isSome_iff_eq_none.mp hp

/-- A shelf under AUTO that meets a ranking stands where it calls for it, but PARKED in a domain (R101). -/
theorem actAuto_stands (hauto : v.shelves[sh].steering = .auto) (hd : v.shelfDomain sh ≠ none)
    (hp : v.shelves[sh].state ≠ .parked) (x : Ctx) : StandsIn v (v.actAuto sh x) sh := by
  have hreselect : ∀ {v : State} (_ : v.shelves[sh].steering = .auto) (_ : v.shelves[sh].state.isHeld = false)
      (_ : v.shelfDomain sh ≠ none) (cause : Cause), StandsIn v (v.reselect sh cause) sh :=
    fun h1 h2 h3 cause => reselect_stands h1 h2 h3 cause
  have hstay : v.standsAuto sh v.shelves[sh].state → StandsIn v v sh := fun h => by
    unfold StandsIn
    rw [hauto]
    exact h
  unfold State.actAuto
  cases hs : v.shelves[sh].state with
  | held n => exact hstay (by rw [hs]; trivial)
  | parked => exact absurd hs hp
  | freerun =>
    dsimp only
    rw [choice_auto hauto]
    split
    · next b hb => exact toward_stands (by rw [hs]; rfl) _ (by rw [hauto]; exact hb)
    · next hb => exact hstay (by rw [hs]; exact ⟨hd, hb⟩)
  | holdover left =>
    dsimp only
    rw [choice_auto hauto]
    split
    · next b hb => exact toward_stands (by rw [hs]; rfl) _ (by rw [hauto]; exact hb)
    · next hb => exact hstay (by rw [hs]; exact ⟨hd, hb⟩)
  | queued q =>
    dsimp only [State.actQueued]
    split
    · exact reselect_stands hauto (by rw [hs]; rfl) hd _
    · rw [choice_auto hauto]
      split
      · next b hb =>
        split
        · next hbq => exact hstay (by rw [hs, ← hbq]; exact hb)
        · unfold StandsIn
          rw [enterState_self]
          show v.stands sh v.shelves[sh].steering (.queued b)
          rw [hauto]
          exact hb
      · next hb => refine rest_stands _ ?_ fun _ => ?_ <;> rw [hauto] <;> exact ⟨hd, hb⟩
  | acquire q left =>
    dsimp only
    split
    · next he => exact hstay (by rw [hs]; exact he)
    · exact reselect_stands hauto (by rw [hs]; rfl) hd _
  | locked c pend =>
    dsimp only [State.actLocked]
    split
    · next he => exact applySwitchRule_stands hauto hs he
    · next he =>
      unfold State.loseReference
      split
      · next ha =>
        split
        · exact reselect_stands hauto (by rw [hs]; rfl) hd _
        · unfold StandsIn
          rw [bridge_shelf]
          show v.stands sh v.shelves[sh].steering (.bridge c _)
          rw [hauto]
          exact ⟨ha, Bool.eq_false_iff.mpr he⟩
      · exact reselect_stands hauto (by rw [hs]; rfl) hd _
  | bridge c left =>
    dsimp only [State.actBridge]
    split
    · next he =>
      have hin := ((moves_unbridge v sh c).consequences).sameInputs
      have hself := unbridge_shelf v sh c
      have hstands := applySwitchRule_stands (v := v.unbridge sh c) (sh := sh) (by rw [hself]; exact hauto) (by rw [hself]; rfl)
        (by rw [hin.looksAlike.eligible]; exact he)
      exact (stands_congr hin.looksAlike _ _).mp hstands
    · next he =>
      split
      · next ha => exact hstay (by rw [hs]; exact ⟨ha, Bool.eq_false_iff.mpr he⟩)
      · exact reselect_stands hauto (by rw [hs]; rfl) hd _

/-- A shelf that has lost its steering acts and stands where AUTO calls for it. -/
theorem actUnsteered_stands (hd : v.shelfDomain sh ≠ none) (hp : v.shelves[sh].state ≠ .parked) (x : Ctx) :
    StandsIn v (v.actUnsteered sh x) sh := by
  rw [actUnsteered_eq]
  have hself := unsteered_shelf v sh
  have hin : LooksAlike v ((v.unsteered sh).raiseShelf sh .steerLost) := by
    have h1 : SameInputs v (v.unsteered sh) := ⟨rfl, rfl, rfl, rfl, rfl, rfl⟩
    have h2 := (moves_raiseShelf (v.unsteered sh) sh .steerLost).consequences.sameInputs
    exact h1.looksAlike.trans h2.looksAlike
  have hstands := actAuto_stands (v := (v.unsteered sh).raiseShelf sh .steerLost) (sh := sh) (by rw [hself])
    (by rw [hin.shelfDomain]; exact hd) (by
      rw [hself]
      show v.shelves[sh].state.unpended ≠ .parked
      unfold ShelfState.unpended
      split
      · exact nofun
      · exact hp) { x with strict := true }
  exact (stands_congr hin _ _).mp hstands

end

end Sys2Proof.Machine
end

section
/-!
PROOFS. A shelf that stood where the old ranking called for it, and acts on the new one, stands where the new one calls for it.
-/

namespace Sys2Proof.Machine

/-- The ports a steered shelf names: its steering port, and one it is LOCKED to while it waits for that port (R76, R122). -/
def ShelfState.steeredTo (p : PortId) : ShelfState → Prop
  | .held _ => True
  | .queued q => q = p
  | .acquire q _ => q = p
  | .locked c pend => c = p ∧ pend = none ∨ c ≠ p ∧ pend.map (·.1) = some p
  | .bridge c _ => c = p
  | .freerun => True
  | .holdover _ => True
  | .parked => False

/-- What the shelf must be like for its move on the ranking of `v` to bring it where that calls for it. -/
structure Ready (v : State) (sh : ShelfId) (x : Ctx) : Prop where
  parked : v.shelves[sh].state = .parked → v.shelfDomain sh = none
  nowhere : v.shelfDomain sh = none → v.shelves[sh].steering = .auto ∧
    (v.shelves[sh].state = .parked ∨ v.shelves[sh].state.isHeld = true)
  steered : ∀ p, v.shelves[sh].steering = .steer p → v.sameDomain sh p = true ∧ v.shelves[sh].state.steeredTo p ∧
    v.shelves[sh].state.isFreerun = false ∧ v.shelves[sh].state.isHoldover = false
  pinned : ∀ p, v.shelves[sh].steering = .pin p → v.shelves[sh].state.steeredTo p ∧
    ∀ c pend, v.shelves[sh].state = .locked c pend → c ≠ p → x.ceased = false →
      v.sameDomain sh c = true ∧ v.ports[c].activity = true
  up : ∀ p : PortId, v.ports[p].state = .up → v.ports[p].activity = true

section
variable {s t u v w : State} {sh : ShelfId} {p : PortId} {x : Ctx}

theorem Ready.actSteer_stands (h : Ready v sh x) (hst : v.shelves[sh].steering = .steer p) : StandsIn v (v.actSteer sh p x) sh := by
  obtain ⟨hd, hto, hnf, hnh⟩ := h.steered p hst
  have hdom : v.shelfDomain sh ≠ none := fun e => by
    have := (h.nowhere e).1
    rw [hst] at this
    cases this
  have hstay : v.standsSteered sh p v.shelves[sh].state → StandsIn v v sh := fun k => by
    unfold StandsIn
    rw [hst]
    exact ⟨hd, k⟩
  have hlost : v.shelves[sh].state ≠ .parked → StandsIn v (v.actUnsteered sh x) sh := fun k => actUnsteered_stands hdom k x
  unfold State.actSteer
  cases hs : v.shelves[sh].state with
  | held n => exact hstay (by rw [hs]; trivial)
  | parked => rw [hs] at hto; exact hto.elim
  | freerun => rw [hs] at hnf; cases hnf
  | holdover left => rw [hs] at hnh; cases hnh
  | queued q =>
    rw [hs] at hto
    obtain rfl : q = p := hto
    dsimp only
    split
    · next he => exact hstay (by rw [hs]; exact ⟨rfl, he⟩)
    · exact hlost (by rw [hs]; exact nofun)
  | acquire q left =>
    rw [hs] at hto
    obtain rfl : q = p := hto
    dsimp only
    split
    · next he => exact hstay (by rw [hs]; exact ⟨rfl, he⟩)
    · exact hlost (by rw [hs]; exact nofun)
  | bridge c left =>
    rw [hs] at hto
    obtain rfl : c = p := hto
    dsimp only
    split
    · next he =>
      unfold StandsIn
      rw [unbridge_shelf]
      show v.stands sh v.shelves[sh].steering (.locked c none)
      rw [hst]
      exact ⟨hd, he, .inl ⟨rfl, rfl⟩⟩
    · next he =>
      split
      · next ha => exact hstay (by rw [hs]; exact ⟨rfl, ha, Bool.eq_false_iff.mpr he⟩)
      · exact hlost (by rw [hs]; exact nofun)
  | locked c pend =>
    rw [hs] at hto
    dsimp only
    rcases hto with ⟨rfl, hpend⟩ | ⟨hc, hpend⟩
    · rw [if_pos rfl]
      split
      · next he => exact hstay (by rw [hs]; exact ⟨he, .inl ⟨rfl, hpend⟩⟩)
      · next he =>
        split
        · next ha =>
          unfold StandsIn
          rw [bridge_shelf]
          show v.stands sh v.shelves[sh].steering (.bridge c _)
          rw [hst]
          exact ⟨hd, rfl, (Bool.and_eq_true_iff.mp ha).1, Bool.eq_false_iff.mpr he⟩
        · exact hlost (by rw [hs]; exact nofun)
    · rw [if_neg hc]
      split
      · next he =>
        split
        · next hec =>
          exact hstay (by
            rw [hs]
            exact ⟨he, .inr ⟨hc, hpend, eligible_sameDomain hec, h.up c (eligible_iff.mp hec).1⟩⟩)
        · refine toward_stands (by rw [hs]; rfl) _ ?_
          rw [hst]
          exact ⟨hd, rfl, he⟩
      · exact hlost (by rw [hs]; exact nofun)

theorem Ready.actPin_stands (h : Ready v sh x) (hst : v.shelves[sh].steering = .pin p) : StandsIn v (v.actPin sh p x) sh := by
  obtain ⟨hto, hceased⟩ := h.pinned p hst
  have hdom : v.shelfDomain sh ≠ none := fun e => by
    have := (h.nowhere e).1
    rw [hst] at this
    cases this
  have hnp : v.shelves[sh].state ≠ .parked := fun e => hdom (h.parked e)
  unfold State.actPin
  split
  · exact actUnsteered_stands hdom hnp x
  next hin =>
  rw [Bool.or_eq_true, not_or, beq_iff_eq, Bool.not_eq_true', Bool.not_eq_false] at hin
  obtain ⟨hoff, hd⟩ := hin
  have hstay : v.standsPinned sh p v.shelves[sh].state → StandsIn v v sh := fun k => by
    unfold StandsIn
    rw [hst]
    exact ⟨hd, hoff, k⟩
  have hgo : v.shelves[sh].state.isHeld = false → v.ports[p].activity = true → ∀ cause, StandsIn v (v.toward sh p cause) sh :=
    fun hheld ha cause => toward_stands hheld cause (by rw [hst]; exact ⟨hd, hoff, rfl, ha⟩)
  split
  · next ha =>
    unfold State.actPinActive
    cases hs : v.shelves[sh].state with
    | held n => exact hstay (by rw [hs]; trivial)
    | parked => exact absurd hs hnp
    | freerun => exact hgo (by rw [hs]; rfl) ha _
    | holdover left => exact hgo (by rw [hs]; rfl) ha _
    | queued q =>
      rw [hs] at hto
      exact hstay (by rw [hs]; exact ⟨hto, ha⟩)
    | acquire q left =>
      rw [hs] at hto
      exact hstay (by rw [hs]; exact ⟨hto, ha⟩)
    | bridge c left =>
      rw [hs] at hto
      obtain rfl : c = p := hto
      dsimp only
      rw [if_pos rfl]
      unfold StandsIn
      rw [unbridge_shelf]
      show v.stands sh v.shelves[sh].steering (.locked c none)
      rw [hst]
      exact ⟨hd, hoff, ha, .inl ⟨rfl, rfl⟩⟩
    | locked c pend =>
      rw [hs] at hto
      dsimp only
      split
      · exact hgo (by rw [hs]; rfl) ha _
      · next hno =>
        rcases hto with ⟨rfl, hpend⟩ | ⟨hc, hpend⟩
        · exact hstay (by rw [hs]; exact ⟨ha, .inl ⟨rfl, hpend⟩⟩)
        · have hx : x.ceased = false := by
            cases hx : x.ceased with
            | false => rfl
            | true => simp [hc, hx] at hno
          exact hstay (by rw [hs]; exact ⟨ha, .inr ⟨hc, hpend, hceased c pend hs hc hx⟩⟩)
  · next ha =>
    rw [Bool.not_eq_true] at ha
    have hrest : ∀ cause, StandsIn v (v.rest sh cause) sh := fun cause => by
      refine rest_stands cause ?_ fun _ => ?_ <;> rw [hst] <;> exact ⟨hd, hoff, ha⟩
    unfold State.actPinInactive
    cases hs : v.shelves[sh].state with
    | held n => exact hstay (by rw [hs]; trivial)
    | parked => exact absurd hs hnp
    | freerun => exact hstay (by rw [hs]; exact ha)
    | holdover left => exact hstay (by rw [hs]; exact ha)
    | queued q => exact hrest _
    | acquire q left => exact hrest _
    | bridge c left =>
      rw [hs] at hto
      exact hstay (by rw [hs]; exact ⟨hto, ha⟩)
    | locked c pend =>
      dsimp only
      split
      · next hc =>
        obtain rfl : c = p := of_decide_eq_true (Bool.and_eq_true_iff.mp hc).1
        unfold StandsIn
        rw [bridge_shelf]
        show v.stands sh v.shelves[sh].steering (.bridge c _)
        rw [hst]
        exact ⟨hd, hoff, rfl, ha⟩
      · exact hrest _

/-- A shelf that is ready and acts stands where its ranking calls for it. -/
theorem Ready.act_stands (h : Ready v sh x) : StandsIn v (v.act sh x) sh := by
  unfold State.act
  cases hst : v.shelves[sh].steering with
  | steer p => exact h.actSteer_stands hst
  | pin p => exact h.actPin_stands hst
  | auto =>
    by_cases hd : v.shelfDomain sh = none
    · have hsame : v.actAuto sh x = v := by
        unfold State.actAuto
        rcases (h.nowhere hd).2 with e | e
        · rw [e]
        · rw [held_nominee e]
      dsimp only
      rw [hsame]
      unfold StandsIn
      rw [hst]
      rcases (h.nowhere hd).2 with e | e
      · rw [e]
        exact hd
      · rw [held_nominee e]
        trivial
    · exact actAuto_stands hst hd (fun e => hd (h.parked e)) x

/-! ## Readiness -/

theorem stands_nowhere {st : Steering} {y : ShelfState} (h : s.stands sh st y) (hd : s.shelfDomain sh = none) :
    st = .auto ∧ (y = .parked ∨ y.isHeld = true) := by
  have hno : ∀ q, s.sameDomain sh q ≠ true := fun q hq => by
    obtain ⟨d, e, -⟩ := (sameDomain_iff s sh q).mp hq
    rw [hd] at e
    cases e
  cases st with
  | steer q => exact absurd h.1 (hno q)
  | pin q => exact absurd h.1 (hno q)
  | auto =>
    refine ⟨rfl, ?_⟩
    cases y with
    | held n => exact .inr rfl
    | parked => exact .inl rfl
    | freerun => exact absurd hd h.1
    | holdover left => exact absurd hd h.1
    | queued q => exact absurd (eligible_sameDomain (best_listed h).1) (hno q)
    | acquire q left => exact absurd (eligible_sameDomain h) (hno q)
    | locked c pend => exact absurd (eligible_sameDomain h.1) (hno c)
    | bridge c left => exact absurd (admissible_sameDomain h.1) (hno c)

theorem stands_parked {st : Steering} (h : s.stands sh st .parked) : st = .auto ∧ s.shelfDomain sh = none := by
  cases st with
  | auto => exact ⟨rfl, h⟩
  | steer q => exact h.2.elim
  | pin q => exact h.2.2.elim

theorem standsSteered_to {y : ShelfState} (h : s.standsSteered sh p y) :
    y.steeredTo p ∧ y.isFreerun = false ∧ y.isHoldover = false := by
  cases y with
  | locked c pend =>
    exact ⟨h.2.imp id fun k => ⟨k.1, k.2.1⟩, rfl, rfl⟩
  | queued q => exact ⟨h.1, rfl, rfl⟩
  | acquire q left => exact ⟨h.1, rfl, rfl⟩
  | bridge c left => exact ⟨h.1, rfl, rfl⟩
  | held n => exact ⟨trivial, rfl, rfl⟩
  | _ => exact h.elim

theorem standsPinned_to {y : ShelfState} (h : s.standsPinned sh p y) : y.steeredTo p ∧
    ∀ c pend, y = .locked c pend → c ≠ p → s.sameDomain sh c = true ∧ s.ports[c].activity = true := by
  cases y with
  | locked c pend =>
    refine ⟨h.2.imp id fun k => ⟨k.1, k.2.1⟩, fun c' pend' e hc => ?_⟩
    injection e with e1 e2
    subst e1
    exact h.2.elim (fun k => absurd k.1 hc) fun k => k.2.2
  | queued q => exact ⟨h.1, nofun⟩
  | acquire q left => exact ⟨h.1, nofun⟩
  | bridge c left => exact ⟨h.1, nofun⟩
  | held n => exact ⟨trivial, nofun⟩
  | freerun => exact ⟨trivial, nofun⟩
  | holdover left => exact ⟨trivial, nofun⟩
  | parked => exact h.elim

/-- A shelf that stood where the old ranking called for it is ready for the new one, where its domain is the same and holds the
port it is steered to. -/
theorem StandsIn.ready (h : StandsIn s v sh) (hd : v.shelfDomain sh = s.shelfDomain sh)
    (hst : ∀ p, v.shelves[sh].steering = .steer p → v.sameDomain sh p = true)
    (hx : x.ceased = State.ceased s v sh) (hup : ∀ p : PortId, v.ports[p].state = .up → v.ports[p].activity = true) :
    Ready v sh x := by
  unfold StandsIn at h
  refine ⟨fun e => ?_, fun e => stands_nowhere h (hd.symm.trans e), fun p e => ?_, fun p e => ?_, hup⟩
  · rw [e] at h
    exact hd.trans (stands_parked h).2
  · rw [e] at h
    exact ⟨hst p e, standsSteered_to h.2⟩
  · rw [e] at h
    obtain ⟨hto, hlocked⟩ := standsPinned_to h.2.2
    refine ⟨hto, fun c pend hs hc hno => ?_⟩
    obtain ⟨h1, h2⟩ := hlocked c pend hs hc
    rw [hx, State.ceased, hs] at hno
    simp only [ShelfState.reference?, h1, h2, Bool.true_and, Bool.or_eq_false_iff, Bool.not_eq_false'] at hno
    exact ⟨hno.1.2, hno.2⟩

end

end Sys2Proof.Machine
end

section
/-!
PROOFS. A port's activity is confirmed exactly in SUSPECT, QUALIFYING and UP, also after a change of inputs (1.4); and what a
shelf is handed fixes where it is called to stand (R68, R70).
-/

namespace Sys2Proof.Machine

/-- The port states in which activity is confirmed (1.4). -/
def PortState.awake : PortState → Bool
  | .off => false
  | .down => false
  | .suspect => true
  | .qualifying => true
  | .up => true

/-- Every port's activity is as its state says. -/
def State.awake (s : State) : Prop := ∀ p : PortId, s.ports[p].activity = s.ports[p].state.awake

section
variable {s t u : State} {sh : ShelfId} {p : PortId} {r : Port}

theorem State.portsSound.awake (h : s.portsSound) : s.awake := fun p => by
  obtain ⟨⟨-, -, -, ha⟩, -⟩ := (Port.sound_iff _ _).mp (h p)
  rw [Bool.eq_iff_iff, ha]
  cases s.ports[p].state <;> decide

theorem LooksAlike.awake (h : LooksAlike s t) (hs : s.awake) : t.awake := fun p => by
  rw [h.activity, h.state]
  exact hs p

theorem awake_congr (h : s.awake) (hp : t.ports = s.ports) : t.awake := fun p => by
  rw [hp]
  exact h p

theorem qualify_awake (s : State) (p : PortId) (h : r.activity = true) :
    (s.qualify p r).activity = (s.qualify p r).state.awake := by
  unfold State.qualify
  split
  · split <;> exact h
  · exact h

theorem awake_putPort (h : s.awake) (hr : r.activity = r.state.awake) : (s.putPort p r).awake := fun q => by
  rw [putPort_get]
  split
  · exact hr
  · exact h q

theorem leaveUp_activity (s : State) (p : PortId) (r : Port) :
    (s.leaveUp p r).activity = r.activity ∧ (s.leaveUp p r).state = r.state := by
  rw [leaveUp_only]
  exact ⟨rfl, rfl⟩

theorem distrusted_awake (h : r.activity = r.state.awake) : (s.distrusted p r).activity = (s.distrusted p r).state.awake := by
  unfold State.distrusted
  split
  · next hs =>
    refine qualify_awake s p ?_
    rw [beq_iff_eq] at hs
    rw [hs] at h
    exact h
  · exact h

theorem awake_setLatch (h : s.awake) (source : LatchSource) : (s.setLatch source).awake := by
  cases hl : s.osc.latch with
  | true => exact awake_congr h (by rw [setLatch_set hl]; rfl)
  | false =>
    intro p
    rw [(distrusts_setLatch hl source).ports]
    exact distrusted_awake (h p)

theorem awake_checkJudged (h : s.awake) (o : CheckOutcome) (d : Option Int) : (s.checkJudged o d).awake := by
  cases o with
  | pass => exact (checkJudged_pass_looksAlike s d).awake h
  | fail =>
    show (State.setLatch _ _).awake
    refine awake_setLatch ?_ _
    exact awake_congr h rfl
  | inconclusive => exact awake_congr h rfl

theorem awake_endCheck (h : s.awake) (o : CheckOutcome) (d : Option Int) : (s.endCheck o d).awake := by
  have hj := awake_checkJudged h o d
  rw [endCheck_eq]
  split
  · intro p
    rw [endInit_port]
    exact hj p
  · exact awake_congr hj rfl

theorem awake_loseGuard (h : s.awake) : s.loseGuard.awake := by
  unfold State.loseGuard
  dsimp only
  split
  · refine awake_endCheck ?_ _ _
    exact awake_congr h rfl
  · exact awake_congr h rfl

theorem awake_verdict (h : r.activity = r.state.awake) (ha : r.activity = true) :
    (s.inBand p r).activity = (s.inBand p r).state.awake ∧ (s.outOfBand p r).activity = (s.outOfBand p r).state.awake := by
  constructor
  · unfold State.inBand
    dsimp only
    split
    · exact qualify_awake s p ha
    · exact h
  · unfold State.outOfBand
    dsimp only
    split
    · exact (leaveUp_activity s p _).1.trans ha
    · exact h

theorem setupRecord_awake (h : s.ports[p].activity = s.ports[p].state.awake)
    (hoff : s.ports[p].setup.enabled = true ↔ s.ports[p].state ≠ .off) (new : PortSetup) :
    (s.setupRecord p new).activity = (s.setupRecord p new).state.awake := by
  unfold State.setupRecord
  split
  · rfl
  · next he _ =>
    have hs : s.ports[p].state = .off := by
      by_contra hne
      rw [hoff.mpr hne] at he
      cases he
    rw [hs] at h
    exact h
  · exact h
  · exact h

theorem InputChange.awake (h : InputChange s u) (hs : s.portsSound) : u.awake := by
  have ha := hs.awake
  have hgrades : ∀ {w : State}, GradesOnly s w → w.awake := fun hg => by
    rw [hg]
    exact awake_congr ha rfl
  cases h with
  | confirm p _ _ =>
    refine awake_putPort ha ?_
    exact qualify_awake s p (r := { s.ports[p] with activity := true, since := s.now }) rfl
  | lose p _ => exact awake_putPort ha rfl
  | window p m hw =>
    obtain ⟨-, hwin⟩ := (Port.sound_iff _ _).mp (hs p)
    obtain ⟨-, hact, -⟩ := hwin.mp (Option.isSome_iff_ne_none.mpr hw)
    have hv := awake_verdict (s := s) (p := p) (r := { s.ports[p] with offset := some (roundOffset m), window := some 0 })
      (ha p) hact
    refine awake_putPort ha ?_
    split
    · exact hv.1
    · exact hv.2
  | restore p hq =>
    refine awake_putPort ha ?_
    have hact := ha p
    rw [hq] at hact
    exact hact
  | setup p new _ =>
    obtain ⟨⟨-, hoff, -, -⟩, -⟩ := (Port.sound_iff _ _).mp (hs p)
    intro q
    rw [replaceSetup_ports, Fin.getElem_fin, Vector.getElem_set]
    split
    · exact setupRecord_awake (ha p) hoff new
    · exact ha q
  | message p bytes bad => exact hgrades (gradesOnly_completeMessage s p bytes bad)
  | byte p b bad => exact hgrades (gradesOnly_receiveByte s p b bad)
  | gradeExpiry p => exact hgrades (gradesOnly_putGrade s p _)
  | nodeId own => exact hgrades (gradesOnly_setNodeId s own)
  | cell x p v => exact awake_congr ha rfl
  | cells w w' place values =>
    rw [writeCells_only]
    exact awake_congr ha rfl
  | list d list _ _ _ => exact awake_congr ha rfl
  | background m =>
    unfold State.completeBackground
    dsimp only
    split
    · exact awake_congr ha rfl
    · refine awake_setLatch ?_ _
      exact awake_congr ha rfl
  | check m => exact awake_endCheck ha _ _
  | startCheck _ =>
    unfold State.startCheck
    split
    · exact awake_congr ha rfl
    · exact awake_endCheck ha _ _

/-! ## What a shelf is handed -/

/-- Two rankings of one shelf that show it the same: what it is handed, its domain and, where it waits LOCKED under AUTO, whether
the switch rule is revertive. -/
structure SameView (s t : State) (sh : ShelfId) : Prop where
  domain : t.shelfDomain sh = s.shelfDomain sh
  entries : t.eligibleList sh = s.eligibleList sh
  verdicts : t.verdicts sh = s.verdicts sh
  awake : t.awake
  awakeOld : s.awake

theorem SameView.eligible (h : SameView s t sh) (p : PortId) : t.eligible sh p = s.eligible sh p := by
  rw [Bool.eq_iff_iff, ← eligibleList_complete, ← eligibleList_complete, h.entries]

theorem SameView.best (h : SameView s t sh) : t.best sh = s.best sh := by
  unfold State.best
  rw [h.entries]

/-- A port is in the shelf's domain exactly where there is a verdict on it. -/
theorem sameDomain_iff_verdict : s.sameDomain sh p = true ↔ ∃ v ∈ s.verdicts sh, v.port = p := by
  rw [sameDomain_iff]
  unfold State.verdicts
  cases hd : s.shelfDomain sh with
  | none => simp
  | some d =>
    simp only [Option.some.injEq, exists_eq_left', List.mem_map]
    constructor
    · intro h
      exact ⟨_, ⟨p, List.mem_filter.mpr ⟨List.mem_finRange p, beq_iff_eq.mpr h⟩, rfl⟩, verdict_port s sh d p⟩
    · rintro ⟨v, ⟨q, hq, rfl⟩, hv⟩
      rw [verdict_port] at hv
      rw [← hv]
      exact beq_iff_eq.mp (List.mem_filter.mp hq).2

theorem SameView.sameDomain (h : SameView s t sh) (p : PortId) : t.sameDomain sh p = s.sameDomain sh p := by
  rw [Bool.eq_iff_iff, sameDomain_iff_verdict, sameDomain_iff_verdict, h.verdicts]

theorem mem_verdicts {d : DomainId} (hd : s.shelfDomain sh = some d) (h : s.sameDomain sh p = true) :
    s.verdict sh d p ∈ s.verdicts sh := by
  obtain ⟨d', hd', hp⟩ := (sameDomain_iff s sh p).mp h
  rw [hd] at hd'
  obtain rfl := Option.some.inj hd'
  unfold State.verdicts
  rw [hd]
  exact List.mem_map_of_mem (List.mem_filter.mpr ⟨List.mem_finRange p, beq_iff_eq.mpr hp⟩)

theorem verdict_of_mem {d : DomainId} (hd : s.shelfDomain sh = some d) {v : Verdict} (h : v ∈ s.verdicts sh) :
    v = s.verdict sh d v.port := by
  unfold State.verdicts at h
  rw [hd] at h
  obtain ⟨q, -, rfl⟩ := List.mem_map.mp h
  rw [verdict_port]

/-- The ports of the domain have the same state and the same standing in checks 5 to 12. -/
theorem SameView.port (h : SameView s t sh) {d : DomainId} (hd : s.shelfDomain sh = some d) (hp : s.sameDomain sh p = true) :
    t.ports[p].state = s.ports[p].state ∧ t.laterReason sh d p = s.laterReason sh d p := by
  have hm := mem_verdicts hd hp
  rw [← h.verdicts] at hm
  have hv := verdict_of_mem (h.domain.trans hd) hm
  rw [verdict_port] at hv
  obtain ⟨h1, h2⟩ := verdict_inj hv
  exact ⟨h1.symm, h2.symm⟩

theorem SameView.admissible (h : SameView s t sh) (p : PortId) : t.admissible sh p = s.admissible sh p := by
  by_cases hp : s.sameDomain sh p = true
  · obtain ⟨d, hd, hpd⟩ := (sameDomain_iff s sh p).mp hp
    obtain ⟨d', hd', hpd'⟩ := (sameDomain_iff t sh p).mp ((h.sameDomain p).trans hp)
    unfold State.admissible
    rw [h.domain, hd]
    rw [h.domain, hd] at hd'
    obtain rfl := Option.some.inj hd'
    dsimp only
    rw [hpd, hpd', (h.port hd hp).2]
  · have hp' : ¬ t.sameDomain sh p = true := by rwa [h.sameDomain]
    rw [Bool.eq_false_iff.mpr fun k => hp (admissible_sameDomain k), Bool.eq_false_iff.mpr fun k => hp' (admissible_sameDomain k)]

theorem SameView.state (h : SameView s t sh) (hp : s.sameDomain sh p = true) : t.ports[p].state = s.ports[p].state := by
  obtain ⟨d, hd, -⟩ := (sameDomain_iff s sh p).mp hp
  exact (h.port hd hp).1

theorem SameView.activity (h : SameView s t sh) (hp : s.sameDomain sh p = true) : t.ports[p].activity = s.ports[p].activity := by
  rw [h.awake, h.awakeOld, h.state hp]

theorem SameView.switchWanted (h : SameView s t sh)
    (hr : (t.shelfRecord sh).map Domain.revertive = (s.shelfRecord sh).map Domain.revertive) (c : PortId) :
    t.switchWanted sh c = s.switchWanted sh c := by
  unfold State.switchWanted
  rw [h.entries]
  cases hs : s.shelfRecord sh with
  | none =>
    rw [hs] at hr
    rw [Option.map_eq_none_iff.mp hr]
  | some r =>
    rw [hs] at hr
    obtain ⟨r', ht, hrr⟩ := Option.map_eq_some_iff.mp hr
    rw [ht]
    cases (s.eligibleList sh).head? with
    | none => rfl
    | some b =>
      cases (s.eligibleList sh).find? fun e => e.port == c with
      | none => rfl
      | some e =>
        dsimp only
        rw [hrr]

/-- A shelf that the change shows nothing new stands where it is called to. -/
theorem SameView.stands (h : SameView s t sh) {st : Steering} {y : ShelfState}
    (hr : st = .auto → y.isLocked = true → (t.shelfRecord sh).map Domain.revertive = (s.shelfRecord sh).map Domain.revertive)
    (k : s.stands sh st y) : t.stands sh st y := by
  cases st with
  | auto =>
    change s.standsAuto sh y at k
    show t.standsAuto sh y
    unfold State.standsAuto at k ⊢
    simp only [h.domain, h.best, h.eligible, h.admissible]
    split <;> try exact k
    next c pend =>
    rw [h.switchWanted (hr rfl rfl)]
    exact k
  | steer p =>
    obtain ⟨hd, k⟩ := k
    refine ⟨(h.sameDomain p).trans hd, ?_⟩
    unfold State.standsSteered at k ⊢
    simp only [h.eligible, h.admissible, h.sameDomain]
    split <;> try exact k
    obtain ⟨ke, k⟩ := k
    exact ⟨ke, k.imp id fun ⟨h1, h2, h3, h4⟩ => ⟨h1, h2, h3, (h.activity h3).trans h4⟩⟩
  | pin p =>
    obtain ⟨hd, hoff, k⟩ := k
    refine ⟨(h.sameDomain p).trans hd, fun e => hoff ((h.state hd).symm.trans e), ?_⟩
    unfold State.standsPinned at k ⊢
    simp only [h.activity hd, h.sameDomain]
    split <;> try exact k
    obtain ⟨ke, k⟩ := k
    exact ⟨ke, k.imp id fun ⟨h1, h2, h3, h4⟩ => ⟨h1, h2, h3, (h.activity h3).trans h4⟩⟩

end

end Sys2Proof.Machine
end

section
/-!
PROOFS. Shelves that act in turn on a change are each placed where the new ranking calls for them, and the others stay where they
were, but for a unit lent (R68, R80, R82).
-/

namespace Sys2Proof.Machine

/-- The shelf, as it is in `v`, stands where the ranking of `u` calls for it, and is not left LOCKED under STEER to a port that is
not eligible. -/
def Placed (u v : State) (sh : ShelfId) : Prop :=
  StandsIn u v sh ∧ ∀ (p c : PortId) (pend : Option (PortId × Cause)), v.shelves[sh].steering = .steer p →
    v.shelves[sh].state = .locked c pend → u.eligible sh c = true

/-- One shelf's turn: the ranking stays, the shelf is placed, the others stay but for a unit lent. -/
structure PlacedTurn (v w : State) (sh : ShelfId) : Prop where
  inputs : LooksAlike v w
  placed : Placed v w sh
  others : ∀ x : ShelfId, x ≠ sh → GrantedAtMost v w x

/-- Some shelves have had their turn on the ranking of `u`. -/
structure Underway (u v : State) (done : ShelfId → Prop) : Prop where
  inputs : LooksAlike u v
  placed : ∀ x, done x → Placed u v x
  waiting : ∀ x, ¬ done x → GrantedAtMost u v x

section
variable {s t u v w : State} {sh : ShelfId} {p : PortId} {x : Ctx} {done : ShelfId → Prop}

theorem GrantedAtMost.placed (h : GrantedAtMost v w sh) (k : Placed u v sh) : Placed u w sh := by
  refine ⟨h.standsIn k.1, fun p c pend hst hs => ?_⟩
  obtain ⟨hsteer, e | ⟨q, left, e, -⟩⟩ := h
  · exact k.2 p c pend (hsteer ▸ hst) (e ▸ hs)
  · rw [e] at hs
    cases hs

theorem LooksAlike.placed (h : LooksAlike u v) : Placed v w sh ↔ Placed u w sh := by
  unfold Placed StandsIn
  rw [stands_congr h]
  simp only [h.eligible]

theorem Underway.start (u : State) : Underway u u fun _ => False :=
  ⟨SameInputs.looksAlike ⟨rfl, rfl, rfl, rfl, rfl, rfl⟩, nofun, fun _ _ => ⟨rfl, .inl rfl⟩⟩

theorem Underway.turn (h : Underway u v done) (k : PlacedTurn v w sh) : Underway u w fun x => done x ∨ x = sh := by
  have hplaced : ∀ {x}, Placed v w x → Placed u w x := fun hx => h.inputs.placed.mp hx
  refine ⟨h.inputs.trans k.inputs, fun x hx => ?_, fun x hx => ?_⟩
  · by_cases e : x = sh
    · rw [e]
      exact hplaced k.placed
    · exact (k.others x e).placed (h.placed x (hx.resolve_right e))
  · obtain ⟨hnot, hne⟩ := not_or.mp hx
    exact (h.waiting x hnot).trans (k.others x hne)

/-- Shelves that take their turns one after the other, each once. -/
theorem Underway.foldl {f : State → ShelfId → State} (l : List ShelfId) (hl : l.Nodup)
    (hf : ∀ v, ∀ x ∈ l, LooksAlike u v → GrantedAtMost u v x → PlacedTurn v (f v x) x) (hnot : ∀ x ∈ l, ¬ done x)
    (h : Underway u v done) : Underway u (l.foldl f v) fun x => done x ∨ x ∈ l := by
  induction l generalizing v done with
  | nil => simpa using h
  | cons sh rest ih =>
    obtain ⟨hsh, hrest⟩ := List.nodup_cons.mp hl
    have hturn := h.turn (hf v sh List.mem_cons_self h.inputs (h.waiting sh (hnot sh List.mem_cons_self)))
    have hend := ih hrest (fun v x hx => hf v x (List.mem_cons_of_mem _ hx)) (fun x hx hdone => hdone.elim
      (hnot x (List.mem_cons_of_mem _ hx)) fun (e : x = sh) => hsh (e ▸ hx)) hturn
    simpa only [List.foldl_cons, List.mem_cons, or_assoc] using hend

/-- The shelves that act in one change, in whatever order. -/
theorem underway_inTurn {f : State → ShelfId → State} {l : List ShelfId} (hl : l.Nodup)
    (hf : ∀ v, ∀ x ∈ l, LooksAlike u v → GrantedAtMost u v x → PlacedTurn v (f v x) x) :
    Underway u (u.inTurn l f) fun x => x ∈ l := by
  obtain ⟨order, n, hperm, e⟩ := inTurn_order u l f
  have hstart : Underway u { u with freeCount := n } fun _ => False :=
    ⟨SameInputs.looksAlike ⟨rfl, rfl, rfl, rfl, rfl, rfl⟩, nofun, fun _ _ => ⟨rfl, .inl rfl⟩⟩
  have hend := hstart.foldl order (hperm.nodup_iff.mpr hl) (fun v x hx => hf v x (hperm.mem_iff.mp hx)) (fun _ _ => id)
  rw [e]
  simpa only [false_or, hperm.mem_iff] using hend

/-! ## A turn under a ranking -/

theorem toward_not_locked (s : State) (sh : ShelfId) (q : PortId) (cause : Cause) {c : PortId} {pend : Option (PortId × Cause)} :
    (s.toward sh q cause).shelves[sh].state ≠ .locked c pend := fun h => by
  rcases (toward_shelf s sh q cause).1 with e | e <;> rw [e] at h <;> cases h

/-- A shelf under STEER that acts and is left LOCKED under it names an eligible port (R126). -/
theorem actSteer_reference {q c : PortId} {pend : Option (PortId × Cause)}
    (hst : (v.actSteer sh p x).shelves[sh].steering = .steer q) (hs : (v.actSteer sh p x).shelves[sh].state = .locked c pend) :
    v.eligible sh c = true := by
  have hlost : v.actSteer sh p x ≠ v.actUnsteered sh x := fun e => by
    rw [e, actUnsteered_auto] at hst
    cases hst
  unfold State.actSteer at hs hlost
  cases hv : v.shelves[sh].state with
  | locked c' pend' =>
    simp only [hv] at hs hlost
    split_ifs at hs hlost with h1 h2 h3 h4 h5
    · rw [hv] at hs
      cases hs
      rwa [h1]
    · rw [bridge_shelf] at hs
      cases hs
    · exact absurd rfl hlost
    · rw [hv] at hs
      cases hs
      exact h5
    · exact absurd hs (toward_not_locked v sh p _)
    · exact absurd rfl hlost
  | bridge c' left =>
    simp only [hv] at hs hlost
    split_ifs at hs hlost with h1 h2
    · rw [unbridge_shelf] at hs
      cases hs
      exact h1
    · rw [hv] at hs
      cases hs
    · exact absurd rfl hlost
  | queued q' =>
    simp only [hv] at hs hlost
    split_ifs at hs hlost
    · rw [hv] at hs
      cases hs
    · exact absurd rfl hlost
  | acquire q' left =>
    simp only [hv] at hs hlost
    split_ifs at hs hlost
    · rw [hv] at hs
      cases hs
    · exact absurd rfl hlost
  | _ =>
    simp only [hv] at hs
    cases hs

theorem act_reference {q c : PortId} {pend : Option (PortId × Cause)}
    (hst : (v.act sh x).shelves[sh].steering = .steer q) (hs : (v.act sh x).shelves[sh].state = .locked c pend) :
    v.eligible sh c = true := by
  obtain ⟨K, hm⟩ := moved_act v sh x
  have hsame : v.shelves[sh].steering = .steer q := by
    rcases hm.steering with e | ⟨-, e⟩
    · rw [← e]
      exact hst
    · rw [e] at hst
      cases hst
  unfold State.act at hst hs
  rw [hsame] at hst hs
  exact actSteer_reference hst hs

/-- A shelf ready for the ranking that acts on it has had its turn. -/
theorem Ready.placedTurn (h : Ready v sh x) : PlacedTurn v (v.act sh x) sh := by
  obtain ⟨K, hm⟩ := moved_act v sh x
  exact ⟨hm.moves.consequences.sameInputs.looksAlike, ⟨h.act_stands, fun q c pend hst hs => act_reference hst hs⟩,
    fun y hy => hm.grantedAtMost hy⟩

end

end Sys2Proof.Machine
end

section
/-!
PROOFS. A change of ranking inputs leaves every shelf where its ranking and its steering call for it (R68, R71, R76, R125).
-/

namespace Sys2Proof.Machine

/-- The shelf was LOCKED to the port in `s`, under STEER or PIN and though the port was not eligible, and the ranking of `v` shows
it nothing else. -/
def WaitedOn (s v : State) (sh : ShelfId) (c : PortId) : Prop :=
  s.shelves[sh].state.isLocked = true ∧ s.shelves[sh].state.reference? = some c ∧ s.shelves[sh].steering ≠ .auto ∧
    s.eligible sh c = false ∧ v.verdicts sh = s.verdicts sh ∧ v.eligibleList sh = s.eligibleList sh

/-- The shelf stands in `v` where it is called to, and waits there on a port that is not eligible only as it did in `s`. -/
def Settles (s v : State) (sh : ShelfId) : Prop :=
  StandsIn v v sh ∧ ∀ (p c : PortId) (pend : Option (PortId × Cause)), v.shelves[sh].steering = .steer p →
    v.shelves[sh].state = .locked c pend → v.eligible sh c = false → WaitedOn s v sh c

/-- What a settled part after a change from `s` is. -/
def SettledFrom (s t : State) : Prop := t.shelvesSettled ∧
  ∀ (sh : ShelfId) (p c : PortId) (pend : Option (PortId × Cause)), t.shelves[sh].steering = .steer p →
    t.shelves[sh].state = .locked c pend → t.eligible sh c = false → WaitedOn s t sh c

/-- The shelf has not acted: it is as it was, but for a unit lent or its holdover distrusted (R82, R115). -/
def Stayed (s v : State) (sh : ShelfId) : Prop :=
  GrantedAtMost s v sh ∨ v.shelves[sh].steering = s.shelves[sh].steering ∧
    s.shelves[sh].state.isHoldover = true ∧ v.shelves[sh].state.isFreerun = true

section
variable {s t u v : State} {sh : ShelfId}

theorem isHoldover_iff {st : ShelfState} : st.isHoldover = true ↔ ∃ left, st = .holdover left := by
  cases st <;> simp [ShelfState.isHoldover]

theorem isFreerun_iff {st : ShelfState} : st.isFreerun = true ↔ st = .freerun := by
  cases st <;> simp [ShelfState.isFreerun]

theorem isLocked_iff {st : ShelfState} : st.isLocked = true ↔ ∃ c pend, st = .locked c pend := by
  cases st <;> simp [ShelfState.isLocked]

/-- HOLDOVER and FREERUN are called for alike. -/
theorem stands_rests {st : Steering} (left : Option Nat) : s.stands sh st (.holdover left) ↔ s.stands sh st .freerun := by
  cases st <;> rfl

theorem Stayed.standsIn (h : Stayed s v sh) (k : StandsIn u s sh) : StandsIn u v sh := by
  rcases h with h | ⟨hst, hs, hv⟩
  · exact h.standsIn k
  · obtain ⟨left, hs⟩ := isHoldover_iff.mp hs
    unfold StandsIn at k ⊢
    rw [hst, isFreerun_iff.mp hv]
    rw [hs] at k
    exact (stands_rests left).mp k

theorem Stayed.steering (h : Stayed s v sh) : v.shelves[sh].steering = s.shelves[sh].steering := by
  rcases h with h | h
  · exact h.1
  · exact h.1

theorem Stayed.locked (h : Stayed s v sh) {c : PortId} {pend : Option (PortId × Cause)}
    (hv : v.shelves[sh].state = .locked c pend) : s.shelves[sh].state = .locked c pend := by
  rcases h with ⟨-, e | ⟨q, left, e, -⟩⟩ | ⟨-, -, e⟩
  · exact e.symm.trans hv
  · rw [e] at hv
    cases hv
  · rw [hv] at e
    cases e

theorem stayed_of_same (hst : v.shelves[sh].steering = s.shelves[sh].steering)
    (hs : v.shelves[sh].state = s.shelves[sh].state) : Stayed s v sh := .inl ⟨hst, .inl hs⟩

/-- A shelf whose holdover may have been distrusted, and that may then have been lent a unit. -/
theorem GrantedAtMost.stayed (h : GrantedAtMost u v sh)
    (k : u.shelves[sh] = s.shelves[sh] ∨ u.shelves[sh] = s.shelves[sh].distrusted) : Stayed s v sh := by
  have hsame : ∀ {r : Shelf}, u.shelves[sh] = r → r.steering = s.shelves[sh].steering → r.state = s.shelves[sh].state →
      Stayed s v sh := fun e h1 h2 => by
    unfold GrantedAtMost at h
    rw [e, h1, h2] at h
    exact .inl h
  rcases k with k | k
  · exact hsame k rfl rfl
  · by_cases hh : s.shelves[sh].state.isHoldover = true
    · unfold Shelf.distrusted at k
      rw [if_pos hh] at k
      obtain ⟨hst, e | ⟨q, left, -, hq⟩⟩ := h
      · exact .inr ⟨by rw [hst, k], hh, by rw [e, k]; rfl⟩
      · rw [k] at hq
        cases hq
    · unfold Shelf.distrusted at k
      rw [if_neg hh] at k
      exact hsame k rfl rfl

theorem LooksAlike.sameView (h : LooksAlike u v) (k : SameView s u sh) : SameView s v sh :=
  ⟨(h.shelfDomain sh).trans k.domain, (h.eligibleList sh).trans k.entries, (h.verdicts sh).trans k.verdicts, h.awake k.awake,
    k.awakeOld⟩

theorem SameView.of_looksAlike (h : LooksAlike s v) (ha : s.awake) : SameView s v sh :=
  h.sameView ⟨rfl, rfl, rfl, ha, ha⟩

theorem LooksAlike.best (h : LooksAlike s t) (sh : ShelfId) : t.best sh = s.best sh := by
  unfold State.best
  rw [h.eligibleList]

theorem LooksAlike.nomineeOf (h : LooksAlike s t) (hst : t.shelves[sh].steering = s.shelves[sh].steering) :
    t.nomineeOf sh = s.nomineeOf sh := by
  unfold State.nomineeOf
  rw [h.shelfDomain, hst, h.best]
  simp only [h.eligible, h.activity]

/-! ## Where a change leaves a shelf -/

theorem Placed.settles (h : Placed v v sh) : Settles s v sh :=
  ⟨h.1, fun p c pend hst hs he => by rw [h.2 p c pend hst hs] at he; cases he⟩

theorem Stayed.settles (h : Stayed s v sh) (k : SameView s v sh) (hs : StandsIn s s sh)
    (hr : s.shelves[sh].steering = .auto → s.shelves[sh].state.isLocked = true →
      (v.shelfRecord sh).map Domain.revertive = (s.shelfRecord sh).map Domain.revertive) : Settles s v sh := by
  refine ⟨k.stands (fun hst hl => ?_) (h.standsIn hs), fun p c pend hst hlocked he => ?_⟩
  · obtain ⟨c, pend, hl⟩ := isLocked_iff.mp hl
    exact hr (h.steering.symm.trans hst) (by rw [h.locked hl]; rfl)
  · have hlocked' := h.locked hlocked
    have hst' := h.steering.symm.trans hst
    refine ⟨by rw [hlocked']; rfl, by rw [hlocked']; rfl, by rw [hst']; exact nofun, ?_, k.verdicts, k.entries⟩
    rw [← k.eligible]
    exact he

theorem LooksAlike.settles (h : LooksAlike u v) (hst : v.shelves[sh].steering = u.shelves[sh].steering)
    (hs : v.shelves[sh].state = u.shelves[sh].state) (k : Settles s u sh) : Settles s v sh := by
  obtain ⟨k1, k2⟩ := k
  unfold StandsIn at k1
  refine ⟨?_, fun p c pend e1 e2 he => ?_⟩
  · unfold StandsIn
    rw [hst, hs, stands_congr h]
    exact k1
  · obtain ⟨h1, h2, h3, h4, h5, h6⟩ := k2 p c pend (hst ▸ e1) (hs ▸ e2) (h.eligible sh c ▸ he)
    exact ⟨h1, h2, h3, h4, (h.verdicts sh).trans h5, (h.eligibleList sh).trans h6⟩

/-- Where every shelf stands as it is called to and the nominees are renewed, the part is settled (R71). -/
theorem settledFrom_renewed (h : ∀ x, Settles s v x) (hlook : LooksAlike v t)
    (hsteer : ∀ x : ShelfId, t.shelves[x].steering = v.shelves[x].steering)
    (hstate : ∀ x : ShelfId, t.shelves[x].state =
      if v.shelves[x].state.isHeld then .held (v.nomineeOf x) else v.shelves[x].state) : SettledFrom s t := by
  have hkept : ∀ x : ShelfId, v.shelves[x].state.isHeld = false → t.shelves[x].state = v.shelves[x].state := fun x hx => by
    rw [hstate, if_neg (Bool.eq_false_iff.mp hx)]
  have hheld : ∀ x : ShelfId, v.shelves[x].state.isHeld = true → t.shelves[x].state = .held (v.nomineeOf x) := fun x hx => by
    rw [hstate, if_pos hx]
  have hend : ∀ x : ShelfId, v.shelves[x].state.isHeld = false → Settles s t x := fun x hx =>
    hlook.settles (hsteer x) (hkept x hx) (h x)
  refine ⟨fun x => shelfSettled_iff.mpr ?_, fun x p c pend hst hs he => ?_⟩
  · cases hx : v.shelves[x].state.isHeld with
    | false =>
      refine ⟨(hend x hx).1, fun n hn => ?_⟩
      rw [← hkept x hx, hn] at hx
      cases hx
    | true =>
      have hv := (h x).1
      unfold StandsIn at hv ⊢
      rw [hheld x hx, hsteer, stands_congr hlook]
      rw [held_nominee hx] at hv
      refine ⟨?_, fun n hn => ?_⟩
      · cases hst : v.shelves[x].steering with
        | auto => trivial
        | steer p => rw [hst] at hv; exact ⟨hv.1, trivial⟩
        | pin p => rw [hst] at hv; exact ⟨hv.1, hv.2.1, trivial⟩
      · injection hn with hn
        rw [← hn, hlook.nomineeOf (hsteer x)]
  · cases hx : v.shelves[x].state.isHeld with
    | false => exact (hend x hx).2 p c pend hst hs he
    | true =>
      rw [hheld x hx] at hs
      cases hs

/-- Bringing nominees, validity and outputs up to date settles the part (R71, R152). -/
theorem settledFrom_refresh (h : ∀ x, Settles s v x) (old : State) : SettledFrom s (State.refresh old v) :=
  settledFrom_renewed h (refresh_consequences old v).sameInputs.looksAlike (fun x => by rw [refresh_shelf])
    fun x => by rw [refresh_shelf]

/-! ## Changes of ranking inputs -/

theorem StandsIn.steeredDomain {p : PortId} (h : StandsIn s v sh) (hst : v.shelves[sh].steering = .steer p) :
    s.sameDomain sh p = true := by
  unfold StandsIn at h
  rw [hst] at h
  exact h.1

theorem sameDomain_congr (h : t.current = s.current) (sh : ShelfId) (p : PortId) : t.sameDomain sh p = s.sameDomain sh p := by
  unfold State.sameDomain State.shelfDomain State.portDomain
  rw [h]

/-- A shelf whose turn it is to act on a new ranking, within the same domains. -/
theorem meet_placedTurn (hs : StandsIn s v sh) (hc : v.current = s.current) (hv : v.awake) (x : Ctx) :
    PlacedTurn v (State.meet s v sh x) sh := by
  have hready : Ready v sh { x with ceased := State.ceased s v sh } := by
    refine hs.ready ?_ (fun p hp => ?_) rfl fun p hp => ?_
    · unfold State.shelfDomain
      rw [hc]
    · rw [sameDomain_congr hc]
      exact hs.steeredDomain hp
    · rw [hv p, hp]
      rfl
  exact hready.placedTurn

theorem sameView_of_handed (h : s.handed sh = u.handed sh) (hc : u.current = s.current) (hs : s.awake) (hu : u.awake) :
    SameView s u sh := by
  have he := congrArg Handed.entries h
  have hv := congrArg Handed.verdicts h
  refine ⟨?_, he.symm, hv.symm, hu, hs⟩
  unfold State.shelfDomain
  rw [hc]

theorem mem_handedNew : sh ∈ State.handedNew s u ↔ s.handed sh ≠ u.handed sh := by
  unfold State.handedNew
  rw [List.mem_filter, bne_iff_ne]
  exact and_iff_right (List.mem_finRange sh)

theorem settles_rerank (hs : ∀ x, StandsIn s s x) (ha : s.awake) (hu : u.awake) (hc : u.current = s.current)
    (hd : u.domains = s.domains)
    (hshelves : ∀ x : ShelfId, u.shelves[x] = s.shelves[x] ∨ u.shelves[x] = s.shelves[x].distrusted) (x : Ctx) (y : ShelfId) :
    Settles s (State.rerank s u x) y := by
  have hunder : Underway u (State.rerank s u x) fun y => y ∈ State.handedNew s u := by
    refine underway_inTurn (handedNew_nodup s u) fun v y _ hlook hgrant => ?_
    exact meet_placedTurn ((hgrant.stayed (hshelves y)).standsIn (hs y)) (hlook.current.trans hc) (hlook.awake hu) x
  have hlook := hunder.inputs
  by_cases hy : y ∈ State.handedNew s u
  · exact Placed.settles (hlook.placed.mpr (hunder.placed y hy))
  · have hview := sameView_of_handed (not_not.mp fun e => hy (mem_handedNew.mpr e)) hc ha hu
    refine Stayed.settles ((hunder.waiting y hy).stayed (hshelves y)) (hlook.sameView hview) (hs y) fun _ _ => ?_
    unfold State.shelfRecord
    rw [hlook.shelfDomain, hview.domain, hlook.domains, hd]

end

end Sys2Proof.Machine
end

section
/-!
PROOFS. A release leaves every shelf where its ranking and its steering call for it (R87, R133).
-/

namespace Sys2Proof.Machine

section
variable {s t u v : State} {sh : ShelfId}

theorem releaseShelf_shelves (s : State) (sh x : ShelfId) : (s.releaseShelf sh).shelves[x] =
    if sh = x ∧ s.shelves[x].state.isHeld = true then s.unheldShelf x else s.shelves[x] := by
  by_cases hh : s.shelves[sh].state.isHeld = true
  · rw [releaseShelf_get (held_nominee hh)]
    by_cases hx : sh = x
    · subst hx
      rw [if_pos rfl, if_pos ⟨rfl, hh⟩]
      rfl
    · rw [if_neg hx, if_neg fun e => hx e.1]
  · have hsame : s.releaseShelf sh = s := by
      unfold State.releaseShelf
      cases hs : s.shelves[sh].state with
      | held n =>
        rw [hs] at hh
        exact absurd rfl hh
      | _ => rfl
    rw [hsame, if_neg]
    rintro ⟨rfl, h⟩
    exact hh h

theorem releaseShelves_get (l : List ShelfId) (hl : l.Nodup) (s : State) (x : ShelfId) :
    (l.foldl State.releaseShelf s).shelves[x] =
      if x ∈ l ∧ s.shelves[x].state.isHeld = true then s.unheldShelf x else s.shelves[x] := by
  induction l generalizing s with
  | nil => simp
  | cons sh rest ih =>
    obtain ⟨hsh, hrest⟩ := List.nodup_cons.mp hl
    rw [List.foldl_cons, ih hrest]
    have hone := releaseShelf_shelves s sh x
    by_cases hx : sh = x
    · subst hx
      rw [if_neg fun e => hsh e.1, hone]
      simp only [true_and, List.mem_cons, true_or]
    · rw [if_neg fun e => hx e.1] at hone
      have hd := (moves_releaseShelf s sh).consequences.shelfDomain x
      rw [hone, (unheldShelf_congr hone hd).1]
      simp only [List.mem_cons, Ne.symm hx, false_or]

/-- A HELD shelf whose nominee is the one R71 names stands, once released, where its ranking calls for it. -/
theorem unheld_stands (h : s.shelfSettled sh = true) (hh : s.shelves[sh].state.isHeld = true) :
    s.stands sh (s.unheldShelf sh).steering (s.unheldShelf sh).state := by
  obtain ⟨hst, hn⟩ := shelfSettled_iff.mp h
  have hnominee := hn _ (held_nominee hh)
  unfold StandsIn at hst
  rw [held_nominee hh] at hst
  rw [unheldShelf_state]
  unfold State.unheldShelf State.releasedShelf
  cases hd : s.shelfDomain sh with
  | none =>
    obtain ⟨hauto, -⟩ := stands_nowhere hst hd
    show s.stands sh s.shelves[sh].steering .parked
    rw [hauto]
    exact hd
  | some d =>
    show s.stands sh (s.releasedSteering sh s.shelves[sh].state.nominee?) _
    unfold State.nomineeOf at hnominee
    rw [hd] at hnominee
    dsimp only at hnominee
    have hdom : s.shelfDomain sh ≠ none := by rw [hd]; exact nofun
    have hbest : ∀ n, n = s.best sh → s.stands sh .auto (match n with | some p => .queued p | none => .freerun) := by
      intro n hn
      cases n with
      | none => exact ⟨hdom, hn.symm⟩
      | some p => exact hn.symm
    generalize s.shelves[sh].state.nominee? = n at hst hnominee ⊢
    unfold State.releasedSteering
    cases hsteer : s.shelves[sh].steering with
    | auto =>
      rw [hsteer] at hnominee
      exact hbest n hnominee
    | steer p =>
      rw [hsteer] at hst hnominee
      dsimp only at hnominee ⊢
      by_cases he : s.eligible sh p = true
      · rw [if_pos he] at hnominee
        subst hnominee
        rw [if_pos rfl]
        exact ⟨hst.1, rfl, he⟩
      · rw [if_neg he] at hnominee
        rw [if_neg fun e => he (best_listed (hnominee.symm.trans e)).1]
        exact hbest n hnominee
    | pin p =>
      rw [hsteer] at hst hnominee
      dsimp only at hnominee ⊢
      by_cases ha : s.ports[p].activity = true
      · rw [if_pos ha] at hnominee
        subst hnominee
        exact ⟨hst.1, hst.2.1, rfl, ha⟩
      · rw [if_neg ha] at hnominee
        subst hnominee
        exact ⟨hst.1, hst.2.1, Bool.eq_false_iff.mpr ha⟩

theorem unheldShelf_not_locked (s : State) (sh : ShelfId) {c : PortId} {pend : Option (PortId × Cause)} :
    (s.unheldShelf sh).state ≠ .locked c pend := by
  rw [unheldShelf_state]
  split
  · exact nofun
  · split <;> exact nofun

/-- Every shelf of a released part is placed where it is called to, or as it was. -/
theorem release_settles (hs : s.shelvesSettled) (ha : s.awake) (ht : t.shelvesSettled) (hlook : LooksAlike s t)
    (hshelves : ∀ x : ShelfId, t.shelves[x] = s.shelves[x] ∨ t.shelves[x] = s.shelves[x].distrusted) (x : ShelfId) :
    Settles s t.release x := by
  have hend := release_looksAlike t
  have hgrant : GrantedAtMost ((List.finRange 48).foldl State.releaseShelf (t.enterPhase .running)) t.release x := by
    rcases (lend_lending ((List.finRange 48).foldl State.releaseShelf (t.enterPhase .running))).shelves x with e | e
    · have e' : t.release.shelves[x] = _ := e
      exact ⟨by rw [e'], .inl (by rw [e'])⟩
    · exact e.grantedAtMost
  have hshelf := releaseShelves_get (List.finRange 48) (List.nodup_finRange 48) (t.enterPhase .running) x
  have hsame : (t.enterPhase .running).shelves = t.shelves := rfl
  rw [(unheldShelf_congr (s := t) (t := t.enterPhase .running) (sh := x) (by rw [hsame]) rfl).1, hsame] at hshelf
  by_cases hh : t.shelves[x].state.isHeld = true
  · rw [if_pos ⟨List.mem_finRange x, hh⟩] at hshelf
    refine Placed.settles (hend.placed.mpr (hgrant.placed ⟨?_, fun p c pend _ hl => ?_⟩))
    · unfold StandsIn
      rw [hshelf]
      exact unheld_stands (ht x) hh
    · rw [hshelf] at hl
      exact absurd hl (unheldShelf_not_locked t x)
  · rw [if_neg fun e => hh e.2] at hshelf
    unfold GrantedAtMost at hgrant
    rw [hshelf] at hgrant
    have hstay : Stayed s t.release x := GrantedAtMost.stayed (u := t) hgrant (hshelves x)
    have hall := hlook.trans hend
    refine hstay.settles (SameView.of_looksAlike hall ha) (shelfSettled_iff.mp (hs x)).1 fun _ _ => ?_
    unfold State.shelfRecord
    rw [hall.shelfDomain, hall.domains]

end

end Sys2Proof.Machine
end

section
/-!
PROOFS. Every shelf is settled after a change of inputs, a release and the loss of the guard (R68, R87, R112).
-/

namespace Sys2Proof.Machine

section
variable {s t u v : State} {sh : ShelfId}

theorem distrusted_held {r : Shelf} {n : Option PortId} (h : r.distrusted.state = .held n) : r.state = .held n := by
  unfold Shelf.distrusted at h
  split at h
  · cases h
  · exact h

theorem shelvesSettled_doubts (hs : s.shelvesSettled) (hlook : LooksAlike s t)
    (hshelves : ∀ x : ShelfId, t.shelves[x] = s.shelves[x] ∨ t.shelves[x] = s.shelves[x].distrusted) : t.shelvesSettled := fun x => by
  obtain ⟨hst, hn⟩ := shelfSettled_iff.mp (hs x)
  have hstay : Stayed s t x := GrantedAtMost.stayed ⟨rfl, .inl rfl⟩ (hshelves x)
  refine shelfSettled_iff.mpr ⟨(stands_congr hlook _ _).mpr (hstay.standsIn hst), fun n hheld => ?_⟩
  rw [hlook.nomineeOf hstay.steering]
  refine hn n ?_
  rcases hshelves x with e | e
  · rw [← e]
    exact hheld
  · rw [e] at hheld
    exact distrusted_held hheld

/-- Shelves to which a change shows nothing new, and which are as they were but for a distrusted holdover. -/
theorem settles_unshown (hs : s.shelvesSettled) (ha : s.awake) (hlook : LooksAlike s t)
    (hshelves : ∀ x : ShelfId, t.shelves[x] = s.shelves[x] ∨ t.shelves[x] = s.shelves[x].distrusted) (x : ShelfId) :
    Settles s t x := by
  have hstay : Stayed s t x := GrantedAtMost.stayed ⟨rfl, .inl rfl⟩ (hshelves x)
  refine hstay.settles (SameView.of_looksAlike hlook ha) (shelfSettled_iff.mp (hs x)).1 fun _ _ => ?_
  unfold State.shelfRecord
  rw [hlook.shelfDomain, hlook.domains]

theorem settledFrom_input (hp : s.portsSound) (hs : s.shelvesSettled) (h : InputChange s u) (x : Ctx) :
    SettledFrom s (State.commit s u x) := by
  have hstand : ∀ y, StandsIn s s y := fun y => (shelfSettled_iff.mp (hs y)).1
  have hu := h.awake hp
  have honly := h.inputOnly
  have hcurrent : u.current = s.current := by rw [honly]
  have hdomains : u.domains = s.domains := by rw [honly]
  have hrerank := fun hshelves => settledFrom_refresh (settles_rerank hstand hp.awake hu hcurrent hdomains hshelves x) s
  cases h.monitorStep with
  | doubts hd => exact hrerank hd.shelves
  | held _ hd => exact hrerank hd.shelves
  | @released t _ hd hlook =>
    rw [commit_released hd hlook]
    exact settledFrom_refresh
      (release_settles hs hp.awake (shelvesSettled_doubts hs hlook hd.shelves) hlook hd.shelves) s

theorem looksAlike_refl (s : State) : LooksAlike s s := SameInputs.looksAlike ⟨rfl, rfl, rfl, rfl, rfl, rfl⟩

theorem settledFrom_release (ha : s.awake) (hs : s.shelvesSettled) : SettledFrom s (State.refresh s s.release) :=
  settledFrom_refresh (release_settles hs ha hs (looksAlike_refl s) fun _ => .inl rfl) s

theorem enterPhase_looksAlike (s : State) (phase : PartPhase) : LooksAlike s (s.enterPhase phase) := by
  refine ⟨fun p => ?_, fun p => ?_, rfl, rfl, rfl, rfl, rfl⟩ <;> rw [enterPhase_port] <;> rfl

/-- The loss of the guard ends a check without an outcome: the ranking is as it was, and no shelf changes. -/
theorem loseGuard_unshown (s : State) : LooksAlike s s.loseGuard ∧ s.loseGuard.shelves = s.shelves := by
  unfold State.loseGuard
  dsimp only
  split
  · rw [endCheck_eq]
    split
    · have hend : ∀ v : State, v.endInit .inconclusive = v.enterPhase .held := fun v => by
        unfold State.endInit
        rw [if_neg]
        simp
      rw [hend]
      refine ⟨LooksAlike.trans ?_ (enterPhase_looksAlike _ _), rfl⟩
      exact ⟨fun _ => rfl, fun _ => rfl, rfl, rfl, rfl, rfl, rfl⟩
    · exact ⟨⟨fun _ => rfl, fun _ => rfl, rfl, rfl, rfl, rfl, rfl⟩, rfl⟩
  · exact ⟨⟨fun _ => rfl, fun _ => rfl, rfl, rfl, rfl, rfl, rfl⟩, rfl⟩

theorem settledFrom_loseGuard (ha : s.awake) (hs : s.shelvesSettled) : SettledFrom s (State.refresh s s.loseGuard) := by
  obtain ⟨hlook, hshelves⟩ := loseGuard_unshown s
  exact settledFrom_refresh (settles_unshown hs ha hlook fun x => .inl (by rw [hshelves])) s

end

end Sys2Proof.Machine
end

section
/-!
PROOFS. A move that names one shelf leaves it where its ranking and its steering call for it: STEER, PIN, CLEAR STEERING, the end of a
hold-off, of a settle time and of a holdover limit (R92, R100, R111, R125, R129, R132).
-/

namespace Sys2Proof.Machine

section
variable {s t u v b : State} {sh : ShelfId} {p : PortId}

/-- Where one shelf moves and the others stay but for a unit lent, every shelf settles. -/
theorem settles_one (hs : s.shelvesSettled) (ha : s.awake) (hlook : LooksAlike s v)
    (hothers : ∀ y, y ≠ sh → GrantedAtMost s v y) (hself : Settles s v sh) (y : ShelfId) : Settles s v y := by
  by_cases hy : y = sh
  · rw [hy]
    exact hself
  · refine Stayed.settles (.inl (hothers y hy)) (SameView.of_looksAlike hlook ha) (shelfSettled_iff.mp (hs y)).1 fun _ _ => ?_
    unfold State.shelfRecord
    rw [hlook.shelfDomain, hlook.domains]

/-- A shelf LOCKED where it is called to has its reference in its domain, with a clock. -/
theorem stands_locked {st : Steering} {c : PortId} {pend : Option (PortId × Cause)} (ha : s.awake)
    (h : s.stands sh st (.locked c pend)) : s.sameDomain sh c = true ∧ s.ports[c].activity = true := by
  have hup : s.eligible sh c = true → s.sameDomain sh c = true ∧ s.ports[c].activity = true := fun he =>
    ⟨eligible_sameDomain he, by rw [ha c, (eligible_iff.mp he).1]; rfl⟩
  cases st with
  | auto => exact hup h.1
  | steer p =>
    obtain ⟨-, he, ⟨rfl, -⟩ | ⟨-, -, hd, hc⟩⟩ := h
    · exact hup he
    · exact ⟨hd, hc⟩
  | pin p =>
    obtain ⟨hd, -, hact, ⟨rfl, -⟩ | ⟨-, -, hdc, hc⟩⟩ := h
    · exact ⟨hd, hact⟩
    · exact ⟨hdc, hc⟩

theorem gainPending_stands {c q : PortId} {pend : Option (PortId × Cause)} {cause : Cause}
    (hs : v.shelves[sh].state = .locked c pend)
    (h : v.stands sh v.shelves[sh].steering (.locked c (some (q, cause)))) : StandsIn v (v.gainPending sh c q cause) sh := by
  obtain ⟨K, -, hst, -⟩ := acts_gainPending (s := v) (sh := sh) (by rw [hs]; rfl) c q cause
  unfold StandsIn
  rw [hst]
  rcases gainPending_shelf v sh c q cause with e | ⟨e, -⟩
  · rw [e]
    exact h
  · rw [e]
    exact stands_lent h rfl _

theorem dropPending_stands {c : PortId} (h : v.stands sh v.shelves[sh].steering (.locked c none)) :
    StandsIn v (v.dropPending sh c) sh := by
  unfold StandsIn
  rw [dropPending_shelf]
  exact h

/-- The others after a move of one shelf whose steering was written before it. -/
theorem Moved.granted_steered {K : List DomainEvent} {st : Steering} (h : Moved (s.setSteering sh st) v sh K) (y : ShelfId)
    (hy : y ≠ sh) : GrantedAtMost s v y := by
  have hk := h.grantedAtMost hy
  unfold GrantedAtMost at hk ⊢
  rw [setSteering_other s st hy] at hk
  exact hk

theorem Moved.looksAlike_steered {K : List DomainEvent} {st : Steering} (h : Moved (s.setSteering sh st) v sh K) : LooksAlike s v :=
  ((setSteering_consequences s sh st).trans h.moves.consequences).sameInputs.looksAlike

/-! ## STEER (R125) -/

theorem steerTo_stands (hst : b.shelves[sh].steering = .steer p) (hd : b.sameDomain sh p = true) (he : b.eligible sh p = true)
    (hp : b.shelves[sh].state ≠ .parked) (hlocked : ∀ c pend, b.shelves[sh].state = .locked c pend →
      b.sameDomain sh c = true ∧ b.ports[c].activity = true) : StandsIn b (b.steerTo sh p) sh := by
  have hstay : b.standsSteered sh p b.shelves[sh].state → StandsIn b b sh := fun h => by
    unfold StandsIn
    rw [hst]
    exact ⟨hd, h⟩
  have hgo : b.shelves[sh].state.isHeld = false → StandsIn b (b.toward sh p .steer) sh := fun hheld =>
    toward_stands hheld _ (by rw [hst]; exact ⟨hd, rfl, he⟩)
  unfold State.steerTo
  cases hs : b.shelves[sh].state with
  | held n => exact hstay (by rw [hs]; trivial)
  | parked => exact absurd hs hp
  | locked c pend =>
    dsimp only
    split
    · next hc =>
      refine dropPending_stands ?_
      rw [hst]
      exact ⟨hd, he, .inl ⟨hc, rfl⟩⟩
    · next hc =>
      refine gainPending_stands hs ?_
      rw [hst]
      exact ⟨hd, he, .inr ⟨hc, rfl, hlocked c pend hs⟩⟩
  | acquire q left =>
    dsimp only
    split
    · next hq => exact hstay (by rw [hs]; exact ⟨hq, he⟩)
    · exact hgo (by rw [hs]; rfl)
  | queued q =>
    dsimp only
    split
    · next hq => exact hstay (by rw [hs]; exact ⟨hq, he⟩)
    · exact hgo (by rw [hs]; rfl)
  | bridge c left => exact hgo (by rw [hs]; rfl)
  | holdover left => exact hgo (by rw [hs]; rfl)
  | freerun => exact hgo (by rw [hs]; rfl)

theorem steerTo_locked {c : PortId} {pend : Option (PortId × Cause)} (h : (b.steerTo sh p).shelves[sh].state = .locked c pend) :
    ∃ pend', b.shelves[sh].state = .locked c pend' := by
  unfold State.steerTo at h
  cases hs : b.shelves[sh].state with
  | locked c' pend' =>
    rw [hs] at h
    dsimp only at h
    split at h
    · rw [dropPending_shelf] at h
      cases h
      exact ⟨_, rfl⟩
    · rcases gainPending_shelf b sh c' p .steer with e | ⟨e, -⟩ <;> rw [e] at h <;> cases h
      exact ⟨_, rfl⟩
  | acquire q left =>
    simp only [hs] at h
    split at h
    · rw [hs] at h
      cases h
    · exact absurd h (toward_not_locked b sh p _)
  | queued q =>
    simp only [hs] at h
    split at h
    · rw [hs] at h
      cases h
    · exact absurd h (toward_not_locked b sh p _)
  | held n =>
    simp only [hs] at h
    cases h
  | parked =>
    simp only [hs] at h
    cases h
  | _ =>
    rw [hs] at h
    exact absurd h (toward_not_locked b sh p _)

theorem settles_steer (hs : s.shelvesSettled) (ha : s.awake) (he : s.eligible sh p = true) (y : ShelfId) :
    Settles s ((s.setSteering sh (.steer p)).steerTo sh p) y := by
  have hstand := (shelfSettled_iff.mp (hs sh)).1
  obtain ⟨hstate, -⟩ := setSteering_fields s sh (.steer p)
  have hself := setSteering_self s sh (.steer p)
  have hb : LooksAlike s (s.setSteering sh (.steer p)) := (setSteering_consequences s sh _).sameInputs.looksAlike
  have hd := eligible_sameDomain he
  obtain ⟨⟨K, hm, hsteer, -⟩, -⟩ := fits_steerTo (s.setSteering sh (.steer p)) sh p
  have hlook := hm.looksAlike_steered
  refine settles_one hs ha hlook hm.granted_steered ⟨?_, fun q c pend _ hl hne => ?_⟩ y
  · refine (stands_congr (hm.moves.consequences.sameInputs.looksAlike) _ _).mpr (steerTo_stands (by rw [hself]) ?_ ?_ ?_ ?_)
    · exact (hb.sameDomain sh p).trans hd
    · exact (hb.eligible sh p).trans he
    · rw [hstate]
      intro e
      unfold StandsIn at hstand
      rw [e] at hstand
      obtain ⟨d, hd', -⟩ := (sameDomain_iff s sh p).mp hd
      rw [(stands_parked hstand).2] at hd'
      cases hd'
    · intro c pend hl
      rw [hstate] at hl
      unfold StandsIn at hstand
      rw [hl] at hstand
      rw [hb.sameDomain, hb.activity]
      exact stands_locked ha hstand
  · obtain ⟨pend', hl'⟩ := steerTo_locked hl
    rw [hstate] at hl'
    rw [hlook.eligible] at hne
    refine ⟨by rw [hl']; rfl, by rw [hl']; rfl, fun hauto => ?_, hne, hlook.verdicts sh, hlook.eligibleList sh⟩
    unfold StandsIn at hstand
    rw [hauto, hl'] at hstand
    rw [hstand.1] at hne
    cases hne

/-! ## PIN (R129) -/

theorem pinToLive_stands (hst : b.shelves[sh].steering = .pin p) (hd : b.sameDomain sh p = true) (hoff : b.ports[p].state ≠ .off)
    (ha : b.ports[p].activity = true) (hp : b.shelves[sh].state ≠ .parked)
    (hlocked : ∀ c pend, b.shelves[sh].state = .locked c pend → b.sameDomain sh c = true ∧ b.ports[c].activity = true) :
    StandsIn b (b.pinToLive sh p) sh := by
  have hstay : b.standsPinned sh p b.shelves[sh].state → StandsIn b b sh := fun h => by
    unfold StandsIn
    rw [hst]
    exact ⟨hd, hoff, h⟩
  have hgo : b.shelves[sh].state.isHeld = false → StandsIn b (b.toward sh p .pin) sh := fun hheld =>
    toward_stands hheld _ (by rw [hst]; exact ⟨hd, hoff, rfl, ha⟩)
  unfold State.pinToLive
  cases hs : b.shelves[sh].state with
  | held n => exact hstay (by rw [hs]; trivial)
  | parked => exact absurd hs hp
  | locked c pend =>
    dsimp only
    split
    · next hc =>
      refine dropPending_stands ?_
      rw [hst]
      exact ⟨hd, hoff, ha, .inl ⟨hc, rfl⟩⟩
    · next hc =>
      refine gainPending_stands hs ?_
      rw [hst]
      exact ⟨hd, hoff, ha, .inr ⟨hc, rfl, hlocked c pend hs⟩⟩
  | acquire q left =>
    dsimp only
    split
    · next hq => exact hstay (by rw [hs]; exact ⟨hq, ha⟩)
    · exact hgo (by rw [hs]; rfl)
  | queued q =>
    dsimp only
    split
    · next hq => exact hstay (by rw [hs]; exact ⟨hq, ha⟩)
    · exact hgo (by rw [hs]; rfl)
  | bridge c left =>
    dsimp only
    split
    · next hc =>
      unfold StandsIn
      rw [unbridge_shelf]
      show b.stands sh b.shelves[sh].steering (.locked c none)
      rw [hst]
      exact ⟨hd, hoff, ha, .inl ⟨hc, rfl⟩⟩
    · exact hgo (by rw [hs]; rfl)
  | holdover left => exact hgo (by rw [hs]; rfl)
  | freerun => exact hgo (by rw [hs]; rfl)

theorem pinToQuiet_stands (hst : b.shelves[sh].steering = .pin p) (hd : b.sameDomain sh p = true) (hoff : b.ports[p].state ≠ .off)
    (ha : b.ports[p].activity = false) (hp : b.shelves[sh].state ≠ .parked)
    (hnot : ¬ ((∃ pend, b.shelves[sh].state = .locked p pend) ∨ (∃ left, b.shelves[sh].state = .acquire p left) ∨
      b.shelves[sh].state = .queued p)) : StandsIn b (b.pinToQuiet sh p) sh := by
  have hstay : b.standsPinned sh p b.shelves[sh].state → StandsIn b b sh := fun h => by
    unfold StandsIn
    rw [hst]
    exact ⟨hd, hoff, h⟩
  have hrest : StandsIn b (b.rest sh .pin) sh := by
    refine rest_stands _ ?_ fun _ => ?_ <;> rw [hst] <;> exact ⟨hd, hoff, ha⟩
  unfold State.pinToQuiet
  cases hs : b.shelves[sh].state with
  | held n => exact hstay (by rw [hs]; trivial)
  | parked => exact absurd hs hp
  | locked c pend =>
    dsimp only
    rw [if_neg fun e : c = p => hnot (.inl ⟨pend, e ▸ hs⟩)]
    exact hrest
  | acquire q left =>
    dsimp only
    rw [if_neg fun e : q = p => hnot (.inr (.inl ⟨left, e ▸ hs⟩))]
    exact hrest
  | queued q =>
    dsimp only
    rw [if_neg fun e : q = p => hnot (.inr (.inr (e ▸ hs)))]
    exact hrest
  | bridge c left =>
    dsimp only
    split
    · next hc => exact hstay (by rw [hs]; exact ⟨hc, ha⟩)
    · exact hrest
  | holdover left => exact hstay (by rw [hs]; exact ha)
  | freerun => exact hstay (by rw [hs]; exact ha)

/-- A shelf that names a port where it is called to finds its clock there. -/
theorem stands_names {st : Steering} {y : ShelfState} (ha : s.awake) (h : s.stands sh st y)
    (hy : (∃ pend, y = .locked p pend) ∨ (∃ left, y = .acquire p left) ∨ y = .queued p) : s.ports[p].activity = true := by
  have hup : s.eligible sh p = true → s.ports[p].activity = true := fun he => by
    rw [ha p, (eligible_iff.mp he).1]
    rfl
  rcases hy with ⟨pend, rfl⟩ | ⟨left, rfl⟩ | rfl
  · exact (stands_locked ha h).2
  · cases st with
    | auto => exact hup h
    | steer q => exact hup (h.2.1 ▸ h.2.2)
    | pin q => exact h.2.2.1 ▸ h.2.2.2
  · cases st with
    | auto => exact hup (best_listed h).1
    | steer q => exact hup (h.2.1 ▸ h.2.2)
    | pin q => exact h.2.2.1 ▸ h.2.2.2

theorem settles_pin (hs : s.shelvesSettled) (ha : s.awake) (hd : s.sameDomain sh p = true) (hoff : s.ports[p].state ≠ .off)
    (y : ShelfId) : Settles s ((s.setSteering sh (.pin p)).pinTo sh p) y := by
  have hstand := (shelfSettled_iff.mp (hs sh)).1
  obtain ⟨hstate, -⟩ := setSteering_fields s sh (.pin p)
  have hself : (s.setSteering sh (.pin p)).shelves[sh].steering = .pin p := by rw [setSteering_self]
  have hb : LooksAlike s (s.setSteering sh (.pin p)) := (setSteering_consequences s sh _).sameInputs.looksAlike
  obtain ⟨⟨K, hm, hsteer, -⟩, -⟩ := fits_pinTo (s.setSteering sh (.pin p)) sh p
  rw [hself] at hsteer
  refine settles_one hs ha hm.looksAlike_steered hm.granted_steered ⟨?_, fun q c pend hst => ?_⟩ y
  · refine (stands_congr (hm.moves.consequences.sameInputs.looksAlike) _ _).mpr ?_
    have hparked : (s.setSteering sh (.pin p)).shelves[sh].state ≠ .parked := by
      rw [hstate]
      intro e
      unfold StandsIn at hstand
      rw [e] at hstand
      obtain ⟨d, hd', -⟩ := (sameDomain_iff s sh p).mp hd
      rw [(stands_parked hstand).2] at hd'
      cases hd'
    have hd' := (hb.sameDomain sh p).trans hd
    have hoff' : (s.setSteering sh (.pin p)).ports[p].state ≠ .off := hoff
    show StandsIn _ (State.pinTo _ sh p) sh
    unfold State.pinTo
    split
    · next hact =>
      refine pinToLive_stands hself hd' hoff' hact hparked fun c pend hl => ?_
      rw [hstate] at hl
      unfold StandsIn at hstand
      rw [hl] at hstand
      rw [hb.sameDomain, hb.activity]
      exact stands_locked ha hstand
    · next hact =>
      refine pinToQuiet_stands hself hd' hoff' (Bool.eq_false_iff.mpr hact) hparked ?_
      rw [hstate]
      intro hnames
      have hlive := stands_names (s := s) ha hstand hnames
      exact hact hlive
  · rw [hsteer] at hst
    cases hst

end

end Sys2Proof.Machine
end

section
/-!
PROOFS. CLEAR STEERING and the ends of a hold-off, of a settle time and of a holdover limit leave the shelf where it is called to
(R92, R100, R111, R132); and so does every change of one shelf.
-/

namespace Sys2Proof.Machine

section
variable {s t u v b : State} {sh : ShelfId} {p : PortId}

theorem settles_of_not_locked (h : StandsIn v v sh) (hl : ∀ c pend, v.shelves[sh].state ≠ .locked c pend) : Settles s v sh :=
  ⟨h, fun _ c pend _ hs => absurd hs (hl c pend)⟩

theorem reselect_not_locked (v : State) (sh : ShelfId) (cause : Cause) (c : PortId) (pend : Option (PortId × Cause)) :
    (v.reselect sh cause).shelves[sh].state ≠ .locked c pend := by
  unfold State.reselect
  split
  · exact toward_not_locked v sh _ _
  · rw [rest_shelf]
    intro e
    have hl : (v.restState sh).isLocked = true := by
      have e' : v.restState sh = .locked c pend := e
      rw [e']
      rfl
    exact restState_not_queued v sh c (.inr hl)

/-- A shelf in BRIDGE where it is called to has a reference that is not eligible. -/
theorem stands_bridge {st : Steering} {c : PortId} {left : Nat} (ha : s.awake) (h : s.stands sh st (.bridge c left)) :
    s.eligible sh c = false := by
  cases st with
  | auto => exact h.2
  | steer q => exact h.2.1 ▸ h.2.2.2
  | pin q =>
    obtain ⟨-, -, rfl, hact⟩ := h
    refine Bool.eq_false_iff.mpr fun he => ?_
    rw [ha c, (eligible_iff.mp he).1] at hact
    cases hact

/-! ## CLEAR STEERING (R132) -/

theorem unsteer_stands (hauto : b.shelves[sh].steering = .auto) (hd : b.shelfDomain sh ≠ none) (hp : b.shelves[sh].state ≠ .parked)
    (hbridge : ∀ c left, b.shelves[sh].state = .bridge c left → b.eligible sh c = false) : StandsIn b (b.unsteer sh) sh := by
  have hstay : b.standsAuto sh b.shelves[sh].state → StandsIn b b sh := fun h => by
    unfold StandsIn
    rw [hauto]
    exact h
  have hact := actAuto_stands hauto hd hp Ctx.clearing
  unfold State.unsteer
  cases hs : b.shelves[sh].state with
  | locked c pend =>
    dsimp only
    have hself := dropPending_shelf b sh c
    have hlook : LooksAlike b (b.dropPending sh c) :=
      (moved_dropPending (s := b) (sh := sh) (by rw [hs]; rfl) c).moves.consequences.sameInputs.looksAlike
    have hdropped := actAuto_stands (v := b.dropPending sh c) (sh := sh) (by rw [hself]; exact hauto)
      (by rw [hlook.shelfDomain]; exact hd) (by rw [hself]; exact nofun) Ctx.clearing
    have heq : (b.dropPending sh c).actAuto sh Ctx.clearing = (b.dropPending sh c).actLocked sh c Ctx.clearing := by
      unfold State.actAuto
      rw [hself]
    rw [heq] at hdropped
    have hmarked := markCleared_self ((b.dropPending sh c).actLocked sh c Ctx.clearing) sh
    have hstands : StandsIn b ((b.dropPending sh c).actLocked sh c Ctx.clearing) sh := (stands_congr hlook _ _).mp hdropped
    exact hstands.congr_shelf (by rw [hmarked]) (by rw [hmarked])
  | acquire q left =>
    dsimp only
    split
    · next he => exact hstay (by rw [hs]; exact (Bool.and_eq_true_iff.mp he).1)
    · exact reselect_stands hauto (by rw [hs]; rfl) hd _
  | bridge c left =>
    dsimp only
    split
    · next he => exact hstay (by rw [hs]; exact ⟨he, hbridge c left hs⟩)
    · exact reselect_stands hauto (by rw [hs]; rfl) hd _
  | _ => exact hact

theorem settles_clear (hs : s.shelvesSettled) (ha : s.awake) (hne : s.shelves[sh].steering ≠ .auto) (y : ShelfId) :
    Settles s ((s.setSteering sh .auto).unsteer sh) y := by
  have hstand := (shelfSettled_iff.mp (hs sh)).1
  obtain ⟨hstate, -⟩ := setSteering_fields s sh .auto
  have hself : (s.setSteering sh .auto).shelves[sh].steering = .auto := by rw [setSteering_self]
  have hb : LooksAlike s (s.setSteering sh .auto) := (setSteering_consequences s sh _).sameInputs.looksAlike
  obtain ⟨K, hm, hsteer, -⟩ := acts_unsteer hself
  rw [hself] at hsteer
  refine settles_one hs ha hm.looksAlike_steered hm.granted_steered ⟨?_, fun q c pend hst => ?_⟩ y
  · refine (stands_congr (hm.moves.consequences.sameInputs.looksAlike) _ _).mpr ?_
    refine unsteer_stands hself ?_ ?_ fun c left hl => ?_
    · rw [hb.shelfDomain]
      exact fun e => hne (stands_nowhere hstand e).1
    · rw [hstate]
      intro e
      unfold StandsIn at hstand
      rw [e] at hstand
      exact hne (stands_parked hstand).1
    · rw [hstate] at hl
      unfold StandsIn at hstand
      rw [hl] at hstand
      rw [hb.eligible]
      exact stands_bridge ha hstand
  · rw [hsteer] at hst
    cases hst

/-! ## Times that end -/

theorem settles_holdOff (hs : s.shelvesSettled) (ha : s.awake) {c : PortId} {left : Nat}
    (hb : s.shelves[sh].state = .bridge c left) (y : ShelfId) : Settles s (s.endHoldOff sh) y := by
  have hstand := (shelfSettled_iff.mp (hs sh)).1
  obtain ⟨⟨K, hm⟩, -, -⟩ := endHoldOff_moves hb
  have hlook : LooksAlike s (s.endHoldOff sh) := hm.moves.consequences.sameInputs.looksAlike
  have hd : s.shelfDomain sh ≠ none := fun e => by
    rcases (stands_nowhere hstand e).2 with k | k <;> rw [hb] at k <;> cases k
  refine settles_one hs ha hlook (fun y hy => hm.grantedAtMost hy) (settles_of_not_locked ?_ fun c' pend => ?_) y
  · refine (stands_congr hlook _ _).mpr ?_
    unfold State.endHoldOff
    cases hst : s.shelves[sh].steering with
    | auto => exact reselect_stands hst (by rw [hb]; rfl) hd _
    | steer q =>
      have hlost : LooksAlike s (s.loseSteering sh) := (moved_loseSteering s sh).moves.consequences.sameInputs.looksAlike
      have hself := loseSteering_self s sh
      refine (stands_congr hlost _ _).mp (reselect_stands (by rw [hself]) (by rw [hself, hb]; rfl) ?_ _)
      rw [hlost.shelfDomain]
      exact hd
    | pin q =>
      unfold StandsIn at hstand
      rw [hst, hb] at hstand
      obtain ⟨h1, h2, -, hact⟩ := hstand
      have hchoice : s.choice sh = none := by
        unfold State.choice
        rw [hst]
        dsimp only
        rw [hact]
        rfl
      show StandsIn s (s.reselect sh .lost) sh
      unfold State.reselect
      rw [hchoice]
      refine rest_stands _ ?_ fun _ => ?_ <;> rw [hst] <;> exact ⟨h1, h2, hact⟩
  · rw [endHoldOff_eq]
    exact reselect_not_locked _ sh _ c' pend

/-- A shelf that has settled on its target is ready for its ranking. -/
theorem ready_settled {q : PortId} {left : Nat} (hs : s.shelves[sh].state = .acquire q left) (ha : s.awake)
    (h : StandsIn s s sh) : Ready (s.settled sh q) sh Ctx.ranking := by
  have hself := settled_shelf s sh q
  have hlook : LooksAlike s (s.settled sh q) := (settled_inputs (p := q) s hs).1.sameInputs.looksAlike
  have hstate : (s.settled sh q).shelves[sh].state = .locked q none := by rw [hself]
  have hsteer : (s.settled sh q).shelves[sh].steering = s.shelves[sh].steering := by rw [hself]
  unfold StandsIn at h
  refine ⟨fun e => ?_, fun e => ?_, fun p e => ?_, fun p e => ?_, fun p e => ?_⟩
  · rw [hstate] at e
    cases e
  · rw [hlook.shelfDomain] at e
    rcases (stands_nowhere h e).2 with k | k <;> rw [hs] at k <;> cases k
  · rw [hsteer] at e
    rw [e, hs] at h
    rw [hstate, hlook.sameDomain]
    exact ⟨h.1, .inl ⟨h.2.1, rfl⟩, rfl, rfl⟩
  · rw [hsteer] at e
    rw [e, hs] at h
    rw [hstate]
    refine ⟨.inl ⟨h.2.2.1, rfl⟩, fun c pend e hc => ?_⟩
    injection e with e
    exact absurd (e.symm.trans h.2.2.1) hc
  · rw [hlook.awake ha p, e]
    rfl

theorem settles_settle (hs : s.shelvesSettled) (ha : s.awake) {q : PortId} {left : Nat}
    (hb : s.shelves[sh].state = .acquire q left) (y : ShelfId) : Settles s (s.completeSettle sh q) y := by
  have hturn := (ready_settled hb ha (shelfSettled_iff.mp (hs sh)).1).placedTurn
  rw [← completeSettle_eq] at hturn
  obtain ⟨K, hm, -⟩ := completeSettle_moved (p := q) hb
  have hlook : LooksAlike s (s.completeSettle sh q) :=
    ((unlearned_consequences s sh).trans hm.moves.consequences).sameInputs.looksAlike
  refine settles_one hs ha hlook (fun y hy => ?_) (Placed.settles (hturn.inputs.placed.mpr hturn.placed)) y
  have hk := hm.grantedAtMost hy
  unfold GrantedAtMost at hk ⊢
  rw [unlearned_other s hy] at hk
  exact hk

theorem settles_limit (hs : s.shelvesSettled) (ha : s.awake) {left : Nat}
    (hb : s.shelves[sh].state = .holdover (some left)) (y : ShelfId) : Settles s (s.expireLimit sh) y := by
  have hstand := (shelfSettled_iff.mp (hs sh)).1
  obtain ⟨hself, hothers, -, -⟩ := expireLimit_shelf s sh
  have hlook : LooksAlike s (s.expireLimit sh) := (moves_expireLimit s sh).consequences.sameInputs.looksAlike
  refine settles_one hs ha hlook (fun y hy => grantedAtMost_of_same (hothers y hy))
    (settles_of_not_locked ((stands_congr hlook _ _).mpr ?_) fun c pend => ?_) y
  · unfold StandsIn at hstand
    rw [hself]
    rw [hb] at hstand
    exact (stands_rests _).mp hstand
  · rw [hself]
    exact nofun

theorem settledFrom_shelf (ha : s.awake) (hs : s.shelvesSettled) (h : ShelfChange s v) : SettledFrom s (State.refresh s v) := by
  refine settledFrom_refresh (fun y => ?_) s
  cases h with
  | steer sh p he => exact settles_steer hs ha he y
  | pin sh p hd hoff => exact settles_pin hs ha hd hoff y
  | clear sh hne => exact settles_clear hs ha hne y
  | holdOff sh c left hb => exact settles_holdOff hs ha hb y
  | settle sh q left hb => exact settles_settle hs ha hb y
  | limit sh left hb => exact settles_limit hs ha hb y
  | learned => exact settles_unshown hs ha (looksAlike_refl s) (fun _ => .inl rfl) y

end

end Sys2Proof.Machine
end

section
/-!
PROOFS. R109 judges every HOLDOVER and FREERUN shelf on its own record; DOMAIN SETUP leaves every shelf where it is called to (R50).
-/

namespace Sys2Proof.Machine

/-- The state R109 leaves a shelf in. -/
def State.judgedState (s : State) (sh : ShelfId) : ShelfState :=
  if s.shelves[sh].state.isHoldover = true ∧ s.holdoverValid sh = false then .freerun
  else if s.shelves[sh].state.isFreerun = true ∧ s.holdoverValid sh = true then .holdover (s.limitMs sh)
  else s.shelves[sh].state

/-- The record R109 leaves a shelf with: the cause is kept. -/
def State.judgedShelf (s : State) (sh : ShelfId) : Shelf :=
  { s.shelves[sh] with state := s.judgedState sh,
                       changed := s.shelves[sh].changed || s.judgedState sh != s.shelves[sh].state }

section
variable {s t u v : State} {sh : ShelfId}

theorem enterRest_get (s : State) (sh x : ShelfId) : (s.enterRest sh none).shelves[x] =
    if sh = x then { s.shelves[sh] with state := s.restState sh, changed := true } else s.shelves[x] := by
  rw [enterRest_eq, enterState_get]
  rfl

theorem judgedShelf_same (h : s.judgedState sh = s.shelves[sh].state) : s.judgedShelf sh = s.shelves[sh] := by
  unfold State.judgedShelf
  rw [h, bne_self_eq_false, Bool.or_false]

theorem judgedShelf_new {st : ShelfState} (h : s.judgedState sh = st) (hne : st ≠ s.shelves[sh].state) :
    s.judgedShelf sh = { s.shelves[sh] with state := st, changed := true } := by
  unfold State.judgedShelf
  rw [h, bne_iff_ne.mpr hne, Bool.or_true]

theorem judgeShelf_get (s : State) (sh x : ShelfId) :
    (s.judgeShelf sh).shelves[x] = if sh = x then s.judgedShelf x else s.shelves[x] := by
  have hsame : s.judgedState sh = s.shelves[sh].state → s.shelves[x] = if sh = x then s.judgedShelf x else s.shelves[x] := by
    intro h
    split
    · next e =>
      subst e
      rw [judgedShelf_same h]
    · rfl
  have hnew : s.judgedState sh = s.restState sh → s.restState sh ≠ s.shelves[sh].state →
      (s.enterRest sh none).shelves[x] = if sh = x then s.judgedShelf x else s.shelves[x] := by
    intro h hne
    rw [enterRest_get]
    split
    · next e =>
      subst e
      rw [judgedShelf_new h hne]
    · rfl
  unfold State.judgedState at hsame
  unfold State.judgedState State.restState at hnew
  unfold State.judgeShelf
  cases hs : s.shelves[sh].state with
  | holdover left =>
    rw [hs] at hsame hnew
    dsimp only
    cases hv : s.holdoverValid sh with
    | true =>
      rw [if_pos rfl]
      exact hsame (by simp [ShelfState.isHoldover, ShelfState.isFreerun, hv])
    | false =>
      rw [if_neg Bool.false_ne_true]
      exact hnew (by simp [ShelfState.isHoldover, hv]) (by simp [hv])
  | freerun =>
    rw [hs] at hsame hnew
    dsimp only
    cases hv : s.holdoverValid sh with
    | true =>
      rw [if_pos rfl]
      exact hnew (by simp [ShelfState.isHoldover, ShelfState.isFreerun, hv]) (by simp [hv])
    | false =>
      rw [if_neg Bool.false_ne_true]
      exact hsame (by simp [ShelfState.isHoldover, ShelfState.isFreerun, hv])
  | _ =>
    rw [hs] at hsame
    exact hsame rfl

theorem judgedShelf_congr (hs : t.shelves[sh] = s.shelves[sh]) (hc : Consequences s t) : t.judgedShelf sh = s.judgedShelf sh := by
  have hvalid : t.holdoverValid sh = s.holdoverValid sh :=
    holdoverValid_congr hc.domains hc.current (by rw [hc.osc]) (by rw [hs])
  have hlimit : t.limitMs sh = s.limitMs sh := by
    unfold State.limitMs State.shelfRecord
    rw [hc.shelfDomain, hc.domains]
  unfold State.judgedShelf State.judgedState
  rw [hs, hvalid, hlimit]

theorem judge_get (l : List ShelfId) (hl : l.Nodup) (s : State) (x : ShelfId) :
    (l.foldl State.judgeShelf s).shelves[x] = if x ∈ l then s.judgedShelf x else s.shelves[x] := by
  induction l generalizing s with
  | nil => simp
  | cons sh rest ih =>
    obtain ⟨hsh, hrest⟩ := List.nodup_cons.mp hl
    have hone := judgeShelf_get s sh x
    rw [List.foldl_cons, ih hrest]
    by_cases hx : sh = x
    · subst hx
      rw [if_neg hsh, hone]
      simp only [if_true, List.mem_cons, true_or]
    · rw [if_neg hx] at hone
      rw [hone, judgedShelf_congr hone (moves_judgeShelf s sh).consequences]
      simp only [List.mem_cons, Ne.symm hx, false_or]

/-- R109 judges every shelf by its own record. -/
theorem judgeShelves_get (s : State) (x : ShelfId) : s.judgeShelves.shelves[x] = s.judgedShelf x := by
  exact (judge_get _ (List.nodup_finRange 48) s x).trans (if_pos (List.mem_finRange x))

/-- R109 leaves a shelf where it is called to: it passes between HOLDOVER and FREERUN only. -/
theorem Settles.judge (h : Settles s v sh) : Settles s v.judgeShelves sh := by
  have hlook : LooksAlike v v.judgeShelves := (moves_judgeShelves v).consequences.sameInputs.looksAlike
  have hget := judgeShelves_get v sh
  generalize v.judgeShelves = w at hlook hget ⊢
  have hsteer : w.shelves[sh].steering = v.shelves[sh].steering := by
    rw [hget]
    rfl
  have hstate : w.shelves[sh].state = v.judgedState sh := by
    rw [hget]
    rfl
  have hrest : (v.shelves[sh].state = .freerun ∨ ∃ left, v.shelves[sh].state = .holdover left) →
      (v.judgedState sh = .freerun ∨ ∃ left, v.judgedState sh = .holdover left) → Settles s w sh := by
    intro h1 h2
    have hfree : v.stands sh v.shelves[sh].steering .freerun := by
      have hv := h.1
      unfold StandsIn at hv
      rcases h1 with e | ⟨left, e⟩
      · rwa [e] at hv
      · rw [e] at hv
        exact (stands_rests left).mp hv
    refine settles_of_not_locked ((stands_congr hlook _ _).mpr ?_) fun c pend => ?_
    · rw [hsteer, hstate]
      rcases h2 with e | ⟨left, e⟩
      · rwa [e]
      · rw [e]
        exact (stands_rests left).mpr hfree
    · rw [hstate]
      rcases h2 with e | ⟨left, e⟩ <;> rw [e] <;> exact nofun
  have hsame : v.judgedState sh = v.shelves[sh].state → Settles s w sh := fun e =>
    hlook.settles hsteer (hstate.trans e) h
  unfold State.judgedState at hrest hsame
  split at hrest
  · next hc => exact hrest (.inr (isHoldover_iff.mp hc.1)) (.inl rfl)
  · next hc =>
    split at hrest
    · next hf => exact hrest (.inl (isFreerun_iff.mp hf.1)) (.inr ⟨_, rfl⟩)
    · next hf =>
      rw [if_neg hc, if_neg hf] at hsame
      exact hsame rfl

/-! ## DOMAIN SETUP -/

theorem revertive_setup {d : DomainId} {record : Domain} (hu : u = { s with domains := s.domains.set d record })
    (h : sh ∉ State.resetupShelves s u d) (hauto : s.shelves[sh].steering = .auto) (hl : s.shelves[sh].state.isLocked = true) :
    s.handed sh = u.handed sh ∧ (u.shelfRecord sh).map Domain.revertive = (s.shelfRecord sh).map Domain.revertive := by
  unfold State.resetupShelves at h
  rw [List.mem_filter, not_and] at h
  have hno := h (List.mem_finRange sh)
  rw [Bool.or_eq_true, not_or, bne_iff_ne, not_not] at hno
  obtain ⟨hhanded, hrev⟩ := hno
  refine ⟨hhanded, ?_⟩
  have hshelves : u.shelves[sh] = s.shelves[sh] := by rw [hu]
  have hdom : u.shelfDomain sh = s.shelfDomain sh := by rw [hu]; rfl
  rw [hshelves, hauto, hl, hdom] at hrev
  unfold State.shelfRecord
  rw [hdom]
  cases hd : s.shelfDomain sh with
  | none => rfl
  | some e =>
    rw [hd] at hrev
    have hget : u.domains[e] = if d = e then record else s.domains[e] := by
      rw [hu]
      simp only [Fin.getElem_fin, Vector.getElem_set, Fin.ext_iff]
    by_cases hde : d = e
    · subst hde
      simp only [beq_self_eq_true, Bool.and_true, bne_iff_ne, ne_eq, not_not] at hrev
      simp only [Option.map_some, hrev]
    · rw [if_neg hde] at hget
      simp only [Option.map_some, hget]

end

end Sys2Proof.Machine
end

section
/-!
PROOFS. DOMAIN SETUP and APPLY PARTITION leave every shelf where its ranking and its steering call for it (R47, R48, R50).
-/

namespace Sys2Proof.Machine

section
variable {s t u v w : State} {sh : ShelfId}

theorem settles_domainSetup {d : DomainId} {record : Domain} (hs : s.shelvesSettled) (ha : s.awake)
    (hu : u = { s with domains := s.domains.set d record }) (y : ShelfId) :
    Settles s (u.inTurn (State.resetupShelves s u d) fun t sh => State.meet s t sh Ctx.failing) y := by
  have hstand : ∀ y, StandsIn s s y := fun y => (shelfSettled_iff.mp (hs y)).1
  have hshelves : u.shelves = s.shelves := by rw [hu]
  have hc : u.current = s.current := by rw [hu]
  have hawake : u.awake := awake_congr ha (by rw [hu])
  have hstay : ∀ {v y}, GrantedAtMost u v y → Stayed s v y := fun h => GrantedAtMost.stayed h (.inl (by rw [hshelves]))
  have hunder : Underway u (u.inTurn (State.resetupShelves s u d) fun t sh => State.meet s t sh Ctx.failing)
      fun y => y ∈ State.resetupShelves s u d := by
    refine underway_inTurn ((List.nodup_finRange 48).filter _) fun v y _ hlook hgrant => ?_
    exact meet_placedTurn ((hstay hgrant).standsIn (hstand y)) (hlook.current.trans hc) (hlook.awake hawake) Ctx.failing
  generalize u.inTurn (State.resetupShelves s u d) (fun t sh => State.meet s t sh Ctx.failing) = w at hunder ⊢
  have hlook := hunder.inputs
  by_cases hy : y ∈ State.resetupShelves s u d
  · exact Placed.settles (hlook.placed.mpr (hunder.placed y hy))
  · have hhanded : s.handed y = u.handed y := by
      by_contra hne
      refine hy (List.mem_filter.mpr ⟨List.mem_finRange y, ?_⟩)
      rw [bne_iff_ne.mpr hne, Bool.true_or]
    refine (hstay (hunder.waiting y hy)).settles (hlook.sameView (sameView_of_handed hhanded hc ha hawake)) (hstand y)
      fun hauto hl => ?_
    obtain ⟨-, hrev⟩ := revertive_setup hu hy hauto hl
    unfold State.shelfRecord at hrev ⊢
    rw [hlook.shelfDomain, hlook.domains]
    exact hrev

theorem settledFrom_self (ha : s.awake) (hs : s.shelvesSettled) : SettledFrom s s :=
  ⟨hs, fun sh p c pend => (settles_unshown hs ha (looksAlike_refl s) (fun _ => .inl rfl) sh).2 p c pend⟩

theorem settledFrom_domainSetup (ha : s.awake) (hs : s.shelvesSettled) (n : Nat) (b : DomainSetupBody) :
    SettledFrom s (s.doDomainSetup n b).1 := by
  unfold State.doDomainSetup
  split
  · next d record _ _ =>
    split
    · exact settledFrom_self ha hs
    · exact settledFrom_refresh (fun y => (settles_domainSetup hs ha rfl y).judge) s
  · exact settledFrom_self ha hs

/-! ## APPLY PARTITION -/

/-- A shelf that stays in its domain has its turn in an apply (R48). -/
theorem keepShelf_placedTurn (hs : StandsIn s v sh) (hd : v.shelfDomain sh = s.shelfDomain sh) (hv : v.awake) :
    PlacedTurn v (State.keepShelf s v sh) sh := by
  have hup : ∀ p : PortId, v.ports[p].state = .up → v.ports[p].activity = true := fun p hp => by
    rw [hv p, hp]
    rfl
  have hmeet : (∀ p, v.shelves[sh].steering = .steer p → v.sameDomain sh p = true) →
      PlacedTurn v (State.meet s v sh Ctx.failing) sh := fun hst => by
    have hready : Ready v sh { Ctx.failing with ceased := State.ceased s v sh } := hs.ready hd hst rfl hup
    exact hready.placedTurn
  unfold State.keepShelf
  cases hp : v.shelves[sh].steering.port? with
  | none =>
    refine hmeet fun p e => ?_
    rw [e] at hp
    cases hp
  | some p =>
    dsimp only
    split
    · next hin =>
      refine hmeet fun q e => ?_
      rw [e] at hp
      obtain rfl : q = p := Option.some.inj hp
      exact hin
    · have hne : v.shelves[sh].steering ≠ .auto := fun e => by
        rw [e] at hp
        cases hp
      obtain ⟨K, hm, -, hauto, -⟩ := moved_actUnsteered v sh { forced := some .partition, strict := true, ceased := false }
      refine ⟨hm.moves.consequences.sameInputs.looksAlike, ⟨actUnsteered_stands (fun e => ?_) (fun e => ?_) _, ?_⟩,
        fun y hy => hm.grantedAtMost hy⟩
      · exact hne (stands_nowhere hs (hd.symm.trans e)).1
      · unfold StandsIn at hs
        rw [e] at hs
        exact hne (stands_parked hs).1
      · intro q c pend hst
        rw [hauto] at hst
        cases hst

/-- A turn that begins with writing the steering of a shelf to AUTO. -/
theorem PlacedTurn.after_movedOut (h : PlacedTurn (v.movedOut sh) w sh) : PlacedTurn v w sh := by
  have hlook : LooksAlike v (v.movedOut sh) := (movedOut_consequences v sh).sameInputs.looksAlike
  refine ⟨hlook.trans h.inputs, hlook.placed.mp h.placed, fun y hy => ?_⟩
  have hk := h.others y hy
  unfold GrantedAtMost at hk ⊢
  rw [(samePool_movedOut v sh).others y hy] at hk
  exact hk

theorem placedTurn_of_auto {K : List DomainEvent} (hm : Moved v w sh K) (hauto : v.shelves[sh].steering = .auto)
    (h : StandsIn v w sh) : PlacedTurn v w sh := by
  refine ⟨hm.moves.consequences.sameInputs.looksAlike, ⟨h, fun p c pend hst => ?_⟩, fun y hy => hm.grantedAtMost hy⟩
  rcases hm.steering with e | ⟨-, e⟩
  · rw [e, hauto] at hst
    cases hst
  · rw [e] at hst
    cases hst

/-- A shelf that changes its domain has its turn in an apply (R47). -/
theorem moveShelf_placedTurn (hs : StandsIn s v sh) : PlacedTurn v (State.moveShelf s v sh) sh := by
  have hself := movedOut_shelf v sh
  have hauto : (v.movedOut sh).shelves[sh].steering = .auto := by rw [hself]
  have hstate : (v.movedOut sh).shelves[sh].state = v.shelves[sh].state := by rw [hself]
  have heq : State.moveShelf s v sh =
      if (v.movedOut sh).shelves[sh].state.isHeld then v.movedOut sh
      else if ((v.movedOut sh).shelfDomain sh).isNone then (v.movedOut sh).park sh .partition
      else if (s.shelfDomain sh).isNone then (v.movedOut sh).reselect sh .assigned
      else
        match (v.movedOut sh).shelves[sh].state with
        | .queued _ => (v.movedOut sh).reselect sh .partition
        | .acquire _ _ => (v.movedOut sh).reselect sh .partition
        | .locked _ _ => (v.movedOut sh).reselect sh .partition
        | .bridge _ _ => (v.movedOut sh).reselect sh .partition
        | _ => (v.movedOut sh).actAuto sh Ctx.failing := rfl
  refine PlacedTurn.after_movedOut ?_
  rw [heq]
  generalize v.movedOut sh = u at hauto hstate
  split_ifs with hheld hnone hold
  · refine placedTurn_of_auto (Moved.refl u sh) hauto ?_
    unfold StandsIn
    rw [hauto, held_nominee hheld]
    trivial
  · have hpark : (u.park sh .partition).shelves[sh].steering = .auto ∧ (u.park sh .partition).shelves[sh].state = .parked := by
      unfold State.park
      rw [setShelf_get_self, enterState_self, leavePool_shelf]
      exact ⟨hauto, rfl⟩
    refine ⟨(moves_park u sh _).consequences.sameInputs.looksAlike, ⟨?_, fun p c pend hst => ?_⟩,
      fun y hy => grantedAtMost_park _ hy⟩
    · unfold StandsIn
      rw [hpark.1, hpark.2]
      exact Option.isNone_iff_eq_none.mp hnone
    · rw [hpark.1] at hst
      cases hst
  all_goals
    have hd : u.shelfDomain sh ≠ none := fun e => hnone (Option.isNone_iff_eq_none.mpr e)
    have hnot : u.shelves[sh].state.isHeld = false := Bool.eq_false_iff.mpr hheld
    have hreselect : ∀ cause, PlacedTurn u (u.reselect sh cause) sh := fun cause =>
      placedTurn_of_auto (moved_reselect hnot cause) hauto (reselect_stands hauto hnot hd cause)
  · exact hreselect _
  · have hact : u.shelves[sh].state ≠ .parked → PlacedTurn u (u.actAuto sh Ctx.failing) sh := fun hp => by
      obtain ⟨K, hm, -⟩ := acts_actAuto hauto Ctx.failing
      exact placedTurn_of_auto hm hauto (actAuto_stands hauto hd hp _)
    cases hu : u.shelves[sh].state with
    | parked =>
      unfold StandsIn at hs
      rw [← hstate, hu] at hs
      exact absurd (Option.isNone_iff_eq_none.mpr (stands_parked hs).2) hold
    | held n =>
      rw [hu] at hnot
      cases hnot
    | freerun => exact hact (by rw [hu]; exact nofun)
    | holdover left => exact hact (by rw [hu]; exact nofun)
    | _ => exact hreselect _

theorem settles_apply (hs : s.shelvesSettled) (ha : s.awake) (hu : u = s.repartition.raisePart .applied) (y : ShelfId) :
    Settles s (u.inTurn (State.appliedTo s u) (State.applyToShelf s)) y := by
  have hstand : ∀ y, StandsIn s s y := fun y => (shelfSettled_iff.mp (hs y)).1
  have hshelves : u.shelves = s.shelves := by rw [hu]; rfl
  have hdomains : u.domains = s.domains := by rw [hu]; rfl
  have hawake : u.awake := awake_congr ha (by rw [hu]; rfl)
  have hstay : ∀ {v y}, GrantedAtMost u v y → Stayed s v y := fun h => GrantedAtMost.stayed h (.inl (by rw [hshelves]))
  have hunder : Underway u (u.inTurn (State.appliedTo s u) (State.applyToShelf s)) fun y => y ∈ State.appliedTo s u := by
    refine underway_inTurn ((List.nodup_finRange 48).filter _) fun v y _ hlook hgrant => ?_
    have hv := (hstay hgrant).standsIn (hstand y)
    unfold State.applyToShelf
    split
    · next hd => exact keepShelf_placedTurn hv hd.symm (hlook.awake hawake)
    · exact moveShelf_placedTurn hv
  generalize u.inTurn (State.appliedTo s u) (State.applyToShelf s) = w at hunder ⊢
  have hlook := hunder.inputs
  by_cases hy : y ∈ State.appliedTo s u
  · exact Placed.settles (hlook.placed.mpr (hunder.placed y hy))
  · unfold State.appliedTo at hy
    rw [List.mem_filter, not_and] at hy
    have hno := hy (List.mem_finRange y)
    rw [Bool.or_eq_true, not_or, bne_iff_ne, bne_iff_ne, not_not, not_not] at hno
    obtain ⟨hdom, hhanded⟩ := hno
    have hview : SameView s u y :=
      ⟨hdom.symm, (congrArg Handed.entries hhanded).symm, (congrArg Handed.verdicts hhanded).symm, hawake, ha⟩
    refine (hstay (hunder.waiting y (by rwa [State.appliedTo, List.mem_filter, not_and]))).settles (hlook.sameView hview)
      (hstand y) fun _ _ => ?_
    unfold State.shelfRecord
    rw [hlook.shelfDomain, hlook.domains, ← hdom, hdomains]

theorem settledFrom_apply (ha : s.awake) (hs : s.shelvesSettled) (h : s.pendingPart ≠ s.current) :
    SettledFrom s s.doApplyPartition.1 := by
  rw [State.doApplyPartition, if_neg h]
  exact settledFrom_refresh (fun y => (settles_apply hs ha rfl y).judge) s

end

end Sys2Proof.Machine
end

section
/-!
PROOFS. Every step keeps every shelf where its ranking and its steering call for it.
-/

namespace Sys2Proof.Machine

/-- What the engine reads of a grade record (R61, R62, R65) is the same. -/
def Grade.ranksAs (g h : Grade) : Prop :=
  h.accepted = g.accepted ∧ h.holdover = g.holdover ∧ h.truncated = g.truncated ∧ h.trace = g.trace ∧ h.loopFlag = g.loopFlag

/-- Two parts whose rankings are the same, though their grade records may differ in what the engine does not read. -/
structure RanksAlike (s t : State) : Prop where
  state : ∀ p : PortId, t.ports[p].state = s.ports[p].state
  activity : ∀ p : PortId, t.ports[p].activity = s.ports[p].activity
  grades : ∀ p : PortId, s.grades[p].ranksAs t.grades[p]
  current : t.current = s.current
  domains : t.domains = s.domains
  lists : t.lists = s.lists
  cells : t.cells = s.cells

section
variable {s t u v w : State} {sh : ShelfId}

theorem LooksAlike.ranksAlike (h : LooksAlike s t) : RanksAlike s t :=
  ⟨h.state, h.activity, fun p => by rw [h.grades]; exact ⟨rfl, rfl, rfl, rfl, rfl⟩, h.current, h.domains, h.lists, h.cells⟩

theorem RanksAlike.laterReason (h : RanksAlike s t) (sh : ShelfId) (d : DomainId) (p : PortId) :
    t.laterReason sh d p = s.laterReason sh d p := by
  obtain ⟨ha, -, ht, htr, hl⟩ := h.grades p
  unfold State.laterReason State.effectiveGrade State.barred
  rw [h.domains, h.lists, h.cells, ha, ht, htr, hl]

theorem RanksAlike.shelfDomain (h : RanksAlike s t) (sh : ShelfId) : t.shelfDomain sh = s.shelfDomain sh := by
  unfold State.shelfDomain
  rw [h.current]

theorem RanksAlike.portDomain (h : RanksAlike s t) (p : PortId) : t.portDomain p = s.portDomain p := by
  unfold State.portDomain
  rw [h.current]

theorem RanksAlike.eligible (h : RanksAlike s t) (sh : ShelfId) (p : PortId) : t.eligible sh p = s.eligible sh p := by
  simp only [State.eligible, State.admissible, h.state, h.shelfDomain, h.portDomain, h.laterReason]

theorem RanksAlike.verdicts (h : RanksAlike s t) (sh : ShelfId) : t.verdicts sh = s.verdicts sh := by
  have hv : ∀ d p, t.verdict sh d p = s.verdict sh d p := fun d p => by
    simp only [State.verdict, h.state, h.laterReason]
  unfold State.verdicts State.portsOf
  simp only [h.shelfDomain, h.portDomain]
  split
  · exact List.map_congr_left fun p _ => hv _ p
  · rfl

theorem RanksAlike.eligibleList (h : RanksAlike s t) (sh : ShelfId) : t.eligibleList sh = s.eligibleList sh := by
  have hentry : ∀ (d : DomainId) (p : PortId) (n : Nat), t.entry d p n = s.entry d p n := fun d p n => by
    obtain ⟨ha, hh, -⟩ := h.grades p
    unfold State.entry
    rw [h.domains, ha, hh]
  have hentries : ∀ (d : DomainId) (l : List PortId) (n : Nat), t.entriesFrom sh d n l = s.entriesFrom sh d n l := by
    intro d l
    induction l with
    | nil => exact fun _ => rfl
    | cons p rest ih =>
      intro n
      unfold State.entriesFrom
      rw [h.eligible, hentry, ih]
  unfold State.eligibleList
  rw [h.shelfDomain, h.lists]
  simp only [hentries]

theorem RanksAlike.symm (h : RanksAlike s t) : RanksAlike t s :=
  ⟨fun p => (h.state p).symm, fun p => (h.activity p).symm, fun p => by
    obtain ⟨h1, h2, h3, h4, h5⟩ := h.grades p
    exact ⟨h1.symm, h2.symm, h3.symm, h4.symm, h5.symm⟩, h.current.symm, h.domains.symm, h.lists.symm, h.cells.symm⟩

theorem RanksAlike.awake (h : RanksAlike s t) (hs : s.awake) : t.awake := fun p => by
  rw [h.activity, h.state]
  exact hs p

theorem RanksAlike.sameView (h : RanksAlike s t) (ha : s.awake) (sh : ShelfId) : SameView s t sh :=
  ⟨h.shelfDomain sh, h.eligibleList sh, h.verdicts sh, h.awake ha, ha⟩

theorem RanksAlike.stands (h : RanksAlike s t) (ha : s.awake) {st : Steering} {y : ShelfState} (k : s.stands sh st y) :
    t.stands sh st y := by
  refine (h.sameView ha sh).stands (fun _ _ => ?_) k
  unfold State.shelfRecord
  rw [h.shelfDomain, h.domains]

theorem RanksAlike.nomineeOf (h : RanksAlike s t) (hst : t.shelves[sh].steering = s.shelves[sh].steering) :
    t.nomineeOf sh = s.nomineeOf sh := by
  unfold State.nomineeOf State.best
  rw [h.shelfDomain, hst, h.eligibleList]
  simp only [h.eligible, h.activity]

/-- The same state but for times that run (R75). -/
def ShelfState.Ages (a b : ShelfState) : Prop := ∃ d, b = a.elapse d

theorem ages_refl (a : ShelfState) : a.Ages a := ⟨0, by cases a <;> simp [ShelfState.elapse]⟩

theorem stands_ages {st : Steering} {a b : ShelfState} (h : a.Ages b) (k : s.stands sh st a) : s.stands sh st b := by
  obtain ⟨d, rfl⟩ := h
  cases st <;> cases a <;> exact k

theorem Ages.locked {a b : ShelfState} (h : a.Ages b) {c : PortId} {pend : Option (PortId × Cause)} :
    b = .locked c pend ↔ a = .locked c pend := by
  obtain ⟨d, rfl⟩ := h
  cases a <;> simp [ShelfState.elapse]

theorem Ages.held {a b : ShelfState} (h : a.Ages b) {n : Option PortId} : b = .held n ↔ a = .held n := by
  obtain ⟨d, rfl⟩ := h
  cases a <;> simp [ShelfState.elapse]

/-- Parts with the same rankings, steering and, but for times that run, shelf states. -/
structure StandsAlike (s t : State) : Prop where
  ranks : RanksAlike s t
  steering : ∀ x : ShelfId, t.shelves[x].steering = s.shelves[x].steering
  states : ∀ x : ShelfId, s.shelves[x].state.Ages t.shelves[x].state

theorem StandsAlike.settled (h : StandsAlike s t) (ha : s.awake) (hs : s.shelvesSettled) : t.shelvesSettled := fun x => by
  obtain ⟨hst, hn⟩ := shelfSettled_iff.mp (hs x)
  refine shelfSettled_iff.mpr ⟨?_, fun n hheld => ?_⟩
  · unfold StandsIn at hst ⊢
    rw [h.steering]
    exact stands_ages (h.states x) (h.ranks.stands ha hst)
  · rw [h.ranks.nomineeOf (h.steering x)]
    exact hn n ((Ages.held (h.states x)).mp hheld)

theorem WaitedOn.before {c : PortId} (h : StandsAlike s u) (k : WaitedOn u t sh c) : WaitedOn s t sh c := by
  obtain ⟨h1, h2, h3, h4, h5, h6⟩ := k
  obtain ⟨c', pend, hl⟩ := isLocked_iff.mp h1
  rw [hl] at h2
  obtain rfl := Option.some.inj h2
  have hs := (Ages.locked (h.states sh)).mp hl
  refine ⟨by rw [hs]; rfl, by rw [hs]; rfl, by rw [← h.steering]; exact h3, ?_, h5.trans (h.ranks.verdicts sh),
    h6.trans (h.ranks.eligibleList sh)⟩
  rw [← h.ranks.eligible]
  exact h4

theorem SettledFrom.before (h : StandsAlike s u) (k : SettledFrom u t) : SettledFrom s t :=
  ⟨k.1, fun sh p c pend hst hs he => WaitedOn.before h (k.2 sh p c pend hst hs he)⟩

theorem SettledFrom.after (k : SettledFrom s u) (h : LooksAlike u v) (hv : v.shelves = u.shelves) : SettledFrom s v := by
  refine ⟨shelvesSettled_doubts k.1 h fun x => .inl (by rw [hv]), fun sh p c pend hst hs he => ?_⟩
  rw [hv] at hst hs
  rw [h.eligible] at he
  obtain ⟨h1, h2, h3, h4, h5, h6⟩ := k.2 sh p c pend hst hs he
  exact ⟨h1, h2, h3, h4, (h.verdicts sh).trans h5, (h.eligibleList sh).trans h6⟩

/-- A part in which nothing moves. -/
theorem settledFrom_alike (h : StandsAlike s t) (ha : s.awake) (hs : s.shelvesSettled) : SettledFrom s t := by
  refine ⟨h.settled ha hs, fun sh p c pend hst hl he => ?_⟩
  have hl' := (Ages.locked (h.states sh)).mp hl
  refine ⟨by rw [hl']; rfl, by rw [hl']; rfl, by rw [← h.steering, hst]; exact nofun, ?_, h.ranks.verdicts sh,
    h.ranks.eligibleList sh⟩
  rw [← h.ranks.eligible]
  exact he

theorem standsAlike_of_looks (h : LooksAlike s t) (hs : t.shelves = s.shelves) : StandsAlike s t := by
  refine ⟨h.ranksAlike, fun x => ?_, fun x => ?_⟩ <;> rw [hs]
  exact ages_refl _

theorem standsAlike_withControl (s : State) (k : Control) : StandsAlike s (s.withControl k) :=
  standsAlike_of_looks ⟨fun _ => rfl, fun _ => rfl, rfl, rfl, rfl, rfl, rfl⟩ rfl

theorem standsAlike_elapse (s : State) (d : Nat) : StandsAlike s (s.elapse d) := by
  rcases Nat.eq_zero_or_pos d with rfl | hd
  · rw [elapse_zero]
    exact standsAlike_of_looks (looksAlike_refl s) rfl
  · refine ⟨⟨fun p => ?_, fun p => ?_, fun p => ?_, ?_, ?_, ?_, ?_⟩, fun x => (elapse_shelf_fields s d x).1,
      fun x => ⟨d, elapse_shelf_state s hd x⟩⟩
    · rw [elapse_ports_get s hd]
      rfl
    · rw [elapse_ports_get s hd]
      rfl
    · rw [elapse_grades_get s hd]
      exact ⟨rfl, rfl, rfl, rfl, rfl⟩
    all_goals rw [elapse_only]

theorem standsAlike_housekeeping (h : Housekeeping s t) : StandsAlike s t := by
  refine ⟨⟨fun p => ?_, fun p => ?_, fun p => ?_, ?_, ?_, ?_, ?_⟩, fun x => ?_, fun x => ?_⟩
  · rw [h.ports]
  · rw [h.ports]
  · rw [(h.grades p).1]
    exact ⟨rfl, rfl, rfl, rfl, rfl⟩
  · rw [h.rest]
  · rw [h.rest]
  · rw [h.rest]
  · rw [h.rest]
  · rw [h.shelves]
  · rw [h.shelves]
    exact ages_refl _

theorem portsSound_elapse (h : s.portsSound) (d : Nat) : (s.elapse d).portsSound := by
  rcases Nat.eq_zero_or_pos d with rfl | hd
  · rwa [elapse_zero]
  · intro p
    have hp := h p
    rw [elapse_mayMeasure, elapse_ports_get s hd]
    unfold Port.sound Port.elapse at *
    simpa only [Option.isSome_map] using hp

/-! ## Resets -/

theorem settledFrom_reset (straps : Straps) (bytes : List Byte) (now count : Nat) (pending : List Instr)
    (h : LooksAlike (State.atReset straps bytes now count pending) t)
    (hs : t.shelves = (State.atReset straps bytes now count pending).shelves) : SettledFrom s t := by
  have hawake : (State.atReset straps bytes now count pending).awake := fun p => by
    have hport : (State.atReset straps bytes now count pending).ports[p] = Port.atReset now := by
      simp only [State.atReset, Fin.getElem_fin, Vector.getElem_replicate]
    rw [hport]
    rfl
  refine ⟨(standsAlike_of_looks h hs).settled hawake (shelvesSettled_atReset _ _ _ _ _), fun sh p c pend _ hl => ?_⟩
  rw [hs, atReset_shelf] at hl
  cases hl

/-! ## Every step -/

theorem settledFrom_outputs (ha : s.awake) (hs : s.shelvesSettled) (h : LooksAlike s v) (hv : v.shelves = s.shelves) :
    SettledFrom s (State.refresh s v) :=
  settledFrom_refresh (settles_unshown hs ha h fun x => .inl (by rw [hv])) s

theorem Change.settledFrom (h : Change s t) (hp : s.portsSound) (hs : s.shelvesSettled) : SettledFrom s t := by
  have ha := hp.awake
  cases h with
  | idle => exact settledFrom_self ha hs
  | housekeeping hk => exact settledFrom_alike (standsAlike_housekeeping hk) ha hs
  | input x hu _ => exact settledFrom_input hp hs hu x
  | shelf hv => exact settledFrom_shelf ha hs hv
  | release _ => exact settledFrom_release ha hs
  | loseGuard => exact settledFrom_loseGuard ha hs
  | apply hne => exact settledFrom_apply ha hs hne
  | domainSetup n b => exact settledFrom_domainSetup ha hs n b
  | restart cp reply _ =>
    refine settledFrom_reset s.straps (shunMsg (nodeIdOf s.straps)).bytes s.now s.freeCount s.pending ?_ ?_
    · cases cp <;> exact ⟨fun _ => rfl, fun _ => rfl, rfl, rfl, rfl, rfl, rfl⟩
    · cases cp <;> rfl
  | outputSetup sh new => exact settledFrom_outputs ha hs ⟨fun _ => rfl, fun _ => rfl, rfl, rfl, rfl, rfl, rfl⟩ rfl
  | seam sh setup _ => exact settledFrom_outputs ha hs ⟨fun _ => rfl, fun _ => rfl, rfl, rfl, rfl, rfl, rfl⟩ rfl
  | send sh _ =>
    exact settledFrom_alike (standsAlike_of_looks ⟨fun _ => rfl, fun _ => rfl, rfl, rfl, rfl, rfl, rfl⟩ rfl) ha hs
  | sendEnd sh =>
    exact settledFrom_alike (standsAlike_of_looks ⟨fun _ => rfl, fun _ => rfl, rfl, rfl, rfl, rfl, rfl⟩ rfl) ha hs
  | rise pins => exact settledFrom_reset _ _ _ _ _ (looksAlike_refl _) rfl
  | pinUp _ =>
    exact settledFrom_alike (standsAlike_of_looks ⟨fun _ => rfl, fun _ => rfl, rfl, rfl, rfl, rfl, rfl⟩ rfl) ha hs
  | silence pins b =>
    exact settledFrom_reset pins (shunMsg (nodeIdOf pins)).bytes s.now s.freeCount s.pending
      ⟨fun _ => rfl, fun _ => rfl, rfl, rfl, rfl, rfl, rfl⟩ rfl

theorem step_settledFrom (hp : s.portsSound) (hs : s.shelvesSettled) (h : step s = .next t) : SettledFrom s t := by
  obtain ⟨k, d, u, hu, k', rfl, -⟩ := step_outcome h
  have hcontrol := standsAlike_withControl s k
  have hpk : (s.withControl k).portsSound := hp
  have htime := standsAlike_elapse (s.withControl k) d
  have hsk := hcontrol.settled hp.awake hs
  have hend := hu.settledFrom (portsSound_elapse hpk d) (htime.settled hpk.awake hsk)
  have hwritten : SettledFrom ((s.withControl k).elapse d) (u.withControl k') :=
    hend.after ⟨fun _ => rfl, fun _ => rfl, rfl, rfl, rfl, rfl, rfl⟩ rfl
  exact (hwritten.before htime).before hcontrol

end

/-- Settles O60: a shelf that acts on a new ranking is placed where it calls for it, one that is handed nothing new stands where it
did, and nothing else moves a shelf but the requests and times that name it. -/
theorem everyStepKeepsShelvesWhereTheirRankingsCall : Obligations.EveryStepKeepsShelvesWhereTheirRankingsCall := by
  intro s t hp hs h
  exact step_settledFrom hp hs h

end Sys2Proof.Machine
end

section
/-!
PROOFS. DOMAIN SETUP and DOMAIN REPORT (R49, R50, R53, R109).
-/

namespace Sys2Proof.Machine

section
variable {s t u v w : State} {sh : ShelfId}

/-! ## The record a body carries (R49, R190) -/

theorem assumeOf_eq_none {c a : Nat} : assumeOf c a = none ↔ 2 ≤ c ∨ (c = 1 ∧ (a = 0 ∨ 12 < a)) := by
  unfold assumeOf inRange
  split
  · simp
  · simp
    omega
  · next h0 h1 =>
    have : c ≠ 0 ∧ c ≠ 1 := ⟨h0, h1⟩
    simp only [true_iff]
    omega

theorem assumeOf_some {c a : Nat} {x : Option Nat} (h : assumeOf c a = some x) : x = if c = 1 then some a else none := by
  unfold assumeOf at h
  split at h
  · simp only [Option.some.injEq] at h
    simp [h.symm]
  · split at h
    · simp only [Option.some.injEq] at h
      simp [h.symm]
    · cases h
  · cases h

theorem truncatedPolicyOf_eq_none {n : Nat} : truncatedPolicyOf n = none ↔ 2 ≤ n := by
  unfold truncatedPolicyOf
  split
  · simp
  · simp
  · next h0 h1 =>
    have : n ≠ 0 ∧ n ≠ 1 := ⟨h0, h1⟩
    simp only [true_iff]
    omega

theorem truncatedPolicyOf_some {n : Nat} {x : TruncatedPolicy} (h : truncatedPolicyOf n = some x) :
    x = if n = 1 then .exclude else .accept := by
  unfold truncatedPolicyOf at h
  split at h
  · simp only [Option.some.injEq] at h
    simp [h.symm]
  · simp only [Option.some.injEq] at h
    simp [h.symm]
  · cases h

theorem limitOf_eq_none {n : Nat} : limitOf n = none ↔ 1440 < n := by
  unfold limitOf
  split_ifs <;> simp <;> omega

theorem limitOf_some {n : Nat} {x : Option Nat} (h : limitOf n = some x) : x = if n = 0 then none else some n := by
  unfold limitOf at h
  split_ifs at h with h0 h1
  · rw [if_pos h0, ← Option.some.inj h]
  · rw [if_neg h0, ← Option.some.inj h]

theorem ne_none_of_some {α : Type} {x : Option α} {a : α} (h : x = some a) : x ≠ none := by
  rw [h]
  exact nofun

theorem domainRecordOf_eq_none (b : DomainSetupBody) : domainRecordOf b = none ↔
    b.minGrade = 0 ∨ 12 < b.minGrade ∨ 2 ≤ b.ungraded ∨ (b.ungraded = 1 ∧ (b.assumed = 0 ∨ 12 < b.assumed)) ∨
      2 ≤ b.revertive ∨ 10000 < b.holdOff ∨ b.holdOff % 100 ≠ 0 ∨ 720 < b.restoreTime ∨ b.maxHops = 0 ∨
      8 < b.maxHops ∨ 2 ≤ b.truncatedTrace ∨ b.settleTime = 0 ∨ 60 < b.settleTime ∨ b.learnTime < 60 ∨
      3600 < b.learnTime ∨ 1440 < b.limit ∨ b.holdoverGrade = 0 ∨ 12 < b.holdoverGrade ∨ b.freeRunGrade = 0 ∨
      12 < b.freeRunGrade := by
  have hflag : flagOf b.revertive = none ↔ 2 ≤ b.revertive := by
    rw [flagOf_cases]
    split_ifs <;> simp <;> omega
  have hassume := assumeOf_eq_none (c := b.ungraded) (a := b.assumed)
  have hpolicy := truncatedPolicyOf_eq_none (n := b.truncatedTrace)
  have hlimit := limitOf_eq_none (n := b.limit)
  unfold domainRecordOf
  cases ha : assumeOf b.ungraded b.assumed with
  | none => simp only [true_iff]; have := hassume.mp ha; omega
  | some a =>
  cases hf : flagOf b.revertive with
  | none => simp only [true_iff]; have := hflag.mp hf; omega
  | some f =>
  cases hp : truncatedPolicyOf b.truncatedTrace with
  | none => simp only [true_iff]; have := hpolicy.mp hp; omega
  | some p =>
  cases hl : limitOf b.limit with
  | none => simp only [true_iff]; have := hlimit.mp hl; omega
  | some l =>
    have h1 := mt hassume.mpr (ne_none_of_some ha)
    have h2 := mt hflag.mpr (ne_none_of_some hf)
    have h3 := mt hpolicy.mpr (ne_none_of_some hp)
    have h4 := mt hlimit.mpr (ne_none_of_some hl)
    dsimp only
    split_ifs with h
    · simp only [inRange, Bool.and_eq_true, decide_eq_true_eq, beq_iff_eq] at h
      simp only [false_iff]
      omega
    · simp only [inRange, Bool.and_eq_true, decide_eq_true_eq, beq_iff_eq] at h
      simp only [true_iff]
      omega

theorem domainRecordOf_some {b : DomainSetupBody} {new : Domain} (h : domainRecordOf b = some new) :
    new = { minGrade := b.minGrade, assume := if b.ungraded = 1 then some b.assumed else none,
            revertive := b.revertive == 1, holdOff := b.holdOff, restoreTime := b.restoreTime,
            maxHops := b.maxHops, truncatedPolicy := if b.truncatedTrace = 1 then .exclude else .accept,
            settleTime := b.settleTime, learnTime := b.learnTime,
            limit := if b.limit = 0 then none else some b.limit, holdoverGrade := b.holdoverGrade,
            freeRunGrade := b.freeRunGrade } := by
  unfold domainRecordOf at h
  split at h
  · next assume revertive policy limit ha hf hp hl =>
    split at h
    · have hrev : revertive = (b.revertive == 1) := by
        rw [flagOf_cases] at hf
        split at hf
        · exact (Option.some.inj hf).symm
        · cases hf
      rw [← assumeOf_some ha, ← hrev, ← truncatedPolicyOf_some hp, ← limitOf_some hl]
      exact (Option.some.inj h).symm
    · cases h
  · cases h

/-! ## What acting and judging leave of a shelf -/

/-- Acting leaves every shelf's learned time (R106). -/
theorem act_learned (v : State) (sh : ShelfId) (x : Ctx) (y : ShelfId) : (v.act sh x).shelves[y].learned = v.shelves[y].learned := by
  obtain ⟨K, hm⟩ := moved_act v sh x
  by_cases hy : y = sh
  · rw [hy]
    exact hm.learned
  · rcases hm.others y hy with e | e
    · rw [e]
    · exact e.kept.2.1

theorem acts_learned (l : List ShelfId) (x : State → ShelfId → Ctx) (v : State) (y : ShelfId) :
    (l.foldl (fun v sh => v.act sh (x v sh)) v).shelves[y].learned = v.shelves[y].learned := by
  induction l generalizing v with
  | nil => rfl
  | cons sh rest ih => exact (ih _).trans (act_learned v sh _ y)

theorem moves_acts (l : List ShelfId) (x : State → ShelfId → Ctx) (v : State) :
    Moves v (l.foldl (fun v sh => v.act sh (x v sh)) v) := moves_foldl _ (fun v sh => moves_act v sh _) l v

/-- The judgement of one shelf: nothing, or into FREERUN, or into HOLDOVER (R109). -/
theorem judgeShelf_cases (s : State) (sh : ShelfId) :
    (s.judgeShelf sh = s ∧ s.judgedState sh = s.shelves[sh].state) ∨
      s.judgeShelf sh = s.enterRest sh none ∧
        ((s.shelves[sh].state.isHoldover = true ∧ s.judgedState sh = .freerun ∧ restKind s sh = .freerun) ∨
          (s.shelves[sh].state.isFreerun = true ∧ s.judgedState sh = .holdover (s.limitMs sh) ∧ restKind s sh = .holdover)) := by
  unfold State.judgeShelf State.judgedState restKind
  cases hs : s.shelves[sh].state with
  | holdover left =>
    dsimp only
    cases s.holdoverValid sh with
    | true => exact .inl ⟨rfl, rfl⟩
    | false => exact .inr ⟨rfl, .inl ⟨rfl, rfl, rfl⟩⟩
  | freerun =>
    dsimp only
    cases s.holdoverValid sh with
    | true => exact .inr ⟨rfl, .inr ⟨rfl, rfl, rfl⟩⟩
    | false => exact .inl ⟨rfl, rfl⟩
  | _ => exact .inl ⟨rfl, rfl⟩

theorem shelfRaises_freerun {a : ShelfState} (h : a.isHoldover = true) (k : DomainEvent) :
    shelfRaises a .freerun false k = true ↔ k = .freerun := by
  obtain ⟨left, rfl⟩ := isHoldover_iff.mp h
  cases k <;> simp [shelfRaises, ShelfState.isQueued, ShelfState.isAcquire, ShelfState.isLocked, ShelfState.isBridge,
    ShelfState.isHoldover, ShelfState.isFreerun]

theorem shelfRaises_holdover {a : ShelfState} (h : a.isFreerun = true) (left : Option Nat) (k : DomainEvent) :
    shelfRaises a (.holdover left) false k = true ↔ k = .holdover := by
  rw [isFreerun_iff.mp h]
  cases k <;> simp [shelfRaises, ShelfState.isQueued, ShelfState.isAcquire, ShelfState.isLocked, ShelfState.isBridge,
    ShelfState.isHoldover, ShelfState.isFreerun]

theorem raises_judgeShelf (s : State) (sh : ShelfId) : Raises s (s.judgeShelf sh) fun d k =>
    s.shelfDomain sh = some d ∧ shelfRaises s.shelves[sh].state (s.judgedState sh) false k = true := by
  have hrest := raises_enterState s sh (s.restState sh) none (some (restKind s sh))
  rw [← enterRest_eq] at hrest
  rcases judgeShelf_cases s sh with ⟨e, hs⟩ | ⟨e, ⟨h, hs, hk⟩ | ⟨h, hs, hk⟩⟩ <;> rw [e, hs]
  · exact (raises_none rfl).congr fun d k => by rw [shelfRaises_self]; simp
  · refine hrest.congr fun d k => and_congr_right fun _ => ?_
    rw [shelfRaises_freerun h, hk]
    simp [eq_comm]
  · refine hrest.congr fun d k => and_congr_right fun _ => ?_
    rw [shelfRaises_holdover h, hk]
    simp [eq_comm]

theorem judgedState_congr (hs : t.shelves[sh] = s.shelves[sh]) (hc : Consequences s t) : t.judgedState sh = s.judgedState sh :=
  congrArg Shelf.state (judgedShelf_congr hs hc)

theorem judgedState_isHeld (s : State) (sh : ShelfId) : (s.judgedState sh).isHeld = s.shelves[sh].state.isHeld := by
  rcases judgeShelf_cases s sh with ⟨-, hs⟩ | ⟨-, ⟨h, hs, -⟩ | ⟨h, hs, -⟩⟩ <;> rw [hs]
  · obtain ⟨left, e⟩ := isHoldover_iff.mp h
    rw [e]
    rfl
  · rw [isFreerun_iff.mp h]
    rfl

theorem raises_judge (l : List ShelfId) (hl : l.Nodup) (s : State) : Raises s (l.foldl State.judgeShelf s) fun d k =>
    ∃ x ∈ l, s.shelfDomain x = some d ∧ shelfRaises s.shelves[x].state (s.judgedState x) false k = true := by
  induction l generalizing s with
  | nil => exact (raises_none rfl).congr fun d k => by simp
  | cons sh rest ih =>
    obtain ⟨hsh, hrest⟩ := List.nodup_cons.mp hl
    have hc := (moves_judgeShelf s sh).consequences
    rw [List.foldl_cons]
    refine ((raises_judgeShelf s sh).trans (ih hrest _)).congr fun d k => ?_
    simp only [hc.shelfDomain, List.mem_cons, exists_eq_or_imp]
    refine or_congr_right (exists_congr fun x => and_congr_right fun hx => ?_)
    have hget := judgeShelf_get s sh x
    rw [if_neg (by
      rintro rfl
      exact hsh hx)] at hget
    rw [judgedState_congr hget hc, hget]

/-- After the judgement and a refresh: R109's events and no others have been raised (R78). -/
theorem eventsOfMoves_judged (k : ShelvesKept w.judgeShelves t) : EventsOfMoves w t := by
  obtain ⟨-, -, hevents, hkept⟩ := k
  have hraises := raises_judge (List.finRange 48) (List.nodup_finRange 48) w
  have hget := judgeShelves_get w
  have hsame : w.judgeShelves = (List.finRange 48).foldl State.judgeShelf w := rfl
  rw [← hsame] at hraises
  generalize w.judgeShelves = z at hevents hkept hraises hget
  refine (hraises.trans (raises_none hevents)).congr fun d k => ?_
  simp only [List.mem_finRange, true_and, or_false]
  refine exists_congr fun x => and_congr_right fun _ => ?_
  have hst : t.shelves[x].steering = w.shelves[x].steering := by
    rw [(hkept x).1, hget]
    rfl
  have hlost : (w.shelves[x].steering != .auto && t.shelves[x].steering == .auto) = false := by
    rw [hst]
    cases w.shelves[x].steering <;> rfl
  rw [hlost]
  have hstate : z.shelves[x].state = w.judgedState x := by
    rw [hget]
    rfl
  rcases (hkept x).2 with e | ⟨hz, ht⟩
  · rw [e, hstate]
  · rw [hstate] at hz
    have hw : w.shelves[x].state.isHeld = true := by
      rwa [judgedState_isHeld] at hz
    rw [held_nominee hw, held_nominee ht, held_nominee hz]
    cases k <;> rfl

/-- A shelf after the judgement and a refresh. -/
theorem judged_shelf (k : ShelvesKept w.judgeShelves t) (sh : ShelfId) :
    (w.shelves[sh].state.isHeld = true → ShelfKept w t sh) ∧
      (w.shelves[sh].state.isHeld = false → t.shelves[sh] =
        { w.judgedShelf sh with valid := t.shelves[sh].valid }) := by
  obtain ⟨-, -, -, hkept⟩ := k
  have hget := judgeShelves_get w sh
  have hone := hkept sh
  generalize w.judgeShelves = z at hget hone
  refine ⟨fun hheld => ?_, fun hnot => ?_⟩
  · have hsame : w.judgedShelf sh = w.shelves[sh] := by
      rcases judgeShelf_cases w sh with ⟨-, hs⟩ | ⟨-, ⟨h, -, -⟩ | ⟨h, -, -⟩⟩
      · exact judgedShelf_same hs
      · obtain ⟨left, e⟩ := isHoldover_iff.mp h
        rw [e] at hheld
        cases hheld
      · rw [isFreerun_iff.mp h] at hheld
        cases hheld
    unfold ShelfKept at hone ⊢
    rwa [hget, hsame] at hone
  · have hstate : t.shelves[sh].state = z.shelves[sh].state := by
      refine hone.state_of_not_held ?_
      rw [hget]
      exact (judgedState_isHeld w sh).trans hnot
    have hrec := hone.1
    rw [hstate, hget] at hrec
    exact hrec

/-- Where a judged shelf rests is where its record calls for it (R109). -/
theorem judged_rests (w : State) (sh : ShelfId) : ((w.judgedState sh).isHoldover = true → w.holdoverValid sh = true) ∧
    ((w.judgedState sh).isFreerun = true → w.holdoverValid sh = false) := by
  unfold State.judgedState
  split
  · next h => exact ⟨nofun, fun _ => h.2⟩
  · next h =>
    split
    · next h' => exact ⟨fun _ => h'.2, nofun⟩
    · next h' =>
      refine ⟨fun e => ?_, fun e => ?_⟩
      · cases hv : w.holdoverValid sh with
        | true => rfl
        | false => exact absurd ⟨e, hv⟩ h
      · cases hv : w.holdoverValid sh with
        | true => exact absurd ⟨e, hv⟩ h'
        | false => rfl

/-! ## DOMAIN SETUP -/

/-- An accepted DOMAIN SETUP: the shelves it reaches act in turn, and then every shelf is judged (R50, R109). -/
theorem domainSetup_acts {d : DomainId} {new : Domain} (hu : u = { s with domains := s.domains.set d new }) :
    ∃ v w : State, (∃ n, v = { u with freeCount := n }) ∧
      ActInTurn s v w Ctx.failing (fun sh => s.handed sh != v.handed sh || (s.domains[d].revertive != new.revertive &&
        s.shelfDomain sh == some d && s.shelves[sh].steering == .auto && s.shelves[sh].state.isLocked)) ∧
      u.inTurn (State.resetupShelves s u d) (fun t sh => State.meet s t sh Ctx.failing) = w := by
  obtain ⟨order, n, hperm, h⟩ := inTurn_order u (State.resetupShelves s u d) fun t sh => State.meet s t sh Ctx.failing
  refine ⟨{ u with freeCount := n }, _, ⟨n, rfl⟩, ⟨order, ?_, h⟩, rfl⟩
  have hhanded : ∀ sh : ShelfId, ({ u with freeCount := n } : State).handed sh = u.handed sh := fun sh =>
    SameInputs.handed (s := u) (t := { u with freeCount := n }) ⟨rfl, rfl, rfl, rfl, rfl, rfl⟩ sh rfl
  have hrev : u.domains[d].revertive = new.revertive := by
    rw [hu]
    simp
  have hdom : ∀ sh : ShelfId, u.shelfDomain sh = s.shelfDomain sh := fun sh => by rw [hu]; rfl
  have hshelves : u.shelves = s.shelves := by rw [hu]
  unfold State.resetupShelves at hperm
  simp only [hrev, hdom, hshelves] at hperm
  simp only [hhanded]
  exact hperm

theorem domainSetup_changes {cp : ControlPort} {b : DomainSetupBody} {d : DomainId} {new : Domain} (h : s.readyActive cp = true)
    (hb : domainRecordOf b = some new) (hne : new ≠ s.domains[d]) :
    ∃ t, exec (.domainSetup cp d.val b) s = .next t ∧ Answers s t cp .ok [] ∧
      RequestConsequences { s with domains := s.domains.set d new } t ∧
      ∃ v w : State, RequestConsequences v t ∧ (∃ n, v = { s with domains := s.domains.set d new, freeCount := n }) ∧
        ShelvesKept w.judgeShelves t ∧ t.validSound ∧
        ActInTurn s v w Ctx.failing (fun sh => s.handed sh != v.handed sh || (s.domains[d].revertive != new.revertive &&
          s.shelfDomain sh == some d && s.shelves[sh].steering == .auto && s.shelves[sh].state.isLocked)) := by
  generalize hu : ({ s with domains := s.domains.set d new } : State) = u
  obtain ⟨v, w, ⟨n, hv⟩, hturn, hw⟩ := domainSetup_acts (s := s) (d := d) (new := new) hu.symm
  have hcarry : s.carryOut cp (.domainSetup d.val b) = (State.refresh s w.judgeShelves, Reply.ok []) := by
    show s.doDomainSetup d.val b = _
    unfold State.doDomainSetup
    rw [domainOf_val, hb]
    dsimp only
    rw [if_neg hne, hu, hw]
  have hc : Consequences u (State.refresh s w.judgeShelves) := by
    rw [← hw]
    exact ((moves_inTurn u _ _ fun t sh => moves_act t sh _).trans (moves_judgeShelves _)).consequences.trans
      (refresh_consequences s _)
  obtain ⟨hexec, hans, hcons⟩ := exec_changed (i := .domainSetup cp d.val b) rfl h nofun hcarry hc
  refine ⟨_, hexec, hans, hcons, v, w, ?_, ⟨n, by rw [hv, ← hu]⟩, shelvesKept_answered (refresh_shelvesKept s _) _ _ _, ?_, hturn⟩
  · unfold RequestConsequences at hcons ⊢
    rw [hv]
    exact hcons
  · exact validSound_congr (refresh_validSound s _) (answered_domains ..) (answered_current ..) (by rw [answered_osc])
      (fun sh => by rw [answered_shelves]) fun sh => by rw [answered_shelves]

/-- What the judgement and a refresh after turns leave of every shelf, seen from the part `v` before the turns. -/
theorem judged_after {order : List ShelfId} {x : State → ShelfId → Ctx} (hcons : RequestConsequences v t)
    (hw : w = order.foldl (fun v sh => v.act sh (x v sh)) v) (hkept : ShelvesKept w.judgeShelves t) (hvalid : t.validSound)
    (sh : ShelfId) :
    (t.shelves[sh].learned = v.shelves[sh].learned ∧ (t.shelves[sh].state.isHoldover = true → t.shelves[sh].valid = true) ∧
      (t.shelves[sh].state.isFreerun = true → t.shelves[sh].valid = false)) ∧
    (w.shelves[sh].state.isHeld = true → ShelfKept w t sh) ∧
    (w.shelves[sh].state.isHeld = false →
      t.shelves[sh].lastCause = w.shelves[sh].lastCause ∧ t.shelves[sh].steering = w.shelves[sh].steering ∧
      t.shelves[sh].changed = (w.shelves[sh].changed || t.shelves[sh].state != w.shelves[sh].state) ∧
      t.shelves[sh].state =
        if w.shelves[sh].state.isHoldover = true ∧ v.holdoverValid sh = false then .freerun
        else if w.shelves[sh].state.isFreerun = true ∧ v.holdoverValid sh = true then .holdover (v.limitMs sh)
        else w.shelves[sh].state) := by
  have hmoves : Moves v w := hw ▸ moves_acts order x v
  have hlearned : w.shelves[sh].learned = v.shelves[sh].learned := hw ▸ acts_learned order x v sh
  have hvw : w.holdoverValid sh = v.holdoverValid sh := hmoves.consequences.holdoverValid hlearned
  have hlimit : w.limitMs sh = v.limitMs sh := hmoves.consequences.limitMs sh
  obtain ⟨hheld, hnot⟩ := judged_shelf hkept sh
  have htl : t.shelves[sh].learned = w.shelves[sh].learned := by
    cases hh : w.shelves[sh].state.isHeld with
    | true => rw [(hheld hh).1]
    | false => rw [hnot hh]; rfl
  have htv : t.holdoverValid sh = w.holdoverValid sh := by
    rw [hvw]
    refine holdoverValid_congr ?_ ?_ ?_ (htl.trans hlearned) <;> rw [hcons]
  have hvalidt : t.shelves[sh].valid = w.holdoverValid sh := (hvalid sh).trans htv
  have hrests := judged_rests w sh
  refine ⟨⟨htl.trans hlearned, ?_⟩, hheld, fun hh => ?_⟩
  · rw [hvalidt]
    cases hh : w.shelves[sh].state.isHeld with
    | true =>
      have hheldt : t.shelves[sh].state.isHeld = true := by rw [(hheld hh).isHeld, hh]
      rw [held_nominee hheldt]
      exact ⟨nofun, nofun⟩
    | false =>
      have hstate : t.shelves[sh].state = w.judgedState sh := by rw [hnot hh]; rfl
      rw [hstate]
      exact hrests
  · have hrec := hnot hh
    have hstate : t.shelves[sh].state = w.judgedState sh := by rw [hrec]; rfl
    rw [← hvw, ← hlimit]
    refine ⟨by rw [hrec]; rfl, by rw [hrec]; rfl, ?_, hstate⟩
    rw [hstate, hrec]
    rfl

end

/-- Settles O32. -/
theorem domainSetupReplacesTheRecord : Obligations.DomainSetupReplacesTheRecord := by
  intro cp n b s
  refine ⟨domainRecordOf_eq_none b, fun new => domainRecordOf_some, fun h hbad => ?_, fun d new h hd hb hnew => ?_,
    fun d new h hd hb hne => ?_, fun h hp hn => ?_, fun d h hp hd => ?_⟩
  · refine exec_active (reply := Reply.plain .badField) rfl h nofun ?_
    show s.doDomainSetup n b = _
    unfold State.doDomainSetup
    rcases hbad with hn | hb
    · rw [domainOf_eq_none hn]
    · rw [hb]
      cases domainOf n <;> rfl
  · subst hd
    refine exec_active (reply := Reply.plain .noChange) rfl h nofun ?_
    show s.doDomainSetup d.val b = _
    unfold State.doDomainSetup
    rw [domainOf_val, hb]
    dsimp only
    rw [if_pos hnew]
  · subst hd
    obtain ⟨t, hexec, hans, hcons, v, w, hcons', ⟨m, hv⟩, hkept, hvalid, hturn⟩ := domainSetup_changes (d := d) h hb hne
    obtain ⟨order, hperm, hw⟩ := hturn
    have hvs : v.shelves = s.shelves := by rw [hv]
    have hafter := judged_after hcons' hw hkept hvalid
    have hevents := eventsOfMoves_judged hkept
    obtain ⟨hunits, hqueue, -, -⟩ := hkept
    obtain ⟨hju, hjq⟩ := poolStays_judgeShelves w
    refine ⟨t, hexec, hans, hcons, fun sh => ?_, v, w, hcons', hvs, by rw [hv], by rw [hv], by rw [hv], hevents,
      ⟨order, hperm, hw⟩, hunits.trans hju, hqueue.trans hjq, fun sh => (hafter sh).2⟩
    rw [← hvs]
    exact (hafter sh).1
  · refine exec_reading (reply := Reply.plain .badField) rfl h hp rfl ?_
    show s.doDomainReport n = _
    unfold State.doDomainReport
    rw [domainOf_eq_none hn]
  · subst hd
    refine exec_report rfl h hp rfl ?_ rfl
    show s.doDomainReport d.val = _
    unfold State.doDomainReport
    rw [domainOf_val]
    rfl

end Sys2Proof.Machine
end

section
/-!
PROOFS. OUTPUT SETUP and the seam (R145, R146, R147).
-/

namespace Sys2Proof.Machine

section
variable {s t u : State} {sh : ShelfId}

/-! ## The setup a body carries (R145, R190) -/

theorem modeOf_cases (n : Nat) :
    modeOf n = if n < 4 then some (([.follow, .localOsc, .quiet, .mark] : List OutputMode).getD n .follow) else none := by
  unfold modeOf
  split
  · rfl
  · rfl
  · rfl
  · rfl
  · next h0 h1 h2 h3 =>
    have : n ≠ 0 ∧ n ≠ 1 ∧ n ≠ 2 ∧ n ≠ 3 := ⟨h0, h1, h2, h3⟩
    rw [if_neg (by omega)]

theorem squelchOf_eq_none {n : Nat} : squelchOf n = none ↔ 12 < n := by
  unfold squelchOf
  split_ifs <;> simp <;> omega

theorem squelchOf_some {n : Nat} {x : Option Nat} (h : squelchOf n = some x) : x = if n = 0 then none else some n := by
  unfold squelchOf at h
  split_ifs at h with h0 h1
  · rw [if_pos h0, ← Option.some.inj h]
  · rw [if_neg h0, ← Option.some.inj h]

theorem flagOf_none_iff {n : Nat} : flagOf n = none ↔ 2 ≤ n := by
  rw [flagOf_cases]
  split_ifs <;> simp <;> omega

theorem flagOf_some {n : Nat} {x : Bool} (h : flagOf n = some x) : x = (n == 1) := by
  rw [flagOf_cases] at h
  split_ifs at h
  exact (Option.some.inj h).symm

theorem modeOf_eq_none {n : Nat} : modeOf n = none ↔ 4 ≤ n := by
  rw [modeOf_cases]
  split_ifs <;> simp <;> omega

theorem modeOf_some {n : Nat} {x : OutputMode} (h : modeOf n = some x) :
    x = ([.follow, .localOsc, .quiet, .mark] : List OutputMode).getD n .follow := by
  rw [modeOf_cases] at h
  split_ifs at h
  exact (Option.some.inj h).symm

theorem outputSetupOf_eq_none (b : OutputSetupBody) : outputSetupOf b = none ↔
    2 ≤ b.enabled ∨ 4 ≤ b.mode ∨ 2 ≤ b.divide ∨ 2 ≤ b.invert ∨ 12 < b.squelch := by
  rw [← flagOf_none_iff (n := b.enabled), ← modeOf_eq_none, ← flagOf_none_iff (n := b.divide),
    ← flagOf_none_iff (n := b.invert), ← squelchOf_eq_none]
  unfold outputSetupOf
  cases flagOf b.enabled <;> cases modeOf b.mode <;> cases flagOf b.divide <;> cases flagOf b.invert <;>
    cases squelchOf b.squelch <;> simp

theorem outputSetupOf_some {b : OutputSetupBody} {new : OutputSetup} (h : outputSetupOf b = some new) :
    new = { enabled := b.enabled == 1, mode := [.follow, .localOsc, .quiet, .mark].getD b.mode .follow,
            divide := b.divide == 1, invert := b.invert == 1,
            squelch := if b.squelch = 0 then none else some b.squelch } := by
  unfold outputSetupOf at h
  split at h
  · next he hm hd hi hq =>
    rw [← flagOf_some he, ← modeOf_some hm, ← flagOf_some hd, ← flagOf_some hi, ← squelchOf_some hq]
    exact (Option.some.inj h).symm
  · cases h

/-! ## A refresh after a change of one output (R147, R152) -/

/-- Renewing nominees and validity writes shelf records alone. -/
theorem refreshed_eq (v : State) :
    v.refreshNominees.syncValid = { v with shelves := (v.refreshNominees.syncValid).shelves } := by
  unfold State.syncValid State.refreshNominees
  rfl

/-- What is left then of what the messages of a shelf are built from (R154). -/
theorem refreshed_messages (v : State) (sh : ShelfId) :
    (∀ c, (v.refreshNominees.syncValid).lockedMessage sh c = v.lockedMessage sh c) ∧
      (v.refreshNominees.syncValid).freeRunGradeOf sh = v.freeRunGradeOf sh ∧
      (v.refreshNominees.syncValid).holdoverGradeOf sh = v.holdoverGradeOf sh ∧
      (v.refreshNominees.syncValid).nodeId = v.nodeId ∧ (v.refreshNominees.syncValid).osc = v.osc ∧
      (v.refreshNominees.syncValid).outputs = v.outputs ∧ (v.refreshNominees.syncValid).now = v.now := by
  rw [refreshed_eq]
  generalize (v.refreshNominees.syncValid).shelves = z
  exact ⟨fun _ => rfl, rfl, rfl, rfl, rfl, rfl, rfl⟩

theorem refreshed_state (v : State) (sh : ShelfId) : (v.refreshNominees.syncValid).shelves[sh].state =
    if v.shelves[sh].state.isHeld then .held (v.nomineeOf sh) else v.shelves[sh].state := by
  rw [syncValid_shelf, refreshNominees_shelf]

theorem refreshed_valid {v : State} (hv : v.validSound) (sh : ShelfId) :
    (v.refreshNominees.syncValid).shelves[sh].valid = v.shelves[sh].valid := by
  rw [syncValid_shelf, hv sh]
  exact refreshNominees_consequences.holdoverValid (by rw [refreshNominees_shelf])

/-- What stands on an output's lines is called for by its shelf's state, so a refresh that nothing but outputs changed
before leaves the drive under any one setup, where validity was judged before. -/
theorem refreshed_driveUnder {v : State} (hv : v.validSound) (hs : v.shelves = s.shelves)
    (hl : ∀ c, v.lockedMessage sh c = s.lockedMessage sh c) (hf : v.freeRunGradeOf sh = s.freeRunGradeOf sh)
    (hh : v.holdoverGradeOf sh = s.holdoverGradeOf sh) (hn : v.nodeId = s.nodeId) (ho : v.osc = s.osc)
    (hz : v.outputs[sh].frozen = s.outputs[sh].frozen) (setup : OutputSetup) :
    (v.refreshNominees.syncValid).driveUnder sh setup (State.frozenOf s v.refreshNominees.syncValid sh) =
      s.driveUnder sh setup s.outputs[sh].frozen := by
  have hstate := refreshed_state v sh
  have hvalid := refreshed_valid hv sh
  obtain ⟨hlocked, hfree, hholdover, hnode, hosc, hout, -⟩ := refreshed_messages v sh
  rw [hs] at hstate hvalid
  generalize v.refreshNominees.syncValid = u at *
  unfold State.driveUnder State.trackerMessage State.plainMessage State.frozenOf State.restingMessage
  rw [hstate, hout, hz, hosc, ho, hvalid, hfree, hf, hholdover, hh, hnode, hn]
  cases hst : s.shelves[sh].state <;>
    simp only [ShelfState.isHeld, Bool.false_eq_true, if_false, if_true, hlocked, hl, Option.getD_some]
  simp [driveOf, ShelfState.isHeld]

/-- A change of output records leaves what everything else is built from. -/
theorem setOutput_driveUnder (hv : s.validSound) {o : Output} (ho : o.frozen = s.outputs[sh].frozen) (setup : OutputSetup) :
    ((s.setOutput sh o).refreshNominees.syncValid).driveUnder sh setup
        (State.frozenOf s ((s.setOutput sh o).refreshNominees.syncValid) sh) =
      s.driveUnder sh setup s.outputs[sh].frozen := by
  refine refreshed_driveUnder (s := s) (v := s.setOutput sh o) ?_ rfl (fun _ => rfl) rfl rfl rfl rfl ?_ setup
  · exact validSound_congr hv rfl rfl rfl (fun _ => rfl) fun _ => rfl
  · rw [← ho]
    simp [State.setOutput]

/-- A refresh touches no output's setup but the one that waits, which takes over where the drive is a fixed level. -/
theorem refreshOutputs_setup (old u : State) (sh : ShelfId) :
    ((State.refreshOutputs old u).outputs[sh].active, (State.refreshOutputs old u).outputs[sh].pendingSetup) =
        u.setupNow sh (State.frozenOf old u sh) ∧
      (State.refreshOutputs old u).outputs[sh].drive =
        (u.driveUnder sh (u.setupNow sh (State.frozenOf old u sh)).1 (State.frozenOf old u sh)).1 := by
  rw [refreshOutputs_get]
  obtain ⟨ha, hp, hd, -⟩ := retime_fields (State.rebuilt old u sh) old.outputs[sh].active.enabled u.now
  rw [ha, hp, hd]
  exact ⟨rfl, rfl⟩

theorem refreshed_output (s : State) (sh : ShelfId) (o : Output) :
    ((s.setOutput sh o).refreshNominees.syncValid).outputs[sh] = o := by
  obtain ⟨-, -, -, -, -, hout, -⟩ := refreshed_messages (s.setOutput sh o) sh
  rw [hout]
  simp [State.setOutput]

/-- A setup that waits takes over at a fixed level and goes on waiting for the seam of a clock (R147). -/
theorem refresh_pending (s : State) {o : Output} {p : OutputSetup} (hp : o.pendingSetup = some p) :
    (((s.setOutput sh o).refreshNominees.syncValid).driveUnder sh o.active
        (State.frozenOf s ((s.setOutput sh o).refreshNominees.syncValid) sh)).1.fixed = true ∧
      (State.refresh s (s.setOutput sh o)).outputs[sh].active = p ∧
      (State.refresh s (s.setOutput sh o)).outputs[sh].pendingSetup = none ∨
    (((s.setOutput sh o).refreshNominees.syncValid).driveUnder sh o.active
        (State.frozenOf s ((s.setOutput sh o).refreshNominees.syncValid) sh)).1.fixed = false ∧
      (State.refresh s (s.setOutput sh o)).outputs[sh].active = o.active ∧
      (State.refresh s (s.setOutput sh o)).outputs[sh].pendingSetup = some p ∧
      (State.refresh s (s.setOutput sh o)).outputs[sh].drive.fixed = false := by
  have ho := refreshed_output s sh o
  unfold State.refresh
  generalize (s.setOutput sh o).refreshNominees.syncValid = u at ho ⊢
  obtain ⟨hsetup, hdrive⟩ := refreshOutputs_setup s u sh
  generalize State.refreshOutputs s u = t at hsetup hdrive ⊢
  rw [hdrive]
  unfold State.setupNow at hsetup ⊢
  rw [ho, hp] at hsetup ⊢
  dsimp only at hsetup ⊢
  cases hf : (u.driveUnder sh o.active (State.frozenOf s u sh)).1.fixed with
  | true =>
    rw [hf, if_pos rfl, Prod.mk.injEq] at hsetup
    exact .inl ⟨rfl, hsetup⟩
  | false =>
    rw [hf, if_neg (by decide), Prod.mk.injEq] at hsetup
    exact .inr ⟨rfl, hsetup.1, hsetup.2, hf⟩

/-- Without a setup that waits a refresh leaves the setup alone. -/
theorem refresh_setupKept (s : State) {o : Output} (hp : o.pendingSetup = none) :
    (State.refresh s (s.setOutput sh o)).outputs[sh].active = o.active ∧
      (State.refresh s (s.setOutput sh o)).outputs[sh].pendingSetup = none := by
  have ho := refreshed_output s sh o
  unfold State.refresh
  generalize (s.setOutput sh o).refreshNominees.syncValid = u at ho ⊢
  obtain ⟨hsetup, -⟩ := refreshOutputs_setup s u sh
  generalize State.refreshOutputs s u = t at hsetup ⊢
  unfold State.setupNow at hsetup
  rw [ho, hp] at hsetup
  exact Prod.mk.inj hsetup

/-- What a refresh makes of an output's sending after a change of its setup records. -/
theorem refresh_setOutput_follows (s : State) (o : Output) (hs : o.sending = s.outputs[sh].sending)
    (hl : o.lastSent = s.outputs[sh].lastSent) (ht : o.lastStart = s.outputs[sh].lastStart)
    (hd : o.sendDue = s.outputs[sh].sendDue) (hm : o.changedMark = s.outputs[sh].changedMark) :
    TransmitterFollows s.outputs[sh] (State.refresh s (s.setOutput sh o)).outputs[sh] s.now := by
  have ho := refreshed_output s sh o
  obtain ⟨-, -, -, -, -, -, hnow⟩ := refreshed_messages (s.setOutput sh o) sh
  unfold State.refresh
  generalize (s.setOutput sh o).refreshNominees.syncValid = u at ho hnow ⊢
  rw [show s.now = u.now from hnow.symm]
  exact refreshOutputs_follows s u sh (ho ▸ hs) (ho ▸ hl) (ho ▸ ht) (ho ▸ hd) (ho ▸ hm)

/-- A change of an output's record, with its refresh, touches outputs and what a refresh touches. -/
theorem refresh_setOutput_consequences (s : State) (sh : ShelfId) (o : Output) :
    Consequences s (State.refresh s (s.setOutput sh o)) := by
  have h : Consequences s (s.setOutput sh o) := rfl
  exact h.trans (refresh_consequences s _)

/-! ## The request and the seam -/

/-- The part after an OUTPUT SETUP, before the reply. -/
def State.withSetup (s : State) (sh : ShelfId) (new : OutputSetup) : State :=
  State.refresh s (s.setOutput sh { s.outputs[sh] with pendingSetup := some new })

theorem carryOut_outputSetup {cp : ControlPort} {b : OutputSetupBody} {new : OutputSetup} (hb : outputSetupOf b = some new)
    (hne : new ≠ s.outputs[sh].pendingSetup.getD s.outputs[sh].active) :
    s.carryOut cp (.outputSetup sh.val b) =
      (s.withSetup sh new, Reply.ok [flagByte (s.withSetup sh new).outputs[sh].pendingSetup.isNone]) := by
  show s.doOutputSetup sh.val b = _
  unfold State.doOutputSetup
  rw [shelfOf_val, hb]
  dsimp only
  rw [if_neg hne]
  rfl

theorem outputSetup_changes {cp : ControlPort} {b : OutputSetupBody} {new : OutputSetup} (h : s.readyActive cp = true)
    (hb : outputSetupOf b = some new) (hne : new ≠ s.outputs[sh].pendingSetup.getD s.outputs[sh].active) :
    ∃ t, exec (.outputSetup cp sh.val b) s = .next t ∧ RequestConsequences s t ∧ ShelvesKept s t ∧
      TransmitterFollows s.outputs[sh] t.outputs[sh] s.now ∧ t.outputs[sh] = (s.withSetup sh new).outputs[sh] ∧
      Answers s t cp .ok [flagByte (s.withSetup sh new).outputs[sh].pendingSetup.isNone] := by
  have hc : Consequences s (s.withSetup sh new) := refresh_setOutput_consequences s sh _
  obtain ⟨hexec, hans, hcons⟩ := exec_changed (i := .outputSetup cp sh.val b) rfl h nofun (carryOut_outputSetup hb hne) hc
  have hkept : ShelvesKept s (s.withSetup sh new) :=
    refresh_shelvesKept s (s.setOutput sh { s.outputs[sh] with pendingSetup := some new })
  refine ⟨_, hexec, hcons, shelvesKept_answered hkept _ _ _, ?_, ?_, hans⟩
  · rw [answered_outputs]
    exact refresh_setOutput_follows s _ rfl rfl rfl rfl rfl
  · rw [answered_outputs]

theorem takeSetup_seam (hr : s.inReset = false) {p : OutputSetup} (hp : s.outputs[sh].pendingSetup = some p) :
    exec (.outputSeam sh) s = .next (State.refresh s (s.takeSetup sh p)) := by
  show execOutputSeam sh s = _
  rw [execOutputSeam, live_of_not_inReset s _ hr, hp]

theorem clockLine_eq (hr : s.inReset = false) (sh : ShelfId) : s.clockLine sh =
    match s.outputs[sh].drive with
    | .low => .low
    | .high => .high
    | .tracker => .tracker s.outputs[sh].tracker (if s.outputs[sh].active.divide then 1024 else 2048) s.outputs[sh].active.invert
    | .localOsc => .localOsc (if s.outputs[sh].active.divide then 10000 else 20000) s.outputs[sh].active.invert := by
  unfold State.clockLine
  rw [hr]
  rfl

end

/-- Settles O44. -/
theorem outputSetupWaitsForTheSeam : Obligations.OutputSetupWaitsForTheSeam := by
  intro cp n b s
  refine ⟨outputSetupOf_eq_none b, fun new => outputSetupOf_some, fun h hbad => ?_, fun sh new h hn hb => ?_, fun sh hr => ?_,
    fun sh hr => ?_⟩
  · refine exec_active (reply := Reply.plain .badField) rfl h nofun ?_
    show s.doOutputSetup n b = _
    unfold State.doOutputSetup
    rcases hbad with hn | hb
    · rw [shelfOf_eq_none hn]
    · rw [hb]
      cases shelfOf n <;> rfl
  · subst hn
    have hpend := refresh_pending (sh := sh) s (o := { s.outputs[sh] with pendingSetup := some new }) rfl
    have hdrive (hv : s.validSound) :=
      setOutput_driveUnder (sh := sh) hv (o := { s.outputs[sh] with pendingSetup := some new }) rfl s.outputs[sh].active
    refine ⟨fun hsame => ?_, fun hne => ?_, fun hne hv hfixed => ?_, fun hne hv hclock => ?_⟩
    · refine exec_active (reply := Reply.plain .noChange) rfl h nofun ?_
      show s.doOutputSetup sh.val b = _
      unfold State.doOutputSetup
      rw [shelfOf_val, hb]
      dsimp only
      rw [if_pos hsame]
    · obtain ⟨t, hexec, hcons, hkept, hfollows, hout, hans⟩ := outputSetup_changes h hb hne
      refine ⟨t, hexec, hcons, hkept, hfollows, ?_⟩
      rw [hout]
      rcases hpend with ⟨-, hact, hnone⟩ | ⟨-, hact, hsome, hd⟩
      · refine .inl ⟨hact, hnone, ?_⟩
        rwa [State.withSetup, hnone] at hans
      · refine .inr ⟨hact, hsome, hd, ?_⟩
        rwa [State.withSetup, hsome] at hans
    · obtain ⟨t, hexec, hcons, hkept, hfollows, hout, hans⟩ := outputSetup_changes h hb hne
      refine ⟨t, hexec, hcons, ?_⟩
      rw [hout]
      rw [hdrive hv, hfixed] at hpend
      rcases hpend with ⟨-, hact, hnone⟩ | ⟨hf, -⟩
      · rw [State.withSetup, hnone] at hans
        exact ⟨hans, hact, hnone⟩
      · cases hf
    · obtain ⟨t, hexec, hcons, hkept, hfollows, hout, hans⟩ := outputSetup_changes h hb hne
      refine ⟨t, hexec, hcons, ?_⟩
      rw [hout]
      rw [hdrive hv, hclock] at hpend
      rcases hpend with ⟨hf, -⟩ | ⟨-, hact, hsome, hd⟩
      · cases hf
      · rw [State.withSetup, hsome] at hans
        exact ⟨hans, hact, hsome, hd⟩
  · refine ⟨fun hp => ?_, fun p hp => ⟨_, takeSetup_seam hr hp, refresh_setOutput_consequences s sh _, ?_, ?_⟩⟩
    · show execOutputSeam sh s = _
      rw [execOutputSeam, live_of_not_inReset s _ hr, hp]
    · exact refresh_shelvesKept s (s.takeSetup sh p)
    · obtain ⟨hact, hnone⟩ := refresh_setupKept (sh := sh) s (o := { s.outputs[sh] with active := p, pendingSetup := none }) rfl
      exact ⟨hact, hnone, refresh_setOutput_follows s _ rfl rfl rfl rfl rfl⟩
  · rw [clockLine_eq hr]
    refine ⟨fun h => ?_, fun h => ?_, fun h => ?_, fun h => ?_⟩ <;> rw [h]

end Sys2Proof.Machine
end

section
/-!
PROOFS. Grade messages are sent when they fall due (R159, R160, R161).
-/

namespace Sys2Proof.Machine

section
variable {s t : State} {sh : ShelfId} {m : GradeMsg}

theorem exec_gradeMessageSend_of_lastStart_none (hr : s.inReset = false) (h : s.outputs[sh].lastStart = none) :
    exec (.gradeMessageSend sh) s = .next s := by
  show execGradeMessageSend sh s = _
  rw [execGradeMessageSend, live_of_not_inReset s _ hr]
  unfold Output.dueAt
  rw [h]
  rfl

theorem exec_gradeMessageSend_of_lastStart {start due : Nat} (hr : s.inReset = false)
    (h : s.outputs[sh].lastStart = some start) (he : s.outputs[sh].active.enabled = true)
    (hd : due = if s.outputs[sh].changedMark then start + 100 else start + 1000) :
    exec (.gradeMessageSend sh) s = .next ((s.elapse (due - s.now)).setOutput sh
      (s.outputs[sh].sendNow (s.elapse (due - s.now)).now)) := by
  have hout : (s.elapse (due - s.now)).outputs = s.outputs := by rw [elapse_only]
  have hdue : s.outputs[sh].dueAt = some due := by rw [Output.dueAt, h, hd, Option.map_some]
  show execGradeMessageSend sh s = _
  rw [execGradeMessageSend, live_of_not_inReset s _ hr, hdue]
  dsimp only
  rw [hout, he, if_pos rfl]

theorem exec_gradeMessageSendEnd (hr : s.inReset = false) :
    exec (.gradeMessageSendEnd sh) s = .next (s.setOutput sh (s.outputs[sh].endMessage s.now)) := by
  show execGradeMessageSendEnd sh s = _
  rw [execGradeMessageSendEnd, live_of_not_inReset s _ hr]

/-- A message starts with the outgoing message as it stands (R159, R160). -/
theorem startMessage_of_outgoing {o : Output} (ho : o.outgoing = some m) (now : Nat) :
    o.startMessage now =
      { o with sending := some m.bytes, sendDue := false, lastSent := some m, lastStart := some now, changedMark := false } := by
  rw [Output.startMessage, ho]

theorem sendNow_of_outgoing {o : Output} (ho : o.outgoing = some m) (now : Nat) :
    (o.sending = none → o.sendNow now =
      { o with sending := some m.bytes, sendDue := false, lastSent := some m, lastStart := some now, changedMark := false }) ∧
    (o.sending ≠ none → o.sendNow now = { o with sendDue := true }) := by
  unfold Output.sendNow
  refine ⟨fun h => ?_, fun h => ?_⟩
  · rw [h, Option.isSome_none, if_neg (by decide), startMessage_of_outgoing ho]
  · rw [if_pos (Option.isSome_iff_ne_none.mpr h)]

theorem endMessage_idle {o : Output} (h : o.sendDue = false) (now : Nat) : o.endMessage now = { o with sending := none } := by
  rw [Output.endMessage, h, if_neg (by decide)]

theorem endMessage_due {o : Output} (h : o.sendDue = true) (ho : o.outgoing = some m) (now : Nat) :
    o.endMessage now =
      { o with sending := some m.bytes, sendDue := false, lastSent := some m, lastStart := some now, changedMark := false } := by
  rw [Output.endMessage, h, if_pos rfl, startMessage_of_outgoing (o := { o with sending := none, sendDue := true }) ho]

/-- The part at a seam: the setup that waited is active and the transmitter follows it. -/
theorem seam_taken (hr : s.inReset = false) {p : OutputSetup} (hp : s.outputs[sh].pendingSetup = some p) :
    ∃ t, exec (.outputSeam sh) s = .next t ∧ t.inReset = false ∧ t.outputs[sh].active = p ∧
      TransmitterFollows s.outputs[sh] t.outputs[sh] s.now := by
  obtain ⟨hact, -⟩ := refresh_setupKept (sh := sh) s (o := { s.outputs[sh] with active := p, pendingSetup := none }) rfl
  have hc : Consequences s (State.refresh s (s.takeSetup sh p)) := refresh_setOutput_consequences s sh _
  exact ⟨_, takeSetup_seam hr hp, by rw [State.inReset, hc]; exact hr, hact,
    refresh_setOutput_follows s _ rfl rfl rfl rfl rfl⟩

theorem gradeLine_eq (hr : s.inReset = false) (sh : ShelfId) : s.gradeLine sh = s.outputs[sh].sending := by
  rw [State.gradeLine, hr]
  rfl

end

/-- Settles O45. -/
theorem gradeMessagesAreSentWhenDue : Obligations.GradeMessagesAreSentWhenDue := by
  intro sh s hr
  refine ⟨exec_gradeMessageSend_of_lastStart_none hr, fun start due m u hstart he ho hd hu => ?_, fun h => ?_, fun m h ho => ?_,
    fun setup hp => ?_⟩
  · rw [exec_gradeMessageSend_of_lastStart hr hstart he hd, hu]
    obtain ⟨hidle, hbusy⟩ := sendNow_of_outgoing ho (s.elapse (due - s.now)).now
    exact ⟨fun h => by rw [hidle h], fun h => by rw [hbusy h]⟩
  · rw [exec_gradeMessageSendEnd hr, endMessage_idle h]
  · rw [exec_gradeMessageSendEnd hr, endMessage_due h ho]
  · obtain ⟨t, hexec, hrt, hact, -, hoff, hon⟩ := seam_taken hr hp
    rw [hact] at hoff hon
    refine ⟨t, hexec, fun he hd => ?_, fun he hd => ?_⟩
    · obtain ⟨hsend, -, -, -, hstart, hdue⟩ := hoff he hd
      refine ⟨hsend, by rw [gradeLine_eq hrt, gradeLine_eq hr, hsend], exec_gradeMessageSend_of_lastStart_none hrt hstart, ?_⟩
      rw [exec_gradeMessageSendEnd hrt, endMessage_idle hdue]
    · obtain ⟨m, ho, hidle, hbusy⟩ := hon he hd
      refine ⟨m, ho, fun h => ⟨(hidle h).1, (hidle h).2.2.1⟩, fun h => ⟨(hbusy h).1, ?_⟩⟩
      rw [exec_gradeMessageSendEnd hrt, endMessage_due (hbusy h).2.2 ho]

end Sys2Proof.Machine
end

section
/-!
PROOFS. The executor through every command (R166, R171): which commands touch the control ports, and that each keeps the
executor sound.
-/

namespace Sys2Proof.Machine

section
variable {s t u : State} {cp : ControlPort} {f : List Byte}

/-! ## Commands that touch no control port -/

theorem InputOnly.control (h : InputOnly s t) : t.control = s.control := by
  unfold InputOnly at h
  rw [h]
  rfl

theorem Consequences.control (h : Consequences s t) : t.control = s.control := by
  unfold Consequences at h
  rw [h]
  rfl

theorem elapse_control (s : State) (d : Nat) : (s.elapse d).control = s.control := by
  rw [elapse_only]
  rfl

theorem after_control {s : State} (d : Nat) {f : State → State} (h : InputOnly (s.elapse d) (f (s.elapse d))) :
    (s.after d f).control = s.control := by
  unfold State.after
  rw [(commit_consequences _ _ _).control, h.control, elapse_control]

theorem refresh_control {s : State} (old : State) (d : Nat) {v : State} (h : Moves (s.elapse d) v) :
    (State.refresh old v).control = s.control := by
  rw [(refresh_consequences _ _).control, h.consequences.control, elapse_control]

theorem live_control {s t : State} {f : State → State} (h : s.live f = .next t) (hf : (f s).control = s.control) :
    t.control = s.control := by
  cases hr : s.inReset with
  | true =>
    rw [live_of_inReset s f hr] at h
    injection h with h
    exact h ▸ rfl
  | false =>
    rw [live_of_not_inReset s f hr] at h
    injection h with h
    exact h ▸ hf

theorem portEvent_control (p : PortId) :
    (execActivityConfirmation p s = .next t → t.control = s.control) ∧
      (execActivityLoss p s = .next t → t.control = s.control) ∧
      (∀ m, execMeasurementWindowComplete p m s = .next t → t.control = s.control) ∧
      (execRestoreTimerExpiry p s = .next t → t.control = s.control) ∧
      (execWaiverDeadlinePasses p s = .next t → t.control = s.control) := by
  have hput : ∀ (d : Nat) (f : State → State), (∀ v, ∃ r, f v = v.putPort p r) → (s.after d f).control = s.control := by
    intro d f hf
    obtain ⟨r, hr⟩ := hf (s.elapse d)
    exact after_control d (hr ▸ (portsOnly_putPort _ p r).inputOnly)
  refine ⟨fun h => live_control h ?_, fun h => live_control h ?_, fun m h => live_control h ?_, fun h => live_control h ?_,
    fun h => live_control h ?_⟩
  · split
    · exact hput _ _ fun v => ⟨_, rfl⟩
    · rfl
  · split
    · exact hput _ _ fun v => ⟨_, rfl⟩
    · rfl
  · split
    · exact hput _ _ fun v => ⟨_, rfl⟩
    · rfl
  · split
    · split
      · exact hput _ _ fun v => ⟨_, rfl⟩
      · rfl
    · rfl
  · split
    · exact elapse_control s _
    · rfl

theorem gradeEvent_control (p : PortId) :
    (∀ bytes bad, execGradeMessage p bytes bad s = .next t → t.control = s.control) ∧
      (execCollectingGapTimeout p s = .next t → t.control = s.control) ∧
      (execGradeTimerExpiry p s = .next t → t.control = s.control) ∧
      (∀ b bad, execGradeLineByteReceived p b bad s = .next t → t.control = s.control) := by
  refine ⟨fun bytes bad h => live_control h ?_, fun h => live_control h ?_, fun h => live_control h ?_,
    fun b bad h => live_control h ?_⟩
  · split
    · rfl
    · exact after_control 0 (gradesOnly_completeMessage _ p bytes bad).inputOnly
  · unfold State.gapTimeout
    split <;> rfl
  · split
    · exact after_control _ (gradesOnly_putGrade _ p _).inputOnly
    · rfl
  · exact after_control 0 (gradesOnly_receiveByte _ p b bad).inputOnly

theorem shelfEvent_control (sh : ShelfId) :
    (execHoldOffExpiry sh s = .next t → t.control = s.control) ∧
      (execSettleComplete sh s = .next t → t.control = s.control) ∧
      (execHoldoverLimitExpiry sh s = .next t → t.control = s.control) ∧
      (execLearnTimeReached sh s = .next t → t.control = s.control) := by
  refine ⟨fun h => live_control h ?_, fun h => live_control h ?_, fun h => live_control h ?_, fun h => live_control h ?_⟩
  · split
    · exact refresh_control _ _ (moves_endHoldOff _ sh)
    · rfl
  · split
    · exact refresh_control _ _ (moves_completeSettle _ sh _)
    · rfl
  · split
    · exact refresh_control _ _ (moves_expireLimit _ sh)
    · rfl
  · split
    · exact refresh_control _ _ (.refl _)
    · rfl

theorem oscillatorEvent_control :
    (execGuardAbsent s = .next t → t.control = s.control) ∧
      (execGuardPresent s = .next t → t.control = s.control) ∧
      (∀ m, execBackgroundWindowComplete m s = .next t → t.control = s.control) ∧
      (∀ m, execCheckComplete m s = .next t → t.control = s.control) := by
  refine ⟨fun h => live_control h ?_, fun h => live_control h ?_, fun m h => live_control h ?_, fun m h => live_control h ?_⟩
  · split
    · dsimp only
      rw [(refresh_consequences _ _).control, (monitorOnly_loseGuard _).inputOnly.control, elapse_control]
    · rfl
  · split
    · rfl
    · exact elapse_control s _
  · split
    · exact after_control _ (monitorOnly_completeBackground _ m).inputOnly
    · rfl
  · split
    · exact after_control _ (monitorOnly_endCheck _ _ _).inputOnly
    · rfl

theorem outputEvent_control (sh : ShelfId) :
    (execOutputSeam sh s = .next t → t.control = s.control) ∧
      (execGradeMessageSend sh s = .next t → t.control = s.control) ∧
      (execGradeMessageSendEnd sh s = .next t → t.control = s.control) := by
  refine ⟨fun h => live_control h ?_, fun h => live_control h ?_, fun h => live_control h rfl⟩
  · split
    · rw [(refresh_consequences _ _).control]
      rfl
    · rfl
  · split
    · dsimp only
      split
      · exact elapse_control s _
      · exact elapse_control s _
    · rfl

/-! ## The executor's own operations (R171) -/

/-- A port is WORKING on a request that does not wait exactly while that request is the one being carried out. -/
def State.executing (s : State) : Prop :=
  ∀ cp : ControlPort, (s.cpi cp).stage = .working none ↔ ∃ f, s.carrying = some (cp, f)

theorem executorSound_iff : s.executorSound ↔
    (s.carrying = none → s.waiting .cpa = none ∧ s.waiting .cpb = none) ∧ s.executing := Iff.rfl

/-- The executor is sound by what is carried out and the ports' stages alone. -/
theorem executorSound_congr (hc : t.carrying = s.carrying) (hs : ∀ cp, (t.cpi cp).stage = (s.cpi cp).stage)
    (h : s.executorSound) : t.executorSound := by
  have hw : ∀ cp, t.waiting cp = s.waiting cp := fun cp => by unfold State.waiting; rw [hs]
  refine ⟨fun hn => ?_, fun cp => ?_⟩
  · rw [hw, hw]
    exact h.1 (hc ▸ hn)
  · rw [hs, hc]
    exact h.2 cp

theorem executorSound_control (hc : t.control = s.control) (h : s.executorSound) : t.executorSound :=
  executorSound_congr (congrArg Control.carrying hc) (fun cp => by rw [cpi_of_control hc]) h

/-- Writing a port is seen on that port alone. -/
theorem setCpi_cpi (s : State) (cp q : ControlPort) (c : Cpi) : (s.setCpi cp c).cpi q = if q = cp then c else s.cpi q := by
  cases cp <;> cases q <;> rfl

theorem executorSound_setCpi {c : Cpi} (hs : c.stage = (s.cpi cp).stage) (h : s.executorSound) :
    (s.setCpi cp c).executorSound := by
  refine executorSound_congr (setCpi_carrying s cp c) (fun q => ?_) h
  rw [setCpi_cpi]
  split
  · next hq => rw [hs, hq]
  · rfl

/-- A port may turn to another stage that the executor does not work on, while it is not worked for. -/
theorem executing_setCpi {c : Cpi} (hold : (s.cpi cp).stage ≠ .working none) (hnew : c.stage ≠ .working none)
    (h : s.executing) : (s.setCpi cp c).executing := by
  intro q
  rw [setCpi_carrying, setCpi_cpi]
  split
  · next hq =>
    subst hq
    exact ⟨fun hs => absurd hs hnew, fun hf => absurd ((h q).mpr hf) hold⟩
  · exact h q

theorem restartPart_executorSound (s : State) (cp : ControlPort) (reply : List Byte) :
    (s.restartPart cp reply).executorSound := by
  cases cp
  · refine ⟨fun _ => ⟨rfl, rfl⟩, fun q => ⟨fun hs => ?_, fun ⟨f, hf⟩ => by cases hf⟩⟩
    cases q <;> cases hs
  · refine ⟨fun _ => ⟨rfl, rfl⟩, fun q => ⟨fun hs => ?_, fun ⟨f, hf⟩ => by cases hf⟩⟩
    cases q <;> cases hs

/-- The ports and the executor after a request other than a RESTART that is carried out has been taken (R171). -/
theorem take_ports (s : State) (cp : ControlPort) (r : Request) :
    (r = .restart ∧ s.precheck cp r = none ∧ s.take cp r = s.restartPart cp (Reply.ok []).frame) ∨
      ((r = .restart → s.precheck cp r ≠ none) ∧ (s.take cp r).carrying = some (cp, (s.answer cp r).2.frame) ∧
        (s.take cp r).prevSupplier = some cp ∧ (s.take cp r).cpi cp = { s.cpi cp with stage := .working none } ∧
        (s.take cp r).cpi (otherPort cp) = s.cpi (otherPort cp)) := by
  have hcpi := answer_cpi s cp
  unfold State.take
  split
  · next hr =>
    simp only [Bool.and_eq_true, decide_eq_true_eq, Option.isNone_iff_eq_none] at hr
    exact .inl ⟨hr.1, hr.2, rfl⟩
  · next hr =>
    simp only [Bool.and_eq_true, decide_eq_true_eq, Option.isNone_iff_eq_none, not_and] at hr
    refine .inr ⟨hr, ?_⟩
    have hself := hcpi cp r
    have hother := hcpi (otherPort cp) r
    dsimp only
    generalize s.answer cp r = done at hself hother ⊢
    refine ⟨?_, ?_, ?_, ?_⟩
    · rw [State.setStage, setCpi_carrying]
    · cases cp <;> rfl
    · rw [State.setStage, setCpi_cpi_self, ← hself]
      cases cp <;> rfl
    · rw [State.setStage, setCpi_cpi_other, ← hother]
      cases cp <;> rfl

theorem take_executorSound (hn : s.carrying = none) (h : s.executing) (cp : ControlPort) (r : Request) :
    (s.take cp r).executorSound := by
  rcases take_ports s cp r with ⟨-, -, he⟩ | ⟨-, hcarry, -, hself, hother⟩
  · rw [he]
    exact restartPart_executorSound s cp _
  · refine ⟨fun hf => absurd (hcarry.symm.trans hf) nofun, fun q => ?_⟩
    rw [hcarry]
    by_cases hq : q = cp
    · subst hq
      rw [hself]
      exact ⟨fun _ => ⟨_, rfl⟩, fun _ => rfl⟩
    · obtain rfl : q = otherPort cp := by
        revert hq
        cases q <;> cases cp <;> simp [otherPort]
      rw [hother]
      refine ⟨fun hs => ?_, fun ⟨f, hf⟩ => absurd (Prod.mk.inj (Option.some.inj hf)).1.symm hq⟩
      obtain ⟨f, hf⟩ := (h _).mp hs
      rw [hn] at hf
      cases hf

/-- Serving leaves nothing waiting for a free executor. -/
theorem serve_executorSound (h : s.executing) : s.serve.executorSound := by
  unfold State.serve
  split
  · next hc => exact ⟨fun hn => absurd hn (Option.isSome_iff_ne_none.mp hc), h⟩
  · next hc =>
    have hn : s.carrying = none := by simpa using hc
    split
    · exact take_executorSound hn h _ _
    · exact take_executorSound hn h _ _
    · next hp ho =>
      refine ⟨fun _ => ?_, h⟩
      generalize s.preferred = q at hp ho
      cases q
      · exact ⟨hp, ho⟩
      · exact ⟨ho, hp⟩

/-! ## Frames on a control port (R165 to R167) -/

theorem accept_executorSound (h : s.executorSound) (hs : ∀ w, (s.cpi cp).stage ≠ .working w) (checked : Checked) :
    (s.accept cp checked).executorSound := by
  cases checked with
  | request r => exact serve_executorSound (executing_setCpi (hs none) (by simp) h.2)
  | answer code =>
    refine ⟨fun hn => ?_, executing_setCpi (hs none) (by simp) h.2⟩
    rw [State.accept, setCpi_carrying] at hn
    obtain ⟨ha, hb⟩ := h.1 hn
    cases cp
    · exact ⟨rfl, hb⟩
    · exact ⟨ha, rfl⟩

theorem complete_executorSound (h : s.executorSound) (cp : ControlPort) (checked : Checked) :
    (s.complete cp checked).executorSound := by
  unfold State.complete
  split
  · exact executorSound_setCpi rfl h
  · next hs => exact accept_executorSound h (fun w hw => by rw [hs] at hw; cases hw) _
  · next hs => exact accept_executorSound h (fun w hw => by rw [hs] at hw; cases hw) _

theorem receive_executorSound (h : s.executorSound) (cp : ControlPort) (bytes : List Byte) :
    (s.receive cp bytes).executorSound := by
  unfold State.receive
  split
  · exact complete_executorSound h cp _
  · exact executorSound_setCpi rfl h

theorem shift_executorSound (h : s.executorSound) (cp : ControlPort) (bytes : List Byte) (n : Nat) :
    (s.shift cp bytes n).executorSound := executorSound_setCpi rfl h

theorem transaction_executorSound (h : s.executorSound) (cp : ControlPort) (o : Byte) (bytes : List Byte) :
    (s.transaction cp o bytes).executorSound := by
  unfold State.transaction
  split
  · exact receive_executorSound (receive_executorSound (shift_executorSound h cp _ _) cp _) cp _
  · unfold State.replyRead
    split <;> exact executorSound_setCpi rfl (shift_executorSound h cp _ _)
  · exact executorSound_setCpi rfl (shift_executorSound h cp _ _)
  · exact shift_executorSound h cp _ _

/-- The part as the reply of the request carried out reaches its port, before the executor serves (R171). -/
def State.replyPlaced (s : State) (cp : ControlPort) (frame : List Byte) : State :=
  ({ s with carrying := none } : State).setCpi cp { s.cpi cp with stage := .reply frame }

theorem placeReply_eq (hc : s.carrying = some (cp, f)) : s.placeReply = (s.replyPlaced cp f).serve := by
  rw [State.placeReply, hc]
  cases cp <;> rfl

theorem placeReply_executorSound (h : s.executorSound) : s.placeReply.executorSound := by
  cases hc : s.carrying with
  | none =>
    rw [State.placeReply, hc]
    exact h
  | some carried =>
    obtain ⟨cp, f⟩ := carried
    rw [placeReply_eq hc]
    refine serve_executorSound fun q => ⟨fun hs => ?_, fun ⟨g, hg⟩ => ?_⟩
    · unfold State.replyPlaced at hs
      rw [setCpi_cpi] at hs
      split at hs
      · cases hs
      · next hq =>
        have hq' : (s.cpi q).stage = .working none := by cases q <;> exact hs
        obtain ⟨g, hg⟩ := (h.2 q).mp hq'
        rw [hc] at hg
        exact absurd (Prod.mk.inj (Option.some.inj hg)).1.symm hq
    · unfold State.replyPlaced at hg
      rw [setCpi_carrying] at hg
      cases hg

/-! ## Every step -/

theorem live_executorSound {s t : State} {f : State → State} (h : s.live f = .next t) (hs : s.executorSound)
    (hf : (f s).executorSound) : t.executorSound := by
  cases hr : s.inReset with
  | true =>
    rw [live_of_inReset s f hr] at h
    injection h with h
    exact h ▸ hs
  | false =>
    rw [live_of_not_inReset s f hr] at h
    injection h with h
    exact h ▸ hf

/-- A rise of the part leaves both ports IDLE and the executor free (R181). -/
theorem rise_executorSound (s : State) (pins : Straps) : (s.rise pins).executorSound := executorSound_atReset _ _ _ _ _

theorem assertReset_executorSound (s : State) : s.assertReset.executorSound :=
  executorSound_congr (s := s.rise s.straps) rfl (fun cp => by cases cp <;> rfl) (rise_executorSound s _)

theorem resetEvent_executorSound (h : s.executorSound) (pins : Straps) :
    (s.riseOfPin pins).executorSound ∧ (s.powerUp pins).executorSound := by
  unfold State.riseOfPin State.powerUp
  constructor
  · split
    · exact h
    · split
      · exact executorSound_congr rfl (fun cp => by cases cp <;> rfl) h
      · exact rise_executorSound s pins
  · split
    · exact rise_executorSound s pins
    · exact executorSound_congr (s := s.assertReset) rfl (fun cp => by cases cp <;> rfl) (assertReset_executorSound s)

theorem exec_executorSound {c : Instr} (hs : s.executorSound) (h : exec c s = .next t) : t.executorSound := by
  have kept (hk : t.control = s.control) : t.executorSound := executorSound_control hk hs
  cases hc : c.request? with
  | some request =>
    obtain ⟨cp, r⟩ := request
    rw [exec_request hc] at h
    exact live_executorSound h hs (complete_executorSound hs cp _)
  | none =>
    cases c <;> simp only [Instr.request?, reduceCtorEq] at hc
    case frameWrite cp bytes =>
      exact live_executorSound (show execFrameWrite cp bytes s = .next t from h) hs (transaction_executorSound hs cp _ _)
    case replyRead cp n =>
      exact live_executorSound (show execReplyRead cp n s = .next t from h) hs (transaction_executorSound hs cp _ _)
    case resync cp n =>
      exact live_executorSound (show execResync cp n s = .next t from h) hs (transaction_executorSound hs cp _ _)
    case statusOnlyTransaction cp o bytes =>
      exact live_executorSound (show execStatusOnlyTransaction cp o bytes s = .next t from h) hs
        (transaction_executorSound hs cp _ _)
    case voidTransaction cp n =>
      exact live_executorSound (show execVoidTransaction cp n s = .next t from h) hs (executorSound_setCpi rfl hs)
    case resetAssert =>
      injection h with h
      exact h ▸ assertReset_executorSound s
    case resetRelease pins =>
      injection h with h
      exact h ▸ (resetEvent_executorSound hs pins).1
    case powerOn pins =>
      injection h with h
      exact h ▸ (resetEvent_executorSound hs pins).2
    case activityConfirmation p => exact kept ((portEvent_control p).1 h)
    case activityLoss p => exact kept ((portEvent_control p).2.1 h)
    case measurementWindowComplete p m => exact kept ((portEvent_control p).2.2.1 m h)
    case restoreTimerExpiry p => exact kept ((portEvent_control p).2.2.2.1 h)
    case waiverDeadlinePasses p => exact kept ((portEvent_control p).2.2.2.2 h)
    case gradeMessage p bytes bad => exact kept ((gradeEvent_control p).1 bytes bad h)
    case collectingGapTimeout p => exact kept ((gradeEvent_control p).2.1 h)
    case gradeTimerExpiry p => exact kept ((gradeEvent_control p).2.2.1 h)
    case gradeLineByteReceived p b bad => exact kept ((gradeEvent_control p).2.2.2 b bad h)
    case holdOffExpiry sh => exact kept ((shelfEvent_control sh).1 h)
    case settleComplete sh => exact kept ((shelfEvent_control sh).2.1 h)
    case holdoverLimitExpiry sh => exact kept ((shelfEvent_control sh).2.2.1 h)
    case learnTimeReached sh => exact kept ((shelfEvent_control sh).2.2.2 h)
    case guardAbsent => exact kept (oscillatorEvent_control.1 h)
    case guardPresent => exact kept (oscillatorEvent_control.2.1 h)
    case backgroundWindowComplete m => exact kept (oscillatorEvent_control.2.2.1 m h)
    case checkComplete m => exact kept (oscillatorEvent_control.2.2.2 m h)
    case outputSeam sh => exact kept ((outputEvent_control sh).1 h)
    case gradeMessageSend sh => exact kept ((outputEvent_control sh).2.1 h)
    case gradeMessageSendEnd sh => exact kept ((outputEvent_control sh).2.2 h)
    case requestReplyPlaced =>
      exact live_executorSound (show execRequestReplyPlaced s = .next t from h) hs (placeReply_executorSound hs)

theorem step_executorSound (hs : s.executorSound) (h : step s = .next t) : t.executorSound := by
  cases hp : s.pending with
  | nil =>
    simp only [step, hp] at h
    exact executorSound_control (live_control h (elapse_control s 1)) hs
  | cons c rest =>
    simp only [step, hp] at h
    have hs' : ({ s with pending := rest } : State).executorSound :=
      executorSound_congr rfl (fun cp => by cases cp <;> rfl) hs
    exact exec_executorSound hs' h

end

end Sys2Proof.Machine
end

section
/-!
PROOFS. REQUEST_REPLY_PLACED (R171).
-/

namespace Sys2Proof.Machine

section
variable {s t u : State} {cp : ControlPort} {f : List Byte} {r : Request}

theorem replyPlaced_carrying (s : State) (cp : ControlPort) (f : List Byte) : (s.replyPlaced cp f).carrying = none := by
  cases cp <;> rfl

theorem replyPlaced_self (s : State) (cp : ControlPort) (f : List Byte) :
    (s.replyPlaced cp f).cpi cp = { s.cpi cp with stage := .reply f } := by
  cases cp <;> rfl

theorem replyPlaced_other (s : State) (cp : ControlPort) (f : List Byte) :
    (s.replyPlaced cp f).cpi (otherPort cp) = s.cpi (otherPort cp) := by
  cases cp <;> rfl

theorem replyPlaced_waiting (s : State) (cp : ControlPort) (f : List Byte) :
    (s.replyPlaced cp f).waiting cp = none ∧ (s.replyPlaced cp f).waiting (otherPort cp) = s.waiting (otherPort cp) := by
  unfold State.waiting
  rw [replyPlaced_self, replyPlaced_other]
  exact ⟨rfl, rfl⟩

/-- With nobody waiting the executor rests (R171). -/
theorem serve_idle (hp : s.waiting cp = none) (ho : s.waiting (otherPort cp) = none) : s.serve = s := by
  have hall : ∀ q, s.waiting q = none := fun q => by cases q <;> cases cp <;> assumption
  unfold State.serve
  split
  · rfl
  · rw [hall, hall]

theorem waiting_eq_some : s.waiting cp = some r ↔ (s.cpi cp).stage = .working (some r) := by
  unfold State.waiting
  cases (s.cpi cp).stage <;> simp

/-- The executor goes on with the request that waits on the other port (R171). -/
theorem placeReply_takes (hc : s.carrying = some (cp, f)) (hw : s.waiting (otherPort cp) = some r) :
    s.placeReply = (s.replyPlaced cp f).take (otherPort cp) r := by
  obtain ⟨hself, hother⟩ := replyPlaced_waiting s cp f
  rw [placeReply_eq hc]
  refine serve_takes _ _ r (replyPlaced_carrying s cp f) (hother.trans hw) ?_
  rw [otherPort_otherPort]
  exact hself

/-! ## A request taken from waiting, and one that completes on an idle port -/

theorem precheck_restart : s.precheck cp .restart = none ↔ s.phase ≠ .init ∧ s.active = cp := by
  unfold State.precheck isChanging
  by_cases hp : s.phase = .init <;> by_cases ha : s.active = cp <;> simp [hp, ha]

/-- A port's stage and frame bytes are all that the taking of a request replaces (R171): two parts that differ in them
alone are left with the port's frame bytes as their only difference. -/
theorem take_receiver {c : Cpi} (hr : r = .restart → s.precheck cp r ≠ none) (hf : c.frameDropped = (s.cpi cp).frameDropped)
    (hs : c.shifted = (s.cpi cp).shifted) (hb : c.shiftedBits = (s.cpi cp).shiftedBits) :
    s.take cp r = ((s.setCpi cp c).take cp r).setCpi cp
      { ((s.setCpi cp c).take cp r).cpi cp with receiver := (s.cpi cp).receiver } := by
  have hctl : s.setCpi cp c = s.withControl (s.setCpi cp c).control := by cases cp <;> rfl
  have hblind : (s.withControl (s.setCpi cp c).control).answer cp r =
      ((s.answer cp r).1.withControl (s.setCpi cp c).control, (s.answer cp r).2) := answer_blind cp r s _
  have hkeep : (s.answer cp r).1.control = s.control := (answer_blind cp r).keeps s
  have hpre : (s.setCpi cp c).precheck cp r = s.precheck cp r := by rw [hctl]; rfl
  have hno : (decide (r = .restart) && (s.precheck cp r).isNone) = false := by
    cases hcheck : s.precheck cp r with
    | some code => simp
    | none => simpa using fun h => hr h hcheck
  unfold State.take
  rw [hpre, hno, if_neg (by decide), if_neg (by decide)]
  dsimp only
  rw [← hctl] at hblind
  rw [hblind]
  dsimp only
  generalize s.answer cp r = done at hkeep ⊢
  obtain ⟨d, reply⟩ := done
  obtain ⟨h1, h2, h3, h4, h5⟩ : d.cpa = s.cpa ∧ d.cpb = s.cpb ∧ d.carrying = s.carrying ∧
      d.prevSupplier = s.prevSupplier ∧ d.pending = s.pending := by
    simpa only [State.control, Control.mk.injEq] using hkeep
  cases cp <;> simp_all [State.setStage, State.setCpi, State.cpi, State.withControl, State.control]

/-- What a RESTART keeps is all it looks at (R179). -/
theorem restartPart_congr (hstraps : t.straps = s.straps) (hnow : t.now = s.now) (hfree : t.freeCount = s.freeCount)
    (hpending : t.pending = s.pending) (hactive : t.active = s.active)
    (hshifted : ∀ q, (t.cpi q).shifted = (s.cpi q).shifted) (hbits : ∀ q, (t.cpi q).shiftedBits = (s.cpi q).shiftedBits)
    (cp : ControlPort) (reply : List Byte) : t.restartPart cp reply = s.restartPart cp reply := by
  unfold State.restartPart State.rise
  rw [hstraps, hnow, hfree, hpending, hactive, hshifted, hshifted, hbits, hbits]

/-- A request that waits is taken as its own row says, but for the frame bytes its port has kept. -/
theorem take_waiting {c : Cpi} (hf : c.frameDropped = (s.cpi cp).frameDropped)
    (hs : c.shifted = (s.cpi cp).shifted) (hb : c.shiftedBits = (s.cpi cp).shiftedBits) :
    s.take cp r = if r = .restart ∧ s.phase ≠ .init ∧ s.active = cp then (s.setCpi cp c).take cp r
      else ((s.setCpi cp c).take cp r).setCpi cp
        { ((s.setCpi cp c).take cp r).cpi cp with receiver := (s.cpi cp).receiver } := by
  split
  · next h =>
    obtain ⟨rfl, hphase, hact⟩ := h
    have hctl : s.setCpi cp c = s.withControl (s.setCpi cp c).control := by cases cp <;> rfl
    have hpre : (s.setCpi cp c).precheck cp .restart = s.precheck cp .restart := by rw [hctl]; rfl
    have hnone : s.precheck cp .restart = none := precheck_restart.mpr ⟨hphase, hact⟩
    unfold State.take
    rw [hpre, hnone]
    simp only [decide_true, Option.isNone_none, Bool.and_self, if_true]
    have hsame : ∀ q, ((s.setCpi cp c).cpi q).shifted = (s.cpi q).shifted ∧
        ((s.setCpi cp c).cpi q).shiftedBits = (s.cpi q).shiftedBits := fun q => by
      rw [setCpi_cpi]
      split
      · next hq => exact hq ▸ ⟨hs, hb⟩
      · exact ⟨rfl, rfl⟩
    refine (restartPart_congr ?_ ?_ ?_ ?_ ?_ (fun q => (hsame q).1) (fun q => (hsame q).2) cp _).symm <;>
      (cases cp <;> rfl)
  · next h =>
    refine take_receiver (fun hr hnone => h ?_) hf hs hb
    subst hr
    exact ⟨rfl, precheck_restart.mp hnone⟩

/-- A request completing on an idle port while nobody waits and the executor is free is taken. -/
theorem exec_idle_takes {i : Instr} {q : ControlPort} (hi : i.request? = some (q, r)) (hr : u.inReset = false)
    (hc : u.carrying = none) (hq : (u.cpi q).stage = .idle) (ho : u.waiting (otherPort q) = none) :
    exec i u = .next ((u.arrived q r).take q r) := by
  have hready : u.ready q = true := by
    unfold State.ready
    rw [hr, hc, ho, hq]
    rfl
  rw [exec_request hi, live_of_not_inReset _ _ hr, complete_takes _ _ _ hready]

/-- The part as the executor sees it when it takes a waiting request, made from the part with the port idle. -/
theorem replyPlaced_idle (s : State) (cp : ControlPort) (f : List Byte) (r : Request) :
    (((s.replyPlaced cp f).setCpi (otherPort cp) { s.cpi (otherPort cp) with stage := .idle }).arrived (otherPort cp) r) =
      (s.replyPlaced cp f).setCpi (otherPort cp) { s.cpi (otherPort cp) with receiver := [], stage := .working (some r) } := by
  cases cp <;> rfl

end

/-- Settles O50. -/
theorem placedRepliesFreeTheExecutor : Obligations.PlacedRepliesFreeTheExecutor := by
  intro s hr
  have hexec : exec .requestReplyPlaced s = .next s.placeReply := by
    show execRequestReplyPlaced s = _
    rw [execRequestReplyPlaced, live_of_not_inReset _ _ hr]
  rw [hexec]
  refine ⟨fun hc => by rw [State.placeReply, hc], fun cp f hc hw => ?_, fun cp f r hc hw hne => ?_,
    fun cp f i r u hc hw hi hu => ?_, fun cp i r hc hi hidle => ?_, fun t hs ht => step_executorSound hs ht⟩
  · obtain ⟨hself, hother⟩ := replyPlaced_waiting s cp f
    rw [placeReply_eq hc, serve_idle hself (hother.trans hw)]
    rfl
  · obtain ⟨hrestart, -⟩ | ⟨-, hcarry, hsupplier, hself, hother⟩ := take_ports (s.replyPlaced cp f) (otherPort cp) r
    · exact absurd hrestart hne
    · rw [otherPort_otherPort, replyPlaced_self] at hother
      rw [placeReply_takes hc hw]
      exact ⟨_, _, rfl, by rw [hother], hcarry, hsupplier, by rw [hself]⟩
  · have hidle : u = (s.replyPlaced cp f).setCpi (otherPort cp) { s.cpi (otherPort cp) with stage := .idle } := hu
    have hstage : (u.cpi (otherPort cp)).stage = .idle := by rw [hidle, setCpi_cpi_self]
    have hcarry : u.carrying = none := by rw [hidle, setCpi_carrying, replyPlaced_carrying]
    have hreset : u.inReset = false := by rw [hidle, ← hr]; cases cp <;> rfl
    have hwait : u.waiting (otherPort (otherPort cp)) = none := by rw [hidle]; cases cp <;> rfl
    have hphase : (s.replyPlaced cp f).phase = s.phase ∧ (s.replyPlaced cp f).active = s.active := by cases cp <;> exact ⟨rfl, rfl⟩
    refine ⟨_, exec_idle_takes hi hreset hcarry hstage hwait, ?_⟩
    rw [placeReply_takes hc hw, hidle, replyPlaced_idle]
    have htake := take_waiting (s := s.replyPlaced cp f) (cp := otherPort cp) (r := r)
      (c := { s.cpi (otherPort cp) with receiver := [], stage := .working (some r) })
      (by rw [replyPlaced_other]) (by rw [replyPlaced_other]) (by rw [replyPlaced_other])
    rw [hphase.1, hphase.2, replyPlaced_other] at htake
    rw [htake]
  · rw [exec_request hi, live_of_not_inReset _ _ hr]
    have hserve : (s.arrived cp r).serve = s.arrived cp r := by
      unfold State.serve
      rw [if_pos]
      rw [State.arrived, setCpi_carrying]
      exact Option.isSome_iff_ne_none.mpr hc
    unfold State.complete
    split
    · next w hw => exact absurd hw (hidle w)
    · exact congrArg _ hserve
    · exact congrArg _ hserve

end Sys2Proof.Machine
end

section
/-!
PROOFS. Request frames are read back as what they carry (R166, R189, R190, R192).
-/

namespace Sys2Proof.Machine

/-! ## Bytes and words (R190) -/

theorem byte_toNat {n : Nat} (h : n < 256) : (byte n).toNat = n := by
  rw [byte, BitVec.toNat_ofNat, Nat.mod_eq_of_lt h]

theorem byte_toNat_of_fits {n : Nat} (h : fitsByte n = true) : (byte n).toNat = n :=
  byte_toNat (of_decide_eq_true h)

/-- A word is what its two bytes carry. -/
theorem word16_be16 {n : Nat} (h : n < 65536) : word16 (byte (n / 256)) (byte n) = n := by
  unfold word16 byte
  rw [BitVec.toNat_ofNat, BitVec.toNat_ofNat]
  omega

theorem word16_of_fits {n : Nat} (h : fitsWord n = true) : word16 (byte (n / 256)) (byte n) = n :=
  word16_be16 (of_decide_eq_true h)

/-! ## The CRC-16 of a frame (R192) -/

/-- A bit shifts a value whose high bit is clear. -/
theorem crc16Bit_toNat {c : BitVec 16} (h : c.toNat < 32768) : (crc16Bit c).toNat = 2 * c.toNat := by
  have hmsb : c.msb = false := by
    rw [BitVec.msb_eq_false_iff_two_mul_lt]
    omega
  rw [crc16Bit, hmsb, if_neg (by decide), BitVec.toNat_shiftLeft, Nat.shiftLeft_eq]
  omega

theorem crc16_bits_toNat (n : Nat) {c : BitVec 16} (h : c.toNat * 2 ^ n < 65536) :
    ((List.range n).foldl (fun c _ => crc16Bit c) c).toNat = c.toNat * 2 ^ n := by
  induction n with
  | zero => simp
  | succ n ih =>
    rw [Nat.pow_succ, ← Nat.mul_assoc] at h ⊢
    have hn := ih (by omega)
    rw [List.range_succ, List.foldl_append, List.foldl_cons, List.foldl_nil, crc16Bit_toNat (by omega), hn]
    omega

/-- The high byte of a CRC, folded into it, leaves its low byte. -/
theorem xor_high_byte (c : BitVec 16) : c ^^^ ((byte (c.toNat / 256)).setWidth 16 <<< 8) = c &&& 0x00FF#16 := by
  have hbyte : byte (c.toNat / 256) = (c >>> 8).setWidth 8 := by
    apply BitVec.eq_of_toNat_eq
    have := c.isLt
    rw [byte_toNat (by omega), BitVec.toNat_setWidth, BitVec.toNat_ushiftRight, Nat.shiftRight_eq_div_pow]
    omega
  rw [hbyte]
  ext i hi
  interval_cases i <;> simp

theorem crc16Byte_high (c : BitVec 16) : (crc16Byte c (byte (c.toNat / 256))).toNat = c.toNat % 256 * 256 := by
  have hlow : (c &&& 0x00FF#16).toNat = c.toNat % 256 := by
    rw [BitVec.toNat_and]
    exact Nat.and_two_pow_sub_one_eq_mod c.toNat 8
  rw [crc16Byte, xor_high_byte, crc16_bits_toNat 8 (by omega), hlow, show 2 ^ 8 = 256 from rfl]

theorem crc16Byte_low (c : BitVec 16) {d : BitVec 16} (h : d.toNat = c.toNat % 256 * 256) : crc16Byte d (byte c.toNat) = 0 := by
  have hsame : (byte c.toNat).setWidth 16 <<< 8 = d := by
    apply BitVec.eq_of_toNat_eq
    rw [BitVec.toNat_shiftLeft, BitVec.toNat_setWidth, byte, BitVec.toNat_ofNat, h, Nat.shiftLeft_eq]
    omega
  apply BitVec.eq_of_toNat_eq
  rw [crc16Byte, hsame, BitVec.xor_self, crc16_bits_toNat 8 (by simp)]
  rfl

/-- Over the covered bytes and the CRC sent after them the CRC is 0 (R192). -/
theorem crc16_append_crc (bytes : List Byte) : crc16 (bytes ++ be16 (crc16 bytes).toNat) = 0 := by
  unfold be16
  rw [crc16, List.foldl_append, List.foldl_cons, List.foldl_cons, List.foldl_nil]
  exact crc16Byte_low _ (crc16Byte_high _)

/-! ## Frames -/

theorem frameOf_eq (code : Byte) (body : List Byte) :
    frameOf code body = byte (4 + body.length) :: code ::
      (body ++ be16 (crc16 (byte (4 + body.length) :: code :: body)).toNat) := rfl

theorem frameOf_length (code : Byte) (body : List Byte) : (frameOf code body).length = 4 + body.length := by
  rw [frameOf_eq]
  simp [be16]
  omega

/-- A frame passes the CRC and is read as its body is (R166). -/
theorem checkFrame_frameOf {code : Byte} {body : List Byte} {read : List Byte → Option Request} {r : Request}
    (h : bodyReader code.toNat = some read) (hread : read body = some r) : checkFrame (frameOf code body) = .request r := by
  have hcrc := crc16_append_crc (byte (4 + body.length) :: code :: body)
  rw [frameOf_eq]
  generalize (crc16 (byte (4 + body.length) :: code :: body)).toNat = n at hcrc ⊢
  have hlen : (body ++ be16 n).length = body.length + 2 := by simp [be16]
  unfold checkFrame
  dsimp only
  rw [show byte (4 + body.length) :: code :: (body ++ be16 n) = byte (4 + body.length) :: code :: body ++ be16 n from rfl,
    hcrc, hlen, h, Nat.add_sub_cancel, List.take_left, if_neg (by simp)]
  dsimp only
  rw [hread]

/-! ## Packed cells (R189) -/

/-- Eight cells are what their byte says, whatever they are. -/
theorem cellsOfByte_bits : ∀ b0 b1 b2 b3 b4 b5 b6 b7 : Bool,
    cellsOfByte (byte ([if b0 then 128 else 0, if b1 then 64 else 0, if b2 then 32 else 0, if b3 then 16 else 0,
      if b4 then 8 else 0, if b5 then 4 else 0, if b6 then 2 else 0, if b7 then 1 else 0].sum)) =
    [b0, b1, b2, b3, b4, b5, b6, b7].map fun b => if b then .bar else .allow := by
  decide

/-- Eight cells as a byte, read back: the cells themselves, then ALLOW where there were fewer. -/
theorem cellsOfByte_byteOfCells (cells : List CellValue) :
    cellsOfByte (byteOfCells cells) = (List.range 8).map fun i => if cells[i]? = some .bar then .bar else .allow := by
  have h := cellsOfByte_bits (cells[0]? = some .bar) (cells[1]? = some .bar) (cells[2]? = some .bar)
    (cells[3]? = some .bar) (cells[4]? = some .bar) (cells[5]? = some .bar) (cells[6]? = some .bar) (cells[7]? = some .bar)
  simp only [List.map_cons, List.map_nil, decide_eq_true_eq] at h
  exact h

theorem take_cellsOfByte {cells : List CellValue} (h : cells.length ≤ 8) :
    (cellsOfByte (byteOfCells cells)).take cells.length = cells := by
  rw [cellsOfByte_byteOfCells]
  apply List.ext_getElem?
  intro i
  by_cases hi : i < cells.length
  · rw [List.getElem?_take_of_lt hi, List.getElem?_map, List.getElem?_range (by omega), Option.map_some,
      List.getElem?_eq_getElem hi]
    cases cells[i] <;> rfl
  · rw [List.getElem?_eq_none (by simp; omega), List.getElem?_eq_none (by omega)]

theorem packCells_length (n : Nat) (cells : List CellValue) : (packCells n cells).length = n := by
  induction n generalizing cells with
  | zero => rfl
  | succ n ih => rw [packCells, List.length_cons, ih]

/-- Packed cells are read back (R189). -/
theorem cellsOfBytes_packCells (n : Nat) (cells : List CellValue) (h : cells.length ≤ 8 * n) :
    cellsOfBytes cells.length (packCells n cells) = cells := by
  unfold cellsOfBytes
  induction n generalizing cells with
  | zero =>
    obtain rfl : cells = [] := List.eq_nil_of_length_eq_zero (by omega)
    rfl
  | succ n ih =>
    have hlen : (cellsOfByte (byteOfCells (cells.take 8))).length = 8 := rfl
    rw [packCells, List.flatMap_cons, List.take_append, hlen]
    have hrest := ih (cells.drop 8) (by rw [List.length_drop]; omega)
    rw [List.length_drop] at hrest
    rw [hrest]
    by_cases hshort : cells.length ≤ 8
    · rw [List.take_of_length_le hshort, take_cellsOfByte hshort, List.drop_eq_nil_of_le hshort, List.append_nil]
    · have hfull : (cells.take 8).length = 8 := by rw [List.length_take]; omega
      have htake := take_cellsOfByte (cells := cells.take 8) hfull.le
      rw [hfull] at htake
      have hall : (cellsOfByte (byteOfCells (cells.take 8))).take cells.length = (cellsOfByte (byteOfCells (cells.take 8))).take 8 := by
        rw [List.take_of_length_le (by rw [hlen]; omega), List.take_of_length_le hlen.le]
      rw [hall, htake, List.take_append_drop]

/-! ## Bodies (R189) -/

/-- A body of cells is read back as its request. -/
theorem windowBody_windowBytes (f : List CellValue → Request) {cells : List CellValue}
    (h : 6 + (cells.length + 7) / 8 ≤ 255) : windowBody f (windowBytes cells) = some (f cells) := by
  unfold windowBytes be16
  rw [List.cons_append, List.cons_append, List.nil_append, windowBody, word16_be16 (by omega), packCells_length, if_pos rfl,
    cellsOfBytes_packCells _ _ (by omega)]

theorem windowBytes_length (cells : List CellValue) : (windowBytes cells).length = 2 + (cells.length + 7) / 8 := by
  unfold windowBytes
  rw [List.length_append, packCells_length]
  rfl

theorem map_byte_toNat {ports : List Nat} (h : ports.all fitsByte = true) : (ports.map byte).map (·.toNat) = ports := by
  induction ports with
  | nil => rfl
  | cons p rest ih =>
    rw [List.all_cons, Bool.and_eq_true] at h
    rw [List.map_cons, List.map_cons, byte_toNat_of_fits h.1, ih h.2]

theorem body1_byte (f : Nat → Request) {a : Nat} (h : fitsByte a = true) : body1 f [byte a] = some (f a) := by
  rw [body1, byte_toNat_of_fits h]

theorem body2_bytes (f : Nat → Nat → Request) {a b : Nat} (h : (fitsByte a && fitsByte b) = true) :
    body2 f [byte a, byte b] = some (f a b) := by
  obtain ⟨ha, hb⟩ := Bool.and_eq_true_iff.mp h
  rw [body2, byte_toNat_of_fits ha, byte_toNat_of_fits hb]

theorem portSetupBody_bytes {p : Nat} {b : PortSetupBody} (h : (Request.portSetup p b).wf = true) :
    portSetupBody (requestBytes (.portSetup p b)).2 = some (.portSetup p b) := by
  simp only [Request.wf, PortSetupBody.wf, Bool.and_eq_true] at h
  obtain ⟨hp, ⟨⟨⟨⟨he, hr⟩, hl⟩, hb⟩, hg⟩, hc⟩ := h
  simp only [requestBytes, portSetupBody, byte_toNat_of_fits, hp, he, hr, hl, hb, hg, hc]

theorem domainSetupBody_bytes {d : Nat} {b : DomainSetupBody} (h : (Request.domainSetup d b).wf = true) :
    domainSetupBody (requestBytes (.domainSetup d b)).2 = some (.domainSetup d b) := by
  simp only [Request.wf, DomainSetupBody.wf, Bool.and_eq_true] at h
  obtain ⟨hd, ⟨⟨⟨⟨⟨⟨⟨⟨⟨⟨⟨hmg, hug⟩, hag⟩, hrv⟩, hho⟩, hrt⟩, hmh⟩, htt⟩, hst⟩, hlt⟩, hli⟩, hhg⟩, hfg⟩ := h
  simp only [requestBytes, be16, List.cons_append, List.nil_append, domainSetupBody, byte_toNat_of_fits, word16_of_fits, hd,
    hmg, hug, hag, hrv, hho, hrt, hmh, htt, hst, hlt, hli, hhg, hfg]

theorem priorityListBody_bytes {d : Nat} {ps : List Nat} (h : (Request.priorityList d ps).wf = true) :
    priorityListBody (requestBytes (.priorityList d ps)).2 = some (.priorityList d ps) := by
  simp only [Request.wf, Bool.and_eq_true, decide_eq_true_eq] at h
  obtain ⟨⟨hd, hps⟩, hlen⟩ := h
  rw [requestBytes, priorityListBody, byte_toNat (n := ps.length) (by omega), List.length_map, if_pos rfl,
    byte_toNat_of_fits hd, map_byte_toNat hps]

theorem openWindowBody_bytes {a b c d o : Nat} (h : (Request.openWindow a b c d o).wf = true) :
    openWindowBody (requestBytes (.openWindow a b c d o)).2 = some (.openWindow a b c d o) := by
  simp only [Request.wf, Bool.and_eq_true] at h
  obtain ⟨⟨⟨⟨ha, hb⟩, hc⟩, hd⟩, ho⟩ := h
  simp only [requestBytes, openWindowBody, byte_toNat_of_fits, ha, hb, hc, hd, ho]

theorem outputSetupBody_bytes {sh : Nat} {b : OutputSetupBody} (h : (Request.outputSetup sh b).wf = true) :
    outputSetupBody (requestBytes (.outputSetup sh b)).2 = some (.outputSetup sh b) := by
  simp only [Request.wf, OutputSetupBody.wf, Bool.and_eq_true] at h
  obtain ⟨hs, ⟨⟨⟨he, hm⟩, hd⟩, hi⟩, hq⟩ := h
  simp only [requestBytes, outputSetupBody, byte_toNat_of_fits, hs, he, hm, hd, hi, hq]

/-- Every request's body is read back under its kind. -/
theorem bodyReader_requestBytes {r : Request} (h : r.wf = true) :
    ∃ read, bodyReader (requestBytes r).1.toNat = some read ∧ read (requestBytes r).2 = some r := by
  cases r with
  | identity | release | restart | takeControl | yieldControl | pendingPartition | applyPartition | discardPartition
  | queueReport | oscillatorCheck | oscillatorReport => exact ⟨_, rfl, rfl⟩
  | yieldPermission _ | portStatus _ | portGrade _ | domainReport _ | eventReport _ | rankingReport _ | shelfReport _
  | changeReport _ | clearSteering _ | exclusionRow _ | outputReport _ => exact ⟨_, rfl, body1_byte _ h⟩
  | assignPort _ _ | assignShelf _ _ | lineSetup _ _ | pin _ _ | steer _ _ | bar _ _ | allow _ _ =>
    exact ⟨_, rfl, body2_bytes _ h⟩
  | writeWindow _ | continueWindow _ => exact ⟨_, rfl, windowBody_windowBytes _ (of_decide_eq_true h)⟩
  | nodeIdentifier i => exact ⟨_, rfl, congrArg (fun n => some (Request.nodeIdentifier n)) (word16_of_fits h)⟩
  | eventMask e m =>
    obtain ⟨he, hm⟩ := Bool.and_eq_true_iff.mp h
    refine ⟨_, rfl, ?_⟩
    show some (Request.eventMask (byte e).toNat (word16 (byte (m / 256)) (byte m))) = _
    rw [byte_toNat_of_fits he, word16_of_fits hm]
  | portSetup _ _ => exact ⟨_, rfl, portSetupBody_bytes h⟩
  | domainSetup _ _ => exact ⟨_, rfl, domainSetupBody_bytes h⟩
  | priorityList _ _ => exact ⟨_, rfl, priorityListBody_bytes h⟩
  | openWindow _ _ _ _ _ => exact ⟨_, rfl, openWindowBody_bytes h⟩
  | outputSetup _ _ => exact ⟨_, rfl, outputSetupBody_bytes h⟩

/-- A request fits its frame (R165). -/
theorem requestBytes_length {r : Request} (h : r.wf = true) : (requestBytes r).2.length ≤ 251 := by
  cases r with
  | priorityList d ps =>
    simp only [Request.wf, Bool.and_eq_true, decide_eq_true_eq] at h
    simp only [requestBytes, List.length_cons, List.length_map]
    omega
  | writeWindow cells | continueWindow cells =>
    have hlen := of_decide_eq_true h
    simp only [requestBytes, windowBytes_length]
    omega
  | _ => simp [requestBytes, be16]

theorem checkFrame_requestFrame {r : Request} (h : r.wf = true) : checkFrame (requestFrame r) = .request r := by
  obtain ⟨read, hreader, hread⟩ := bodyReader_requestBytes h
  exact checkFrame_frameOf hreader hread

theorem requestFrame_length {r : Request} (h : r.wf = true) : (requestFrame r).length ≤ 255 := by
  have := requestBytes_length h
  rw [requestFrame, frameOf_length]
  omega

theorem requestFrame_head (r : Request) : (requestFrame r).head? = some (byte (requestFrame r).length) := by
  rw [requestFrame, frameOf_length]
  rfl

/-- Settles O46. -/
theorem requestFramesAreReadBack : Obligations.RequestFramesAreReadBack :=
  fun r h => ⟨checkFrame_requestFrame h, requestFrame_length h, requestFrame_head r⟩

end Sys2Proof.Machine
end

section
/-!
PROOFS. The frame receiver, and FRAME WRITE of a request (R165, R166, R179).
-/

namespace Sys2Proof.Machine

/-! ## The receiver of a port (R165) -/

/-- A frame comes to its end: its first byte counts it, and what the receiver holds is its beginning. -/
theorem receiveFrame_completes {len : Byte} {frame rest : List Byte} (hhead : frame.head? = some len) (hfour : 4 ≤ len.toNat)
    (hlen : len.toNat = frame.length) {got bytes : List Byte} (h : got ++ bytes = frame ++ rest)
    (hgot : got.length < frame.length) : receiveFrame got bytes = ([], some frame) := by
  induction bytes generalizing got with
  | nil =>
    have := congrArg List.length h
    simp only [List.append_nil, List.length_append] at this
    omega
  | cons b bytes ih =>
    have hnext : (got ++ [b]) ++ bytes = frame ++ rest := by simpa using h
    cases got with
    | nil =>
      obtain rfl : b = len := by
        cases frame with
        | nil => cases hhead
        | cons a tail =>
          rw [List.head?_cons, Option.some.injEq] at hhead
          rw [← hhead]
          exact (List.cons.inj h).1
      rw [receiveFrame, if_neg (by omega)]
      exact ih hnext (by simp; omega)
    | cons a got =>
      obtain rfl : a = len := by
        cases frame with
        | nil => cases hhead
        | cons c tail =>
          rw [List.head?_cons, Option.some.injEq] at hhead
          rw [← hhead]
          exact (List.cons.inj h).1
      rw [List.length_cons] at hgot
      rw [receiveFrame]
      split
      · exact ih hnext (by simp; omega)
      · rw [← (List.append_inj hnext (by simp; omega)).1]
        rfl

/-- Short of its end the frame stays in the receiver. -/
theorem receiveFrame_unfinished {len : Byte} (hfour : 4 ≤ len.toNat) {got bytes : List Byte}
    (hhead : (got ++ bytes).head? = some len) (hshort : (got ++ bytes).length < len.toNat) :
    receiveFrame got bytes = (got ++ bytes, none) := by
  induction bytes generalizing got with
  | nil => cases got <;> simp [receiveFrame]
  | cons b bytes ih =>
    have happ : got ++ b :: bytes = (got ++ [b]) ++ bytes := by simp
    rw [happ] at hhead hshort
    have hnext := ih hhead hshort
    rw [happ, ← hnext]
    cases got with
    | nil =>
      obtain rfl : b = len := Option.some.inj hhead
      rw [receiveFrame, if_neg (by omega)]
      rfl
    | cons a got =>
      obtain rfl : a = len := Option.some.inj hhead
      rw [receiveFrame, if_pos (by simp at hshort; omega)]
      rfl

/-- A length byte under 4 is a frame of its own. -/
theorem receiveFrame_short {len : Byte} (h : len.toNat < 4) (rest : List Byte) :
    receiveFrame [] (len :: rest) = ([], some [len]) := by
  rw [receiveFrame, if_pos h]

section
variable {s t : State} {cp : ControlPort} {r : Request}

theorem receive_of_frame {bytes frame : List Byte} (h : receiveFrame (s.cpi cp).receiver bytes = ([], some frame)) :
    s.receive cp bytes = s.complete cp (checkFrame frame) := by
  rw [State.receive, h]

/-! ## What a completed frame does not look at -/

/-- A completed frame empties the receiver, whatever stood in it. -/
theorem complete_receiver (s : State) (cp : ControlPort) (got : List Byte) (checked : Checked) :
    (s.setCpi cp { s.cpi cp with receiver := got }).complete cp checked = s.complete cp checked := by
  have haccept : (s.setCpi cp { s.cpi cp with receiver := got }).accept cp checked = s.accept cp checked := by
    cases checked <;> simp only [State.accept, State.arrived, setCpi_cpi_self, setCpi_setCpi]
  unfold State.complete
  rw [setCpi_cpi_self, haccept, setCpi_setCpi]

/-! ## Bytes after a RESTART (R179) -/

/-- A port stands in no REPLY after a RESTART that may not be carried out has completed on it. -/
theorem restart_not_reply (h : s.phase = .init ∨ s.active = otherPort cp) {f : List Byte} :
    ((s.complete cp (.request .restart)).cpi cp).stage ≠ .reply f := by
  have hserved : ((s.arrived cp .restart).serve.cpi cp).stage ≠ .reply f := by
    have hworking : ((s.arrived cp .restart).cpi cp).stage = .working (some .restart) := by
      rw [State.arrived, setCpi_cpi_self]
    have hphase : (s.arrived cp .restart).phase = s.phase ∧ (s.arrived cp .restart).active = s.active := by
      cases cp <;> exact ⟨rfl, rfl⟩
    rcases serve_cases (s.arrived cp .restart) with he | ⟨q, r, hw, he⟩
    · rw [he, hworking]
      exact nofun
    · rw [he]
      rcases take_ports (s.arrived cp .restart) q r with ⟨rfl, hcheck, htake⟩ | ⟨-, -, -, hself, hother⟩
      · rw [htake]
        obtain ⟨hinit, hact⟩ := precheck_restart.mp hcheck
        rw [hphase.1] at hinit
        rw [hphase.2] at hact
        have hq : q = otherPort cp := hact ▸ h.resolve_left hinit
        subst hq
        cases cp <;> exact nofun
      · by_cases hq : q = cp
        · subst hq
          rw [hself]
          exact nofun
        · obtain rfl : q = otherPort cp := by
            revert hq
            cases q <;> cases cp <;> simp [otherPort]
          rw [otherPort_otherPort] at hother
          rw [hother, hworking]
          exact nofun
  unfold State.complete
  split
  · next w hw =>
    rw [setCpi_cpi_self]
    show (s.cpi cp).stage ≠ _
    rw [hw]
    exact nofun
  · exact hserved
  · exact hserved

/-- Nothing is left over after a frame but a RESTART that may be carried out. -/
theorem afterRestart_eq_nil {bytes frame rest : List Byte} {checked : Checked}
    (hframe : receiveFrame (s.cpi cp).receiver bytes = ([], some frame)) (hcheck : checkFrame frame = checked)
    (happ : (s.cpi cp).receiver ++ bytes = frame ++ rest)
    (h : rest = [] ∨ checked ≠ .request .restart ∨ s.phase = .init ∨ s.active = otherPort cp) :
    s.afterRestart cp bytes = [] := by
  unfold State.afterRestart
  rw [hframe, receive_of_frame hframe, hcheck]
  dsimp only
  split
  · next hrestart hstage =>
    obtain rfl : checked = .request .restart := hcheck.symm.trans hrestart
    rcases h with hrest | hne | hno
    · have hdrop := congrArg (List.drop frame.length) happ
      rw [hrest, List.append_nil, List.drop_length, List.drop_append] at hdrop
      exact (List.append_eq_nil_iff.mp hdrop).2
    · exact absurd rfl hne
    · exact absurd hstage (restart_not_reply hno)
  · rfl

/-! ## FRAME WRITE (R165) -/

/-- The part while a transaction shifts out its status byte and idle bytes (R163, R164). -/
def State.clocked (s : State) (cp : ControlPort) (n : Nat) : State :=
  s.setCpi cp { s.cpi cp with shifted := s.statusByte cp :: List.replicate n 0xFF, shiftedBits := [] }

theorem shift_clocked (s : State) (cp : ControlPort) (n : Nat) : s.shift cp [] n = s.clocked cp n := shift_nil s cp n

theorem frameWrite_eq (s : State) (cp : ControlPort) (bytes : List Byte) : s.frameWrite cp bytes =
    ((s.clocked cp bytes.length).receive cp bytes).receive cp ((s.clocked cp bytes.length).afterRestart cp bytes) := by
  rw [State.frameWrite, shift_clocked]

theorem clocked_fields (s : State) (cp : ControlPort) (n : Nat) :
    ((s.clocked cp n).cpi cp).receiver = (s.cpi cp).receiver ∧ ((s.clocked cp n).cpi cp).stage = (s.cpi cp).stage ∧
      (s.clocked cp n).phase = s.phase ∧ (s.clocked cp n).active = s.active ∧ (s.clocked cp n).inReset = s.inReset := by
  cases cp <;> exact ⟨rfl, rfl, rfl, rfl, rfl⟩

theorem exec_frameWrite (hr : s.inReset = false) (cp : ControlPort) (bytes : List Byte) :
    exec (.frameWrite cp bytes) s = .next (s.frameWrite cp bytes) := by
  show execFrameWrite cp bytes s = _
  rw [execFrameWrite, live_of_not_inReset s _ hr]
  rfl

/-- A frame completed by a transaction, with nothing left over, is checked and handled. -/
theorem frameWrite_frame {bytes frame rest : List Byte} {checked : Checked}
    (hframe : receiveFrame (s.cpi cp).receiver bytes = ([], some frame)) (hcheck : checkFrame frame = checked)
    (happ : (s.cpi cp).receiver ++ bytes = frame ++ rest)
    (h : rest = [] ∨ checked ≠ .request .restart ∨ s.phase = .init ∨ s.active = otherPort cp) :
    s.frameWrite cp bytes = (s.clocked cp bytes.length).complete cp checked := by
  obtain ⟨hreceiver, -, hphase, hactive, -⟩ := clocked_fields s cp bytes.length
  rw [← hreceiver] at hframe happ
  rw [← hphase, ← hactive] at h
  rw [frameWrite_eq, afterRestart_eq_nil hframe hcheck happ h, receive_nil, receive_of_frame hframe, hcheck]

/-- A request's row, with what the transaction that brought its frame leaves of its port. -/
theorem exec_clocked {i : Instr} (hi : i.request? = some (cp, r)) (hr : s.inReset = false) (n : Nat) (got : List Byte) :
    exec i (s.setCpi cp { s.cpi cp with receiver := got, shifted := s.statusByte cp :: List.replicate n 0xFF, shiftedBits := [] }) =
      .next ((s.clocked cp n).complete cp (.request r)) := by
  have hshape : s.setCpi cp { s.cpi cp with receiver := got, shifted := s.statusByte cp :: List.replicate n 0xFF,
                                            shiftedBits := [] } =
      (s.clocked cp n).setCpi cp { (s.clocked cp n).cpi cp with receiver := got } := by
    cases cp <;> rfl
  have hreset : ((s.clocked cp n).setCpi cp { (s.clocked cp n).cpi cp with receiver := got }).inReset = false := by
    rw [← hr]
    cases cp <;> rfl
  rw [hshape, exec_request hi, live_of_not_inReset _ _ hreset, complete_receiver]

end

/-- Settles O47. -/
theorem frameWriteDeliversItsRequest : Obligations.FrameWriteDeliversItsRequest := by
  intro i cp r got bytes rest s hi hwf hr hgot happ hlt hrest
  have hhead := requestFrame_head r
  have hlen : (byte (requestFrame r).length).toNat = (requestFrame r).length :=
    byte_toNat (by have := requestFrame_length hwf; omega)
  have hfour : 4 ≤ (byte (requestFrame r).length).toNat := by
    rw [hlen, requestFrame, frameOf_length]
    omega
  subst hgot
  rw [exec_frameWrite hr, exec_clocked hi hr]
  refine congrArg _ (frameWrite_frame (receiveFrame_completes hhead hfour hlen happ hlt) (checkFrame_requestFrame hwf) happ ?_)
  rcases hrest with h | h | h
  · exact .inl h
  · exact .inr (.inl fun he => h (Checked.request.inj he))
  · exact .inr (.inr h)

end Sys2Proof.Machine
end

section
/-!
PROOFS. What a transaction shifts out is recorded beside what it does (R163, R164), and RESTART (R179, R187).
-/

namespace Sys2Proof.Machine

section
variable {s t : State} {cp : ControlPort} {r : Request}

/-! ## The record of the bytes shifted out -/

/-- The record of the bytes shifted out on a port, replaced. -/
def State.reshift (s : State) (cp : ControlPort) (a : List Byte) (b : List Bool) : State :=
  s.setCpi cp { s.cpi cp with shifted := a, shiftedBits := b }

theorem reshift_reshift (s : State) (cp : ControlPort) (a a' : List Byte) (b b' : List Bool) :
    (s.reshift cp a b).reshift cp a' b' = s.reshift cp a' b' := by
  cases cp <;> rfl

theorem reshift_fields (s : State) (cp : ControlPort) (a : List Byte) (b : List Bool) :
    ((s.reshift cp a b).cpi cp).receiver = (s.cpi cp).receiver ∧ (s.reshift cp a b).carrying = s.carrying ∧
      (∀ q, (s.reshift cp a b).waiting q = s.waiting q) ∧ (s.reshift cp a b).preferred = s.preferred ∧
      ((s.reshift cp a b).cpi cp).stage = (s.cpi cp).stage := by
  cases cp <;> exact ⟨rfl, rfl, fun q => by cases q <;> rfl, rfl, rfl⟩

theorem restartPart_reshift (s : State) (cp q : ControlPort) (a : List Byte) (b : List Bool) (reply : List Byte) :
    (s.reshift cp a b).restartPart q reply = (s.restartPart q reply).reshift cp a b := by
  unfold State.restartPart State.rise
  cases cp <;> cases q <;> rfl

/-- Taking a request leaves the record, and does not look at it. -/
theorem take_reshift (s : State) (cp q : ControlPort) (a : List Byte) (b : List Bool) (r : Request) :
    (s.reshift cp a b).take q r = (s.take q r).reshift cp a b := by
  have hctl : s.reshift cp a b = s.withControl (s.reshift cp a b).control := by cases cp <;> rfl
  have hblind : (s.withControl (s.reshift cp a b).control).answer q r =
      ((s.answer q r).1.withControl (s.reshift cp a b).control, (s.answer q r).2) := answer_blind q r s _
  have hkeep : (s.answer q r).1.control = s.control := (answer_blind q r).keeps s
  have hpre : (s.reshift cp a b).precheck q r = s.precheck q r := by rw [hctl]; rfl
  unfold State.take
  rw [hpre]
  split
  · exact restartPart_reshift s cp q a b _
  · dsimp only
    rw [← hctl] at hblind
    rw [hblind]
    dsimp only
    generalize s.answer q r = done at hkeep ⊢
    obtain ⟨d, reply⟩ := done
    obtain ⟨h1, h2, h3, h4, h5⟩ : d.cpa = s.cpa ∧ d.cpb = s.cpb ∧ d.carrying = s.carrying ∧
        d.prevSupplier = s.prevSupplier ∧ d.pending = s.pending := by
      simpa only [State.control, Control.mk.injEq] using hkeep
    cases cp <;> cases q <;>
      simp_all [State.reshift, State.setStage, State.setCpi, State.cpi, State.withControl, State.control]

theorem serve_reshift (s : State) (cp : ControlPort) (a : List Byte) (b : List Bool) :
    (s.reshift cp a b).serve = s.serve.reshift cp a b := by
  obtain ⟨-, hcarry, hwait, hpref, -⟩ := reshift_fields s cp a b
  unfold State.serve
  rw [hcarry, hpref, hwait, hwait]
  split
  · rfl
  · split
    · exact take_reshift s cp _ a b _
    · exact take_reshift s cp _ a b _
    · rfl

theorem complete_reshift (s : State) (cp : ControlPort) (a : List Byte) (b : List Bool) (checked : Checked) :
    (s.reshift cp a b).complete cp checked = (s.complete cp checked).reshift cp a b := by
  obtain ⟨-, -, -, -, hstage⟩ := reshift_fields s cp a b
  have haccept : (s.reshift cp a b).accept cp checked = (s.accept cp checked).reshift cp a b := by
    cases checked with
    | request r =>
      have harrived : (s.reshift cp a b).arrived cp r = (s.arrived cp r).reshift cp a b := by cases cp <;> rfl
      show ((s.reshift cp a b).arrived cp r).serve = (s.arrived cp r).serve.reshift cp a b
      rw [harrived, serve_reshift]
    | answer code => cases cp <;> rfl
  unfold State.complete
  rw [hstage, haccept]
  split
  · cases cp <;> rfl
  · rfl
  · rfl

theorem receive_reshift (s : State) (cp : ControlPort) (a : List Byte) (b : List Bool) (bytes : List Byte) :
    (s.reshift cp a b).receive cp bytes = (s.receive cp bytes).reshift cp a b := by
  obtain ⟨hreceiver, -⟩ := reshift_fields s cp a b
  unfold State.receive
  rw [hreceiver]
  split
  · exact complete_reshift s cp a b _
  · cases cp <;> rfl

theorem afterRestart_reshift (s : State) (cp : ControlPort) (a : List Byte) (b : List Bool) (bytes : List Byte) :
    (s.reshift cp a b).afterRestart cp bytes = s.afterRestart cp bytes := by
  obtain ⟨hreceiver, -⟩ := reshift_fields s cp a b
  obtain ⟨-, -, -, -, hstage⟩ := reshift_fields (s.receive cp bytes) cp a b
  unfold State.afterRestart
  rw [hreceiver, receive_reshift, hstage]

theorem clocked_eq_reshift (s : State) (cp : ControlPort) (n : Nat) :
    s.clocked cp n = s.reshift cp (s.statusByte cp :: List.replicate n 0xFF) [] := rfl

/-- A FRAME WRITE does what its bytes do to the part, and records what was shifted out. -/
theorem frameWrite_reshift (s : State) (cp : ControlPort) (bytes : List Byte) : s.frameWrite cp bytes =
    ((s.receive cp bytes).receive cp (s.afterRestart cp bytes)).reshift cp
      (s.statusByte cp :: List.replicate bytes.length 0xFF) [] := by
  rw [frameWrite_eq, clocked_eq_reshift, receive_reshift, receive_reshift, afterRestart_reshift]

/-! ## RESTART (R179, R187) -/

/-- A RESTART that is carried out (R187). -/
theorem complete_restart (h : s.readyActive cp = true) :
    s.complete cp (.request .restart) = (s.arrived cp .restart).restartPart cp (Reply.ok []).frame := by
  obtain ⟨hready, hphase, hactive⟩ := readyActive_parts h
  have hcheck : (s.arrived cp .restart).precheck cp .restart = none := by
    rw [precheck_arrived]
    exact precheck_restart.mpr ⟨hphase, hactive⟩
  rw [complete_takes _ _ _ hready, State.take, hcheck]
  rfl

/-- A port as a RESTART leaves it: empty, with its stage, and with the record of the transaction (R179). -/
def Cpi.restarted (c : Cpi) (stage : PortStage) : Cpi :=
  { receiver := [], stage := stage, frameDropped := false, shifted := c.shifted, shiftedBits := c.shiftedBits }

/-- The part a RESTART leaves (R179, R187). -/
theorem restartPart_fields (s : State) (cp : ControlPort) (reply : List Byte) :
    (s.restartPart cp reply).cpi cp = (s.cpi cp).restarted (.reply reply) ∧
    (s.restartPart cp reply).cpi (otherPort cp) = (s.cpi (otherPort cp)).restarted .idle ∧
    s.restartPart cp reply =
      { State.atReset s.straps (shunMsg (nodeIdOf s.straps)).bytes s.now s.freeCount s.pending with
        active := s.active, partEvents := { latched := 0x10#5, mask := 0 }, cpa := (s.restartPart cp reply).cpa,
        cpb := (s.restartPart cp reply).cpb } := by
  have hphase : (PartSet.raise { latched := 0, mask := 0 } .phase) = { latched := 0x10#5, mask := 0 } := by decide
  unfold State.restartPart State.rise
  rw [← hphase]
  cases cp <;> exact ⟨rfl, rfl, rfl⟩

/-- In INIT every RESTART is refused, so bytes go to the receiver once. -/
theorem afterRestart_of_init (h : s.phase = .init) (cp : ControlPort) (bytes : List Byte) : s.afterRestart cp bytes = [] := by
  unfold State.afterRestart
  split
  · next got frame hframe =>
    have hreceive : s.receive cp bytes = s.complete cp (checkFrame frame) := by rw [State.receive, hframe]
    rw [hreceive]
    split
    · next hrestart hstage =>
      rw [hrestart] at hstage
      exact absurd hstage (restart_not_reply (.inl h))
    · rfl
  · rfl

/-- The bytes after a RESTART that is carried out go to the part it leaves (R179). -/
theorem frameWrite_restart (h : s.readyActive cp = true) (hempty : (s.cpi cp).receiver = []) (rest : List Byte) :
    (s.receive cp (requestFrame .restart ++ rest)).receive cp (s.afterRestart cp (requestFrame .restart ++ rest)) =
      ((s.arrived cp .restart).restartPart cp (Reply.ok []).frame).receive cp rest := by
  have hframe : receiveFrame (s.cpi cp).receiver (requestFrame .restart ++ rest) = ([], some (requestFrame .restart)) :=
    receiveFrame_completes (requestFrame_head .restart) (by decide) (by decide) (by rw [hempty]; rfl) (by rw [hempty]; decide)
  have hcheck : checkFrame (requestFrame .restart) = .request .restart := checkFrame_requestFrame rfl
  have hreceive : s.receive cp (requestFrame .restart ++ rest) =
      (s.arrived cp .restart).restartPart cp (Reply.ok []).frame := by
    rw [receive_of_frame hframe, hcheck, complete_restart h]
  have hafter : s.afterRestart cp (requestFrame .restart ++ rest) = rest := by
    obtain ⟨hself, -⟩ := restartPart_fields (s.arrived cp .restart) cp (Reply.ok []).frame
    unfold State.afterRestart
    rw [hframe, hreceive, hself, hempty]
    dsimp only
    rw [hcheck]
    dsimp only [Cpi.restarted]
    rw [List.length_nil, Nat.sub_zero, List.drop_left]
  rw [hafter, hreceive]

end

/-- Settles O9. -/
theorem restartReturnsToResetValues : Obligations.RestartReturnsToResetValues := by
  intro cp s h
  obtain ⟨hready, hphase, hactive⟩ := readyActive_parts h
  obtain ⟨hr, -⟩ := ready_parts hready
  have hexec : exec (.restart cp) s = .next ((s.arrived cp .restart).restartPart cp (Reply.ok []).frame) := by
    rw [exec_request (cp := cp) (r := .restart) rfl, live_of_not_inReset _ _ hr, complete_restart h]
  have hafter := frameWrite_restart h
  obtain ⟨hself, hother, heq⟩ := restartPart_fields (s.arrived cp .restart) cp (Reply.ok []).frame
  obtain ⟨hshifted, hbits, hcpi⟩ : ((s.arrived cp .restart).cpi cp).shifted = (s.cpi cp).shifted ∧
      ((s.arrived cp .restart).cpi cp).shiftedBits = (s.cpi cp).shiftedBits ∧
      (s.arrived cp .restart).cpi (otherPort cp) = s.cpi (otherPort cp) := by cases cp <;> exact ⟨rfl, rfl, rfl⟩
  generalize (s.arrived cp .restart).restartPart cp (Reply.ok []).frame = t at *
  refine ⟨t, hexec, ?_, ?_, ?_, fun rest hempty => ?_⟩
  · rw [hself, Cpi.restarted, hshifted, hbits]
    rfl
  · rw [hother, hcpi]
    rfl
  · rw [heq]
    cases cp <;> rfl
  · have hrt : t.inReset = false := by rw [heq]; rfl
    have hinit : t.phase = .init := by rw [heq]; rfl
    refine ⟨_, exec_frameWrite hrt cp rest, ?_⟩
    rw [exec_frameWrite hr, frameWrite_reshift, frameWrite_reshift, hafter hempty, afterRestart_of_init hinit, receive_nil,
      List.length_append]
    exact congrArg _ (reshift_reshift _ _ _ _ _ _).symm

end Sys2Proof.Machine
end

section
/-!
PROOFS. Frames that are no request, and frames of every kind (R165, R166, R167, R189).
-/

namespace Sys2Proof.Machine

/-! ## The kinds of R189's table -/

/-- The row a request stands for on a port. -/
def requestInstr (cp : ControlPort) : Request → Instr
  | .identity => .identity cp
  | .nodeIdentifier i => .nodeIdentifier cp i
  | .release => .release cp
  | .restart => .restart cp
  | .takeControl => .takeControl cp
  | .yieldControl => .yieldControl cp
  | .yieldPermission v => .yieldPermission cp v
  | .portSetup p b => .portSetup cp p b
  | .portStatus p => .portStatus cp p
  | .portGrade p => .portGrade cp p
  | .assignPort p d => .assignPort cp p d
  | .assignShelf s d => .assignShelf cp s d
  | .pendingPartition => .pendingPartition cp
  | .applyPartition => .applyPartition cp
  | .discardPartition => .discardPartition cp
  | .domainSetup d b => .domainSetup cp d b
  | .priorityList d ps => .priorityList cp d ps
  | .domainReport d => .domainReport cp d
  | .eventReport e => .eventReport cp e
  | .eventMask e m => .eventMask cp e m
  | .lineSetup l d => .lineSetup cp l d
  | .rankingReport s => .rankingReport cp s
  | .shelfReport s => .shelfReport cp s
  | .changeReport e => .changeReport cp e
  | .queueReport => .queueReport cp
  | .pin s p => .pin cp s p
  | .steer s p => .steer cp s p
  | .clearSteering s => .clearSteering cp s
  | .bar s p => .bar cp s p
  | .allow s p => .allow cp s p
  | .openWindow a b c d o => .openWindow cp a b c d o
  | .writeWindow cs => .writeWindow cp cs
  | .continueWindow cs => .continueWindow cp cs
  | .exclusionRow s => .exclusionRow cp s
  | .outputSetup s b => .outputSetup cp s b
  | .outputReport s => .outputReport cp s
  | .oscillatorCheck => .oscillatorCheck cp
  | .oscillatorReport => .oscillatorReport cp

theorem requestInstr_request (cp : ControlPort) (r : Request) : (requestInstr cp r).request? = some (cp, r) := by
  cases r <;> rfl

/-- A reader that reads every body of `n` bytes, and no other, as a request of its kind. -/
def Fixed (read : List Byte → Option Request) (n : Nat) (kind : Byte) : Prop :=
  ∀ body : List Byte, (body.length = n → ∃ r, read body = some r ∧ (requestBytes r).1 = kind) ∧
    (body.length ≠ n → read body = none)

/-- A reader that matches lists of `n` bytes, and only them. -/
theorem fixed_of_matches {read : List Byte → Option Request} {n : Nat} {kind : Byte}
    (hreads : ∀ v : Fin n → Byte, ∃ r, read (List.ofFn v) = some r ∧ (requestBytes r).1 = kind)
    (honly : ∀ body, read body ≠ none → body.length = n) : Fixed read n kind := by
  refine fun body => ⟨fun h => ?_, fun h => ?_⟩
  · subst h
    have hread := hreads body.get
    rwa [List.ofFn_get] at hread
  · by_contra hread
    exact h (honly body hread)

theorem body0_fixed (r : Request) {kind : Byte} (hk : (requestBytes r).1 = kind) : Fixed (body0 r) 0 kind :=
  fixed_of_matches (fun _ => ⟨_, rfl, hk⟩) fun body h => by
    unfold body0 at h
    split at h
    · rfl
    · exact absurd rfl h

theorem body1_fixed (f : Nat → Request) {kind : Byte} (hk : ∀ n, (requestBytes (f n)).1 = kind) : Fixed (body1 f) 1 kind :=
  fixed_of_matches (fun _ => ⟨_, rfl, hk _⟩) fun body h => by
    unfold body1 at h
    split at h
    · rfl
    · exact absurd rfl h

theorem body2_fixed (f : Nat → Nat → Request) {kind : Byte} (hk : ∀ m n, (requestBytes (f m n)).1 = kind) :
    Fixed (body2 f) 2 kind :=
  fixed_of_matches (fun _ => ⟨_, rfl, hk _ _⟩) fun body h => by
    unfold body2 at h
    split at h
    · rfl
    · exact absurd rfl h

theorem nodeIdentifierBody_fixed : Fixed nodeIdentifierBody 2 0x02#8 :=
  fixed_of_matches (fun _ => ⟨_, rfl, rfl⟩) fun body h => by
    unfold nodeIdentifierBody at h
    split at h
    · rfl
    · exact absurd rfl h

theorem eventMaskBody_fixed : Fixed eventMaskBody 3 0x29#8 :=
  fixed_of_matches (fun _ => ⟨_, rfl, rfl⟩) fun body h => by
    unfold eventMaskBody at h
    split at h
    · rfl
    · exact absurd rfl h

theorem openWindowBody_fixed : Fixed openWindowBody 5 0x45#8 :=
  fixed_of_matches (fun _ => ⟨_, rfl, rfl⟩) fun body h => by
    unfold openWindowBody at h
    split at h
    · rfl
    · exact absurd rfl h

theorem outputSetupBody_fixed : Fixed outputSetupBody 6 0x50#8 :=
  fixed_of_matches (fun _ => ⟨_, rfl, rfl⟩) fun body h => by
    unfold outputSetupBody at h
    split at h
    · rfl
    · exact absurd rfl h

theorem portSetupBody_fixed : Fixed portSetupBody 7 0x10#8 :=
  fixed_of_matches (fun _ => ⟨_, rfl, rfl⟩) fun body h => by
    unfold portSetupBody at h
    split at h
    · rfl
    · exact absurd rfl h

theorem domainSetupBody_fixed : Fixed domainSetupBody 18 0x25#8 :=
  fixed_of_matches (fun _ => ⟨_, rfl, rfl⟩) fun body h => by
    unfold domainSetupBody at h
    split at h
    · rfl
    · exact absurd rfl h

/-! ### What each kind's code calls for -/

/-- How a body of a frame of a kind is read, and how long the kind calls its frame to be: the same, either way. -/
def ReadsAt (frame body : List Byte) (kind : Byte) (n : Nat) : Prop :=
  ∃ read, bodyReader kind.toNat = some read ∧
    (n = frame.length → ∃ r, read body = some r ∧ (requestBytes r).1 = kind) ∧ (n ≠ frame.length → read body = none)

theorem Fixed.readsAt {read : List Byte → Option Request} {n m : Nat} {kind : Byte} (h : Fixed read n kind)
    (hr : bodyReader kind.toNat = some read) {frame body : List Byte} (hlen : frame.length = body.length + 4) (hm : m = n + 4) :
    ReadsAt frame body kind m :=
  ⟨read, hr, fun he => (h body).1 (by omega), fun hne => (h body).2 (by omega)⟩

section
variable {frame body : List Byte} {kind : Byte}

theorem readsAt_four (hlen : frame.length = body.length + 4)
    (h : kind ∈ [0x01#8, 0x03#8, 0x04#8, 0x08#8, 0x09#8, 0x22#8, 0x23#8, 0x24#8, 0x3A#8, 0x58#8, 0x59#8]) :
    ReadsAt frame body kind 4 := by
  simp only [List.mem_cons, List.not_mem_nil, or_false] at h
  rcases h with rfl | rfl | rfl | rfl | rfl | rfl | rfl | rfl | rfl | rfl | rfl <;>
    exact (body0_fixed _ (by rfl)).readsAt rfl hlen rfl

theorem readsAt_five (hlen : frame.length = body.length + 4)
    (h : kind ∈ [0x0A#8, 0x11#8, 0x18#8, 0x27#8, 0x28#8, 0x30#8, 0x38#8, 0x39#8, 0x42#8, 0x48#8, 0x51#8]) :
    ReadsAt frame body kind 5 := by
  simp only [List.mem_cons, List.not_mem_nil, or_false] at h
  rcases h with rfl | rfl | rfl | rfl | rfl | rfl | rfl | rfl | rfl | rfl | rfl <;>
    exact (body1_fixed _ (by intro _; rfl)).readsAt rfl hlen rfl

theorem readsAt_six (hlen : frame.length = body.length + 4)
    (h : kind ∈ [0x02#8, 0x20#8, 0x21#8, 0x2A#8, 0x40#8, 0x41#8, 0x43#8, 0x44#8]) : ReadsAt frame body kind 6 := by
  simp only [List.mem_cons, List.not_mem_nil, or_false] at h
  rcases h with rfl | h
  · exact nodeIdentifierBody_fixed.readsAt rfl hlen rfl
  · rcases h with rfl | rfl | rfl | rfl | rfl | rfl | rfl <;> exact (body2_fixed _ (by intro _ _; rfl)).readsAt rfl hlen rfl

/-- PRIORITY LIST: its count says how many ports follow (R189). -/
theorem readsAt_priorityList (hlen : frame.length = body.length + 4)
    (hbody : ∀ b0 b1 rest, body = b0 :: b1 :: rest → frame[3]? = some b1) :
    ReadsAt frame body 0x26#8 (6 + (frame[3]?.getD 0).toNat) := by
  refine ⟨priorityListBody, rfl, fun h => ?_, fun h => ?_⟩
  · match body, hlen, hbody with
    | [], hlen, _ | [_], hlen, _ => simp at hlen; omega
    | d :: n :: ports, hlen, hbody =>
      rw [hbody _ _ _ rfl, Option.getD_some] at h
      simp only [List.length_cons] at hlen
      rw [priorityListBody, if_pos (by omega)]
      exact ⟨_, rfl, rfl⟩
  · match body, hlen, hbody with
    | [], _, _ | [_], _, _ => rfl
    | d :: n :: ports, hlen, hbody =>
      rw [hbody _ _ _ rfl, Option.getD_some] at h
      simp only [List.length_cons] at hlen
      rw [priorityListBody, if_neg (by omega)]

/-- WRITE WINDOW and CONTINUE WINDOW: the count of cells says how many bytes follow (R189). -/
theorem readsAt_window {f : List CellValue → Request} (hr : bodyReader kind.toNat = some (windowBody f))
    (hk : ∀ cells, (requestBytes (f cells)).1 = kind) (hlen : frame.length = body.length + 4)
    (hbody : ∀ b0 b1 rest, body = b0 :: b1 :: rest → frame[2]? = some b0 ∧ frame[3]? = some b1) :
    ReadsAt frame body kind (6 + (word16 (frame[2]?.getD 0) (frame[3]?.getD 0) + 7) / 8) := by
  refine ⟨windowBody f, hr, fun h => ?_, fun h => ?_⟩
  · match body, hlen, hbody with
    | [], hlen, _ | [_], hlen, _ => simp at hlen; omega
    | b0 :: b1 :: packed, hlen, hbody =>
      obtain ⟨h2, h3⟩ := hbody _ _ _ rfl
      rw [h2, h3, Option.getD_some, Option.getD_some] at h
      simp only [List.length_cons] at hlen
      rw [windowBody, if_pos (by omega)]
      exact ⟨_, rfl, hk _⟩
  · match body, hlen, hbody with
    | [], _, _ | [_], _, _ => rfl
    | b0 :: b1 :: packed, hlen, hbody =>
      obtain ⟨h2, h3⟩ := hbody _ _ _ rfl
      rw [h2, h3, Option.getD_some, Option.getD_some] at h
      simp only [List.length_cons] at hlen
      rw [windowBody, if_neg (by omega)]

/-- The table of R189: a frame of a kind is read where it has the length its kind calls for, and nowhere else. -/
theorem readsAt_lengthCalledFor {len : Byte} {body crc : List Byte} {n : Nat} (hcrc : crc.length = 2)
    (h : lengthCalledFor (len :: kind :: (body ++ crc)) = some n) : ReadsAt (len :: kind :: (body ++ crc)) body kind n := by
  have hlen : (len :: kind :: (body ++ crc)).length = body.length + 4 := by simp [hcrc]
  have hbody : ∀ b0 b1 rest, body = b0 :: b1 :: rest →
      (len :: kind :: (body ++ crc))[2]? = some b0 ∧ (len :: kind :: (body ++ crc))[3]? = some b1 := by
    rintro b0 b1 rest rfl
    exact ⟨rfl, rfl⟩
  have hkind : (len :: kind :: (body ++ crc))[1]? = some kind := rfl
  generalize len :: kind :: (body ++ crc) = frame at *
  unfold lengthCalledFor at h
  rw [hkind] at h
  dsimp only at h
  split_ifs at h with h4 h5 h6 h7 h9 h10 h11 h22 hlist hwindow <;> obtain rfl := Option.some.inj h
  · exact readsAt_four hlen h4
  · exact readsAt_five hlen h5
  · exact readsAt_six hlen h6
  · exact h7 ▸ eventMaskBody_fixed.readsAt rfl hlen rfl
  · exact h9 ▸ openWindowBody_fixed.readsAt rfl hlen rfl
  · exact h10 ▸ outputSetupBody_fixed.readsAt rfl hlen rfl
  · exact h11 ▸ portSetupBody_fixed.readsAt rfl hlen rfl
  · exact h22 ▸ domainSetupBody_fixed.readsAt rfl hlen rfl
  · exact hlist ▸ readsAt_priorityList hlen fun b0 b1 rest hb => (hbody b0 b1 rest hb).2
  · rcases hwindow with rfl | rfl
    · exact readsAt_window (f := .writeWindow) rfl (fun _ => rfl) hlen hbody
    · exact readsAt_window (f := .continueWindow) rfl (fun _ => rfl) hlen hbody

end

/-- Whether a frame has a kind depends on its kind code alone. -/
theorem lengthCalledFor_kind {frame other : List Byte} {kind : Byte} (hk : frame[1]? = some kind) (ho : other[1]? = some kind)
    (h : lengthCalledFor frame = none) : lengthCalledFor other = none := by
  unfold lengthCalledFor at h ⊢
  rw [hk] at h
  rw [ho]
  dsimp only at h ⊢
  split_ifs at h with h4 h5 h6 h7 h9 h10 h11 h22 hlist hwindow
  rw [if_neg h4, if_neg h5, if_neg h6, if_neg h7, if_neg h9, if_neg h10, if_neg h11, if_neg h22, if_neg hlist, if_neg hwindow]

/-- The codes that R189's table names are the codes that have a reader. -/
theorem kinds_agree : ∀ n : Fin 256, (lengthCalledFor [0, BitVec.ofFin n]).isNone = (bodyReader n.val).isNone := by
  decide +kernel

theorem lengthCalledFor_eq_none {frame : List Byte} {kind : Byte} (hk : frame[1]? = some kind) :
    lengthCalledFor frame = none ↔ bodyReader kind.toNat = none := by
  have hkinds : (lengthCalledFor [0, kind]).isNone = (bodyReader kind.toNat).isNone := kinds_agree kind.toFin
  have hsame : lengthCalledFor frame = none ↔ lengthCalledFor [0, kind] = none :=
    ⟨lengthCalledFor_kind hk rfl, lengthCalledFor_kind rfl hk⟩
  rw [hsame, ← Option.isNone_iff_eq_none, hkinds, Option.isNone_iff_eq_none]

end Sys2Proof.Machine
end

section
/-!
PROOFS. Frames that the port answers itself, that it drops, and that it goes on with (R165, R166, R167).
-/

namespace Sys2Proof.Machine

section
variable {s t : State} {cp : ControlPort} {r : Request}

/-! ## The checks of a completed frame (R166) -/

/-- A frame of four bytes or more: length, kind, body and CRC. -/
theorem exists_frame_parts {frame : List Byte} (h : 4 ≤ frame.length) :
    ∃ len kind body crc, frame = len :: kind :: (body ++ crc) ∧ crc.length = 2 := by
  match frame, h with
  | len :: kind :: rest, h =>
    refine ⟨len, kind, rest.take (rest.length - 2), rest.drop (rest.length - 2), by rw [List.take_append_drop], ?_⟩
    simp only [List.length_cons] at h
    rw [List.length_drop]
    omega

theorem checkFrame_of_crc {frame : List Byte} (h : crc16 frame ≠ 0) : checkFrame frame = .answer .badFrame := by
  unfold checkFrame
  split
  · rw [if_pos (Bool.or_eq_true_iff.mpr (.inl (bne_iff_ne.mpr h)))]
  · rfl

/-- Past the CRC a frame is what its reader reads. -/
theorem checkFrame_parts {len kind : Byte} {body crc : List Byte} (hcrc : crc.length = 2)
    (h : crc16 (len :: kind :: (body ++ crc)) = 0) :
    (bodyReader kind.toNat = none → checkFrame (len :: kind :: (body ++ crc)) = .answer .unknownKind) ∧
    ∀ read, bodyReader kind.toNat = some read →
      (read body = none → checkFrame (len :: kind :: (body ++ crc)) = .answer .badFrame) ∧
      ∀ r, read body = some r → checkFrame (len :: kind :: (body ++ crc)) = .request r := by
  have hlen : (body ++ crc).length = body.length + 2 := by rw [List.length_append, hcrc]
  unfold checkFrame
  dsimp only
  rw [h, hlen, Nat.add_sub_cancel, List.take_left, if_neg (by simp)]
  refine ⟨fun hr => ?_, fun read hr => ⟨fun hb => ?_, fun r hb => ?_⟩⟩
  · rw [hr]
  · rw [hr]
    dsimp only
    rw [hb]
  · rw [hr]
    dsimp only
    rw [hb]

/-! ## What the port does with a completed frame (R166, R167) -/

theorem complete_answer (h : ∀ w, (s.cpi cp).stage ≠ .working w) (code : ResultCode) : s.complete cp (.answer code) =
    s.setCpi cp { s.cpi cp with receiver := [], stage := .reply ({ code := code, body := [] } : Reply).frame } := by
  unfold State.complete
  split
  · next w hw => exact absurd hw (h w)
  · rfl
  · rfl

theorem complete_working {w : Option Request} (h : (s.cpi cp).stage = .working w) (checked : Checked) :
    s.complete cp checked = s.setCpi cp { s.cpi cp with receiver := [], frameDropped := true } := by
  rw [State.complete, h]

theorem afterRestart_working {w : Option Request} (h : (s.cpi cp).stage = .working w) {bytes frame : List Byte}
    (hframe : receiveFrame (s.cpi cp).receiver bytes = ([], some frame)) : s.afterRestart cp bytes = [] := by
  unfold State.afterRestart
  rw [hframe, receive_of_frame hframe, complete_working h, setCpi_cpi_self]
  dsimp only
  rw [h]
  split
  · next hstage => cases hstage
  · rfl

/-- The port after a transaction whose bytes it has taken in. -/
theorem clocked_setCpi (s : State) (cp : ControlPort) (n : Nat) (c : Cpi) :
    (s.clocked cp n).setCpi cp c = s.setCpi cp c := setCpi_setCpi s cp _ c

theorem clocked_cpi (s : State) (cp : ControlPort) (n : Nat) : (s.clocked cp n).cpi cp =
    { s.cpi cp with shifted := s.statusByte cp :: List.replicate n 0xFF, shiftedBits := [] } := setCpi_cpi_self s cp _

/-- A frame that the port answers itself. -/
theorem frameWrite_answers {bytes frame rest : List Byte} {code : ResultCode}
    (hframe : receiveFrame (s.cpi cp).receiver bytes = ([], some frame)) (happ : (s.cpi cp).receiver ++ bytes = frame ++ rest)
    (hcheck : checkFrame frame = .answer code) (hidle : ∀ w, (s.cpi cp).stage ≠ .working w) :
    s.frameWrite cp bytes = s.setCpi cp { s.cpi cp with
      receiver := [], stage := .reply ({ code := code, body := [] } : Reply).frame,
      shifted := s.statusByte cp :: List.replicate bytes.length 0xFF, shiftedBits := [] } := by
  have hstage : ∀ w, ((s.clocked cp bytes.length).cpi cp).stage ≠ .working w := by
    rw [(clocked_fields s cp _).2.1]
    exact hidle
  rw [frameWrite_frame hframe hcheck happ (.inr (.inl nofun)), complete_answer hstage, clocked_setCpi, clocked_cpi]

/-- A frame that completes while the port is WORKING. -/
theorem frameWrite_drops {w : Option Request} {bytes frame : List Byte} (hworking : (s.cpi cp).stage = .working w)
    (hframe : receiveFrame (s.cpi cp).receiver bytes = ([], some frame)) :
    s.frameWrite cp bytes = s.setCpi cp { s.cpi cp with
      receiver := [], frameDropped := true, shifted := s.statusByte cp :: List.replicate bytes.length 0xFF,
      shiftedBits := [] } := by
  obtain ⟨hreceiver, hstage, -⟩ := clocked_fields s cp bytes.length
  rw [← hreceiver] at hframe
  rw [← hstage] at hworking
  rw [frameWrite_eq, afterRestart_working hworking hframe, receive_nil, receive_of_frame hframe, complete_working hworking,
    clocked_setCpi, clocked_cpi]

/-- A frame that the transaction does not complete. -/
theorem frameWrite_collects {bytes got : List Byte} (hgot : receiveFrame (s.cpi cp).receiver bytes = (got, none)) :
    s.frameWrite cp bytes = s.setCpi cp { s.cpi cp with
      receiver := got, shifted := s.statusByte cp :: List.replicate bytes.length 0xFF, shiftedBits := [] } := by
  obtain ⟨hreceiver, -⟩ := clocked_fields s cp bytes.length
  rw [← hreceiver] at hgot
  have hafter : (s.clocked cp bytes.length).afterRestart cp bytes = [] := by rw [State.afterRestart, hgot]
  rw [frameWrite_eq, hafter, receive_nil, State.receive, hgot]
  dsimp only
  rw [clocked_setCpi, clocked_cpi]

/-! ## Going on with a partial frame (R165) -/

/-- What the receiver held is the beginning of the frame it completes. -/
theorem receiveFrame_length {got bytes got' frame : List Byte} (h : receiveFrame got bytes = (got', some frame)) :
    got.length ≤ frame.length := by
  induction bytes generalizing got with
  | nil =>
    rw [receiveFrame_nil] at h
    cases h
  | cons b bytes ih =>
    cases got with
    | nil => exact Nat.zero_le _
    | cons len got =>
      rw [receiveFrame] at h
      split at h
      · have := ih h
        simp only [List.length_cons, List.length_append, List.length_nil] at this ⊢
        omega
      · cases h
        simp

/-- The bytes a receiver holds may as well come first. -/
theorem receive_goes_on {got bytes : List Byte} {len : Byte} (hgot : (s.cpi cp).receiver = got) (hhead : got.head? = some len)
    (hfour : 4 ≤ len.toNat) (hshort : got.length < len.toNat) :
    (s.setCpi cp { s.cpi cp with receiver := [] }).receive cp (got ++ bytes) = s.receive cp bytes ∧
      (s.setCpi cp { s.cpi cp with receiver := [] }).afterRestart cp (got ++ bytes) = s.afterRestart cp bytes := by
  obtain ⟨g, rfl⟩ : ∃ g, got = len :: g := by
    cases got with
    | nil => cases hhead
    | cons a g => exact ⟨g, by rw [Option.some.inj hhead]⟩
  have hreceiver : ((s.setCpi cp { s.cpi cp with receiver := [] }).cpi cp).receiver = [] := by rw [setCpi_cpi_self]
  have hframes : receiveFrame [] (len :: g ++ bytes) = receiveFrame (len :: g) bytes :=
    receiveFrame_partial len g bytes hfour hshort
  have hreceive : (s.setCpi cp { s.cpi cp with receiver := [] }).receive cp (len :: g ++ bytes) = s.receive cp bytes := by
    unfold State.receive
    rw [hreceiver, hframes, hgot]
    split
    · exact complete_receiver s cp [] _
    · rw [setCpi_cpi_self, setCpi_setCpi]
  refine ⟨hreceive, ?_⟩
  unfold State.afterRestart
  rw [hreceive, hreceiver, hframes, hgot]
  split
  · next got' frame hframe =>
    have hle := receiveFrame_length hframe
    split
    · rw [List.length_nil, Nat.sub_zero, List.drop_append, List.drop_eq_nil_of_le hle, List.nil_append]
    · rfl
  · rfl

theorem frameWrite_goes_on {got bytes : List Byte} {len : Byte} (hgot : (s.cpi cp).receiver = got)
    (hhead : got.head? = some len) (hfour : 4 ≤ len.toNat) (hshort : got.length < len.toNat) :
    s.frameWrite cp bytes = ((s.setCpi cp { s.cpi cp with receiver := [] }).frameWrite cp (got ++ bytes)).reshift cp
      (s.statusByte cp :: List.replicate bytes.length 0xFF) [] := by
  obtain ⟨hreceive, hafter⟩ := receive_goes_on (bytes := bytes) hgot hhead hfour hshort
  rw [frameWrite_reshift, frameWrite_reshift, hreceive, hafter, reshift_reshift]

end

/-! ## A frame written to an empty receiver -/

section
variable {s : State} {cp : ControlPort} {frame rest : List Byte} {len : Byte} {c : Cpi}

/-- The frame that bytes with a short or a right length byte complete. -/
theorem exists_completed (hhead : frame.head? = some len) (h : len.toNat < 4 ∨ len.toNat = frame.length) :
    ∃ done more, receiveFrame [] (frame ++ rest) = ([], some done) ∧ frame ++ rest = done ++ more ∧
      (len.toNat < 4 → done = [len]) ∧ (4 ≤ len.toNat → done = frame ∧ more = rest) := by
  obtain ⟨tail, rfl⟩ : ∃ tail, frame = len :: tail := by
    cases frame with
    | nil => cases hhead
    | cons a tail => exact ⟨tail, by rw [Option.some.inj hhead]⟩
  by_cases hfour : 4 ≤ len.toNat
  · exact ⟨len :: tail, rest, receiveFrame_completes hhead hfour (h.resolve_left (by omega)) rfl (by simp), rfl,
      fun hlt => absurd hfour (by omega), fun _ => ⟨rfl, rfl⟩⟩
  · exact ⟨[len], tail ++ rest, receiveFrame_short (by omega) _, rfl, fun _ => rfl, fun hge => absurd hge hfour⟩

theorem badFrame_answered (hempty : (s.cpi cp).receiver = []) (hhead : frame.head? = some len)
    (hc : c = { s.cpi cp with
      shifted := s.statusByte cp :: List.replicate (frame.length + rest.length) 0xFF, shiftedBits := [] })
    {code : ResultCode} (hidle : ∀ w, (s.cpi cp).stage ≠ .working w)
    (hlen : len.toNat < 4 ∧ code = .badFrame ∨ len.toNat = frame.length ∧ 4 ≤ len.toNat ∧ checkFrame frame = .answer code) :
    s.frameWrite cp (frame ++ rest) = s.setCpi cp { c with stage := .reply ({ code := code, body := [] } : Reply).frame } := by
  obtain ⟨done, more, hframe, happ, hshort, hfull⟩ := exists_completed (rest := rest) hhead
    (hlen.imp And.left And.left)
  have hcheck : checkFrame done = .answer code := by
    rcases hlen with ⟨hlt, rfl⟩ | ⟨-, hfour, hcheck⟩
    · rw [hshort hlt]
      rfl
    · rw [(hfull hfour).1]
      exact hcheck
  have hframe : receiveFrame (s.cpi cp).receiver (frame ++ rest) = ([], some done) := by rw [hempty, hframe]
  rw [frameWrite_answers hframe (by rw [hempty]; exact happ) hcheck hidle, List.length_append, hc, hempty]

/-- A frame of the length its kind calls for is its request; one of another length is bad (R189). -/
theorem checkFrame_by_length (hhead : frame.head? = some len) (hfour : 4 ≤ len.toNat) (hlen : len.toNat = frame.length)
    (hcrc : crc16 frame = 0) :
    ((∀ k, frame[1]? = some k → bodyReader k.toNat = none) → checkFrame frame = .answer .unknownKind) ∧
    ∀ n, lengthCalledFor frame = some n →
      (n ≠ frame.length → checkFrame frame = .answer .badFrame) ∧
      (n = frame.length → ∃ r, checkFrame frame = .request r ∧ frame[1]? = some (requestBytes r).1) := by
  obtain ⟨a, kind, body, crc, rfl, htwo⟩ := exists_frame_parts (frame := frame) (by omega)
  obtain ⟨hunknown, hknown⟩ := checkFrame_parts htwo hcrc
  refine ⟨fun h => hunknown (h kind rfl), fun n hn => ?_⟩
  obtain ⟨read, hreader, hreads, hbad⟩ := readsAt_lengthCalledFor htwo hn
  obtain ⟨hnone, hsome⟩ := hknown read hreader
  refine ⟨fun hne => hnone (hbad hne), fun he => ?_⟩
  obtain ⟨r, hr, hkind⟩ := hreads he
  exact ⟨r, hsome r hr, by rw [hkind]; rfl⟩

end

/-- Settles O48. -/
theorem badFramesAreAnsweredOrDropped : Obligations.BadFramesAreAnsweredOrDropped := by
  refine ⟨fun cp frame rest len s c hr hempty hhead hc => ⟨fun hfour hshort hrest => ?_, fun hidle h => ?_,
    fun hidle hfour hlen hcrc hkind => ?_, fun n hfour hlen hcrc hn => ⟨fun hidle hne => ?_, fun he => ?_⟩,
    fun k hk => lengthCalledFor_eq_none hk, fun w hw h => ?_⟩, fun cp got bytes len s hr hgot hhead hfour hshort => ?_⟩
  · subst hrest
    have hgot : receiveFrame (s.cpi cp).receiver frame = (frame, none) := by
      rw [hempty]
      exact receiveFrame_unfinished hfour hhead hshort
    rw [exec_frameWrite hr, frameWrite_collects hgot, hc]
    rfl
  · rw [exec_frameWrite hr]
    refine congrArg _ (badFrame_answered hempty hhead hc hidle ?_)
    by_cases hfour : 4 ≤ len.toNat
    · obtain ⟨hlen, hcrc⟩ := h.resolve_left (by omega)
      exact .inr ⟨hlen, hfour, checkFrame_of_crc hcrc⟩
    · exact .inl ⟨by omega, rfl⟩
  · rw [exec_frameWrite hr]
    exact congrArg _ (badFrame_answered hempty hhead hc hidle
      (.inr ⟨hlen, hfour, (checkFrame_by_length hhead hfour hlen hcrc).1 hkind⟩))
  · rw [exec_frameWrite hr]
    exact congrArg _ (badFrame_answered hempty hhead hc hidle
      (.inr ⟨hlen, hfour, ((checkFrame_by_length hhead hfour hlen hcrc).2 n hn).1 hne⟩))
  · obtain ⟨r, hcheck, hkind⟩ := ((checkFrame_by_length hhead hfour hlen hcrc).2 n hn).2 he
    refine ⟨requestInstr cp r, r, requestInstr_request cp r, hkind, fun h => ?_⟩
    have hframe : receiveFrame (s.cpi cp).receiver (frame ++ rest) = ([], some frame) := by
      rw [hempty]
      exact receiveFrame_completes hhead hfour hlen rfl (by rw [← hlen, List.length_nil]; omega)
    rw [exec_frameWrite hr, hc, ← List.length_append]
    have hexec := exec_clocked (requestInstr_request cp r) hr (frame ++ rest).length (s.cpi cp).receiver
    refine Eq.trans (congrArg _ (frameWrite_frame hframe hcheck (by rw [hempty]; rfl) ?_)) hexec.symm
    exact h.imp id (Or.imp (fun hne he => hne (Checked.request.inj he)) id)
  · obtain ⟨done, more, hframe, -⟩ := exists_completed (rest := rest) hhead h
    have hframe : receiveFrame (s.cpi cp).receiver (frame ++ rest) = ([], some done) := by rw [hempty, hframe]
    rw [exec_frameWrite hr, frameWrite_drops hw hframe, List.length_append, hc, hempty]
  · have hr' : (s.setCpi cp { s.cpi cp with receiver := [] }).inReset = false := by
      rw [← hr]
      cases cp <;> rfl
    refine ⟨_, exec_frameWrite hr' cp _, ?_⟩
    rw [exec_frameWrite hr, frameWrite_goes_on hgot hhead hfour hshort]
    rfl

end Sys2Proof.Machine
end

section
/-!
PROOFS. Grade messages are read back as they were sent (R23, R159, R191, R192).
-/

namespace Sys2Proof.Machine

/-! ## The CRC-8 (R192) -/

theorem crc8Bit_zero_fin : ∀ n : Fin 256, crc8Bit (BitVec.ofFin n) = 0 ↔ n = 0 := by decide +kernel

theorem crc8Bit_eq_zero (c : BitVec 8) : crc8Bit c = 0 ↔ c = 0 := by
  rw [crc8Bit_zero_fin c.toFin]
  exact ⟨fun h => BitVec.eq_of_toFin_eq h, fun h => by rw [h]; rfl⟩

theorem crc8_bits_eq_zero (n : Nat) (c : BitVec 8) : (List.range n).foldl (fun c _ => crc8Bit c) c = 0 ↔ c = 0 := by
  induction n with
  | zero => rfl
  | succ n ih => rw [List.range_succ, List.foldl_append, List.foldl_cons, List.foldl_nil, crc8Bit_eq_zero, ih]

/-- One byte takes the CRC to 0 exactly where it is the CRC. -/
theorem crc8Byte_eq_zero (c b : BitVec 8) : crc8Byte c b = 0 ↔ b = c := by
  rw [crc8Byte, crc8_bits_eq_zero]
  exact BitVec.xor_eq_zero_iff.trans eq_comm

theorem crc8_append (bytes : List Byte) (b : Byte) : crc8 (bytes ++ [b]) = 0 ↔ b = crc8 bytes := by
  rw [crc8, List.foldl_append, List.foldl_cons, List.foldl_nil, crc8Byte_eq_zero]
  rfl

/-- Over covered bytes and CRC the CRC is 0 exactly where the last byte is the CRC of the bytes before it. -/
theorem crc8_eq_zero {bytes : List Byte} (h : bytes ≠ []) : crc8 bytes = 0 ↔ bytes.getLast? = some (crc8 bytes.dropLast) := by
  obtain ⟨init, last, rfl⟩ : ∃ init last, bytes = init ++ [last] := ⟨_, _, (List.dropLast_append_getLast h).symm⟩
  rw [crc8_append, List.getLast?_append, List.dropLast_concat]
  simp

/-! ## Node identifiers (R190) -/

theorem nodeIdBytes_nodeIdOfBytes (hi lo : Byte) : nodeIdBytes (nodeIdOfBytes hi lo) = [hi, lo] := by
  have h1 := hi.isLt
  have h2 := lo.isLt
  have hword : (nodeIdOfBytes hi lo).toNat = hi.toNat * 256 + lo.toNat := by
    rw [nodeIdOfBytes, word16, BitVec.toNat_ofNat]
    omega
  have hhi : byte ((hi.toNat * 256 + lo.toNat) / 256) = hi := by
    apply BitVec.eq_of_toNat_eq
    rw [byte_toNat (by omega)]
    omega
  have hlo : byte (hi.toNat * 256 + lo.toNat) = lo := by
    apply BitVec.eq_of_toNat_eq
    rw [byte, BitVec.toNat_ofNat]
    omega
  rw [nodeIdBytes, be16, hword, hhi, hlo]

theorem nodeIdOfBytes_be16 (i : NodeId) : nodeIdOfBytes (byte (i.toNat / 256)) (byte i.toNat) = i := by
  rw [nodeIdOfBytes, word16_be16 i.isLt, BitVec.ofNat_toNat, BitVec.setWidth_eq]

/-- The two identifiers no node has, by their bytes (R23). -/
theorem nodeIdOfBytes_reserved (hi lo : Byte) :
    (nodeIdOfBytes hi lo = 0x0000#16 ∨ nodeIdOfBytes hi lo = 0xFFFF#16) ↔
      (hi = 0x00#8 ∧ lo = 0x00#8 ∨ hi = 0xFF#8 ∧ lo = 0xFF#8) := by
  have hback := nodeIdBytes_nodeIdOfBytes hi lo
  constructor
  · rintro (h | h) <;> rw [h] at hback
    · exact .inl ⟨(List.cons.inj hback).1.symm, (List.cons.inj (List.cons.inj hback).2).1.symm⟩
    · exact .inr ⟨(List.cons.inj hback).1.symm, (List.cons.inj (List.cons.inj hback).2).1.symm⟩
  · rintro (⟨rfl, rfl⟩ | ⟨rfl, rfl⟩)
    · exact .inl rfl
    · exact .inr rfl

/-! ## Traces (R191) -/

theorem traceOfBytes_flatMap (trace : List NodeId) : traceOfBytes (trace.flatMap nodeIdBytes) = some trace := by
  induction trace with
  | nil => rfl
  | cons i rest ih =>
    rw [List.flatMap_cons]
    show (traceOfBytes (rest.flatMap nodeIdBytes)).map (nodeIdOfBytes (byte (i.toNat / 256)) (byte i.toNat) :: ·) = _
    rw [ih, Option.map_some, nodeIdOfBytes_be16]

/-- Bytes that pair up are a trace, each identifier from its two bytes. -/
theorem exists_trace : ∀ {bytes : List Byte} {n : Nat}, bytes.length = 2 * n →
    ∃ trace, traceOfBytes bytes = some trace ∧ trace.length = n ∧ trace.flatMap nodeIdBytes = bytes ∧
      (trace.any (fun i => i == 0x0000#16 || i == 0xFFFF#16) = true ↔
        ∃ k < n, ∃ hi lo, bytes[2 * k]? = some hi ∧ bytes[2 * k + 1]? = some lo ∧
          (hi = 0x00#8 ∧ lo = 0x00#8 ∨ hi = 0xFF#8 ∧ lo = 0xFF#8)) := by
  intro bytes n
  induction n generalizing bytes with
  | zero =>
    intro h
    obtain rfl := List.eq_nil_of_length_eq_zero h
    exact ⟨[], rfl, rfl, rfl, by simp⟩
  | succ n ih =>
    intro h
    match bytes, h with
    | hi :: lo :: rest, h =>
      obtain ⟨trace, htrace, hlen, hbytes, hany⟩ := ih (bytes := rest) (by simp only [List.length_cons] at h; omega)
      refine ⟨nodeIdOfBytes hi lo :: trace, by rw [traceOfBytes, htrace]; rfl, by rw [List.length_cons, hlen],
        by rw [List.flatMap_cons, nodeIdBytes_nodeIdOfBytes, hbytes]; rfl, ?_⟩
      rw [List.any_cons, Bool.or_eq_true, hany, Bool.or_eq_true, beq_iff_eq, beq_iff_eq, nodeIdOfBytes_reserved]
      constructor
      · rintro (hfirst | ⟨k, hk, a, b, ha, hb, hab⟩)
        · exact ⟨0, by omega, hi, lo, rfl, rfl, hfirst⟩
        · exact ⟨k + 1, by omega, a, b, ha, hb, hab⟩
      · rintro ⟨k, hk, a, b, ha, hb, hab⟩
        cases k with
        | zero =>
          obtain rfl : hi = a := Option.some.inj ha
          obtain rfl : lo = b := Option.some.inj hb
          exact .inl hab
        | succ k => exact .inr ⟨k, by omega, a, b, ha, hb, hab⟩

/-! ## Messages (R23, R191) -/

theorem gradeFlagsByte_toNat {m : GradeMsg} (h : m.grade ≤ 15) : (gradeFlagsByte m).toNat =
    m.grade * 16 + (if m.holdover then 8 else 0) + (if m.truncated then 4 else 0) := by
  have hbound : m.grade * 16 + (if m.holdover then 8 else 0) + (if m.truncated then 4 else 0) < 256 := by
    split <;> split <;> omega
  exact byte_toNat hbound

theorem testBit_three (n : Nat) : n.testBit 3 = decide (n / 8 % 2 = 1) := by
  rw [Nat.testBit_eq_decide_div_mod_eq]

theorem testBit_two (n : Nat) : n.testBit 2 = decide (n / 4 % 2 = 1) := by
  rw [Nat.testBit_eq_decide_div_mod_eq]

theorem gradeFlagsByte_bits {m : GradeMsg} (h : m.grade ≤ 15) :
    (gradeFlagsByte m).toNat / 16 = m.grade ∧ (gradeFlagsByte m).getLsbD 3 = m.holdover ∧
      (gradeFlagsByte m).getLsbD 2 = m.truncated := by
  rw [BitVec.getLsbD, BitVec.getLsbD, testBit_three, testBit_two, gradeFlagsByte_toNat h]
  cases m.holdover <;> cases m.truncated <;> simp <;> omega

theorem covered_length (m : GradeMsg) : m.covered.length = 3 + 2 * m.trace.length := by
  have htrace : (m.trace.flatMap nodeIdBytes).length = 2 * m.trace.length := by
    induction m.trace with
    | nil => rfl
    | cons i rest ih =>
      rw [List.flatMap_cons, List.length_append, ih, List.length_cons]
      show 2 + _ = _
      omega
  simp only [GradeMsg.covered, List.length_cons, htrace]
  omega

/-- The conditions on a message's bytes but for its trace (R23). -/
theorem ofBytes_eq_none {len flags count : Byte} {rest : List Byte} {bad : Bool} {trace : List NodeId}
    (ht : traceOfBytes rest.dropLast = some trace) :
    GradeMsg.ofBytes (len :: flags :: count :: rest) bad = none ↔
      bad = true ∨ crc8 (len :: flags :: count :: rest) ≠ 0 ∨ len.toNat ≠ 3 + 2 * count.toNat ∨ count.toNat = 0 ∨
        8 < count.toNat ∨ trace.length ≠ count.toNat ∨ flags.toNat / 16 = 13 ∨ flags.toNat / 16 = 14 ∨
        trace.any (fun i => i == 0x0000#16 || i == 0xFFFF#16) = true := by
  unfold GradeMsg.ofBytes
  dsimp only
  rw [ht]
  dsimp only
  split
  · next h =>
    simp only [Bool.or_eq_true, bne_iff_ne, beq_iff_eq, decide_eq_true_eq, or_assoc] at h
    exact ⟨fun _ => h, fun _ => rfl⟩
  · next h =>
    simp only [Bool.or_eq_true, bne_iff_ne, beq_iff_eq, decide_eq_true_eq, or_assoc] at h
    exact ⟨nofun, fun hbad => absurd hbad h⟩

theorem ofBytes_eq_some {len flags count : Byte} {rest : List Byte} {bad : Bool} {trace : List NodeId} {m : GradeMsg}
    (ht : traceOfBytes rest.dropLast = some trace) (h : GradeMsg.ofBytes (len :: flags :: count :: rest) bad = some m) :
    m = { grade := flags.toNat / 16, holdover := flags.getLsbD 3, truncated := flags.getLsbD 2, trace := trace } := by
  unfold GradeMsg.ofBytes at h
  dsimp only at h
  rw [ht] at h
  dsimp only at h
  split at h
  · cases h
  · exact (Option.some.inj h).symm

theorem completeGradeBytes_iff {len : Byte} {rest : List Byte} :
    completeGradeBytes (len :: rest) = true ↔ gradeLengths.contains len.toNat = true ∧ rest.length = len.toNat := by
  rw [completeGradeBytes, Bool.and_eq_true, decide_eq_true_eq]

/-- Every message length is 3 and an even number (R22). -/
theorem gradeLengths_even {n : Nat} (h : gradeLengths.contains n = true) : ∃ k, n = 3 + 2 * (k + 1) := by
  simp only [gradeLengths, List.contains_cons, List.contains_nil, Bool.or_false, Bool.or_eq_true, beq_iff_eq] at h
  exact ⟨(n - 5) / 2, by omega⟩

theorem sendable_parts {m : GradeMsg} (h : m.sendable = true) :
    (1 ≤ m.trace.length ∧ m.trace.length ≤ 8) ∧ m.trace.any (fun i => i == 0x0000#16 || i == 0xFFFF#16) = false ∧
      (m.grade ≤ 12 ∨ m.grade = 15) := by
  unfold GradeMsg.sendable inRange at h
  simp only [Bool.and_eq_true, decide_eq_true_eq, List.all_eq_true, bne_iff_ne, Bool.or_eq_true, beq_iff_eq] at h
  obtain ⟨⟨hlen, htrace⟩, hgrade⟩ := h
  refine ⟨hlen, ?_, hgrade⟩
  rw [List.any_eq_false]
  intro i hi
  simpa using htrace i hi

/-- A message the part can send is read back. -/
theorem ofBytes_covered {m : GradeMsg} (h : m.sendable = true) :
    GradeMsg.ofBytes (m.covered ++ [crc8 m.covered]) false = some m := by
  obtain ⟨⟨h1, h8⟩, htrace, hgrade⟩ := sendable_parts h
  obtain ⟨hg, hh, ht⟩ := gradeFlagsByte_bits (m := m) (by omega)
  have hcrc : crc8 (m.covered ++ [crc8 m.covered]) = 0 := (crc8_append _ _).mpr rfl
  have hlen : (byte (3 + 2 * m.trace.length)).toNat = 3 + 2 * m.trace.length := byte_toNat (by omega)
  have hcount : (byte m.trace.length).toNat = m.trace.length := byte_toNat (by omega)
  have hback : traceOfBytes ((m.trace.flatMap nodeIdBytes) ++ [crc8 m.covered]).dropLast = some m.trace := by
    rw [List.dropLast_concat, traceOfBytes_flatMap]
  generalize crc8 m.covered = c at hcrc hback
  rw [GradeMsg.covered] at hcrc ⊢
  cases hread : GradeMsg.ofBytes (byte (3 + 2 * m.trace.length) :: gradeFlagsByte m :: byte m.trace.length ::
      m.trace.flatMap nodeIdBytes ++ [c]) false with
  | none =>
    have hnone := (ofBytes_eq_none hback).mp hread
    rw [hlen, hcount, hg, htrace] at hnone
    rcases hnone with hb | hb | hb | hb | hb | hb | hb | hb | hb
    · cases hb
    · exact absurd hcrc hb
    · exact absurd rfl hb
    · omega
    · omega
    · exact absurd rfl hb
    · omega
    · omega
    · cases hb
  | some m' =>
    rw [ofBytes_eq_some hback hread, hg, hh, ht]

/-- A trace ends before the CRC byte. -/
theorem reserved_dropLast {rest : List Byte} {n : Nat} (h : rest.length = 2 * n + 1) :
    (∃ k < n, ∃ hi lo, rest.dropLast[2 * k]? = some hi ∧ rest.dropLast[2 * k + 1]? = some lo ∧
        (hi = 0x00#8 ∧ lo = 0x00#8 ∨ hi = 0xFF#8 ∧ lo = 0xFF#8)) ↔
      ∃ k < n, ∃ hi lo, rest[2 * k]? = some hi ∧ rest[2 * k + 1]? = some lo ∧
        (hi = 0x00#8 ∧ lo = 0x00#8 ∨ hi = 0xFF#8 ∧ lo = 0xFF#8) := by
  refine exists_congr fun k => and_congr_right fun hk => ?_
  rw [List.getElem?_dropLast, List.getElem?_dropLast, if_pos (by omega), if_pos (by omega)]

/-- Settles O19. -/
theorem sentGradeMessagesAreReadBack : Obligations.SentGradeMessagesAreReadBack := by
  refine ⟨fun m h => ⟨m.covered ++ [crc8 m.covered], rfl, ?_, ofBytes_covered h⟩,
    fun bytes rest len flags count bad hbytes hcomplete => ?_⟩
  · obtain ⟨⟨h1, h8⟩, -, -⟩ := sendable_parts h
    have hlen := covered_length m
    rw [GradeMsg.covered, List.length_cons] at hlen
    rw [GradeMsg.covered, List.cons_append, completeGradeBytes_iff, List.length_append, byte_toNat (by omega)]
    refine ⟨?_, ?_⟩
    · simp only [gradeLengths, List.contains_cons, List.contains_nil, Bool.or_false, Bool.or_eq_true, beq_iff_eq]
      omega
    · rw [List.length_singleton]
      omega
  · subst hbytes
    obtain ⟨hlengths, hlen⟩ := completeGradeBytes_iff.mp hcomplete
    obtain ⟨k, hk⟩ := gradeLengths_even hlengths
    simp only [List.length_cons] at hlen
    obtain ⟨trace, htrace, hcount, hback, hany⟩ := exists_trace (bytes := rest.dropLast) (n := k + 1)
      (by rw [List.length_dropLast]; omega)
    refine ⟨?_, fun m hm => ?_⟩
    · have hzero : count.toNat = 0 ↔ count = 0 := by rw [← BitVec.toNat_inj]; rfl
      rw [ofBytes_eq_none htrace, Ne, crc8_eq_zero (by simp), hcount, hzero]
      by_cases hl : len.toNat = 3 + 2 * count.toNat
      · have hcounted : k + 1 = count.toNat := by omega
        rw [hcounted, reserved_dropLast (by omega)] at hany
        simp only [hcounted, hany, ne_eq, not_true, false_or]
      · simp only [ne_eq, hl, not_false_eq_true, true_or, or_true]
    · have hne : GradeMsg.ofBytes (len :: flags :: count :: rest) bad ≠ none := by rw [hm]; exact nofun
      rw [Ne, ofBytes_eq_none htrace] at hne
      simp only [not_or, not_not] at hne
      obtain ⟨-, -, -, -, -, hsame, -⟩ := hne
      rw [ofBytes_eq_some htrace hm]
      exact ⟨rfl, rfl, rfl, hsame, hback⟩

end Sys2Proof.Machine
end

section
/-!
PROOFS. A shelf that waits keeps its place in the queue while others move (R80 to R82), in a part where the pool need not be
sound: a move takes no other shelf out of the queue but to lend it a unit.
-/

namespace Sys2Proof.Machine

/-- The shelf stands in the queue if it waits (R79). -/
def State.placed (s : State) (x : ShelfId) : Prop := s.shelves[x].state.waits = true → x ∈ s.queue

/-- From `s` to `t` every shelf but `sh` that stood in the queue as it waited still does. -/
def KeepsPlaces (s t : State) (sh : ShelfId) : Prop := ∀ x : ShelfId, x ≠ sh → s.placed x → t.placed x

section
variable {s t u : State} {sh : ShelfId}

theorem KeepsPlaces.refl (s : State) (sh : ShelfId) : KeepsPlaces s s sh := fun _ _ => id

theorem KeepsPlaces.trans (h : KeepsPlaces s t sh) (k : KeepsPlaces t u sh) : KeepsPlaces s u sh :=
  fun x hx hs => k x hx (h x hx hs)

theorem SamePool.keepsPlaces (h : SamePool s t sh) : KeepsPlaces s t sh := fun x hx hs => by
  unfold State.placed at hs ⊢
  rwa [h.others x hx, h.queue]

/-! ## The pool -/

theorem keepsPlaces_lend (s : State) (sh : ShelfId) : KeepsPlaces s s.lend sh := fun x _ hs hw => by
  rcases (lend_lending s).shelves x with e | e
  · rw [e] at hw
    exact lendTimes_mem 6 (hs hw) hw e
  · rw [waits_of_isAcquire e.acquires.1] at hw
    cases hw

theorem keepsPlaces_leaveQueue (s : State) (sh : ShelfId) : KeepsPlaces s (s.leaveQueue sh) sh := fun _ hx hs hw =>
  List.mem_filter.mpr ⟨hs hw, bne_iff_ne.mpr hx⟩

theorem keepsPlaces_leaveAcquire (s : State) (sh : ShelfId) : KeepsPlaces s (s.leaveAcquire sh) sh := by
  have hreclaim : KeepsPlaces s (s.reclaim sh) sh := fun _ _ => id
  unfold State.leaveAcquire
  split
  · exact hreclaim.trans (keepsPlaces_lend _ _)
  · exact .refl s sh

theorem keepsPlaces_join (s : State) (sh : ShelfId) : KeepsPlaces s (s.join sh) sh := by
  have hqueued : KeepsPlaces s (s.queued sh) sh := fun x _ hs hw => by
    rw [queued_shelves] at hw
    unfold State.queued
    split
    · exact hs hw
    · exact List.mem_append_left _ (hs hw)
  rw [join_eq]
  exact hqueued.trans (keepsPlaces_lend _ _)

theorem keepsPlaces_enterState (s : State) (sh : ShelfId) (st : ShelfState) (cause : Option Cause) (e : Option DomainEvent) :
    KeepsPlaces s (s.enterState sh st cause e) sh := (samePool_enterState s sh st cause e).keepsPlaces

/-! ## The moves of a shelf -/

theorem keepsPlaces_toward (s : State) (sh : ShelfId) (p : PortId) (cause : Cause) : KeepsPlaces s (s.toward sh p cause) sh :=
  ((keepsPlaces_leaveAcquire s sh).trans (keepsPlaces_enterState _ _ _ _ _)).trans (keepsPlaces_join _ _)

theorem keepsPlaces_leavePool (s : State) (sh : ShelfId) : KeepsPlaces s ((s.leaveAcquire sh).leaveQueue sh) sh :=
  (keepsPlaces_leaveAcquire s sh).trans (keepsPlaces_leaveQueue _ _)

theorem keepsPlaces_rest (s : State) (sh : ShelfId) (cause : Cause) : KeepsPlaces s (s.rest sh cause) sh := by
  unfold State.rest
  rw [enterRest_eq]
  exact (keepsPlaces_leavePool s sh).trans (keepsPlaces_enterState _ _ _ _ _)

theorem keepsPlaces_reselect (s : State) (sh : ShelfId) (cause : Cause) : KeepsPlaces s (s.reselect sh cause) sh := by
  unfold State.reselect
  split
  · exact keepsPlaces_toward _ _ _ _
  · exact keepsPlaces_rest _ _ _

theorem keepsPlaces_park (s : State) (sh : ShelfId) (cause : Cause) : KeepsPlaces s (s.park sh cause) sh :=
  ((keepsPlaces_leavePool s sh).trans (keepsPlaces_enterState _ _ _ _ _)).trans (samePool_setShelf _ _ _).keepsPlaces

theorem keepsPlaces_gainPending (s : State) (sh : ShelfId) (c b : PortId) (cause : Cause) :
    KeepsPlaces s (s.gainPending sh c b cause) sh := (samePool_setShelf s sh _).keepsPlaces.trans (keepsPlaces_join _ _)

theorem keepsPlaces_dropPending (s : State) (sh : ShelfId) (c : PortId) : KeepsPlaces s (s.dropPending sh c) sh :=
  (samePool_setShelf s sh _).keepsPlaces.trans (keepsPlaces_leaveQueue _ _)

theorem keepsPlaces_bridge (s : State) (sh : ShelfId) (c : PortId) (cause : Cause) : KeepsPlaces s (s.bridge sh c cause) sh :=
  (keepsPlaces_leaveQueue s sh).trans (keepsPlaces_enterState _ _ _ _ _)

/-! ## Acting on a ranking -/

theorem keepsPlaces_applySwitchRule (s : State) (sh : ShelfId) (c : PortId) : KeepsPlaces s (s.applySwitchRule sh c) sh := by
  unfold State.applySwitchRule
  repeat' split
  · exact keepsPlaces_gainPending _ _ _ _ _
  · exact keepsPlaces_dropPending _ _ _
  · exact .refl s sh

theorem keepsPlaces_actQueued (s : State) (sh : ShelfId) (p : PortId) (x : Ctx) : KeepsPlaces s (s.actQueued sh p x) sh := by
  unfold State.actQueued
  repeat' split
  · exact keepsPlaces_reselect _ _ _
  · exact .refl s sh
  · exact keepsPlaces_enterState _ _ _ _ _
  · exact keepsPlaces_rest _ _ _

theorem keepsPlaces_actLocked (s : State) (sh : ShelfId) (c : PortId) (x : Ctx) : KeepsPlaces s (s.actLocked sh c x) sh := by
  unfold State.actLocked State.loseReference
  repeat' split
  · exact keepsPlaces_applySwitchRule _ _ _
  · exact keepsPlaces_reselect _ _ _
  · exact keepsPlaces_bridge _ _ _ _
  · exact keepsPlaces_reselect _ _ _

theorem keepsPlaces_actBridge (s : State) (sh : ShelfId) (c : PortId) (x : Ctx) : KeepsPlaces s (s.actBridge sh c x) sh := by
  unfold State.actBridge
  repeat' split
  · exact (keepsPlaces_enterState _ _ _ _ _).trans (keepsPlaces_applySwitchRule _ _ _)
  · exact .refl s sh
  · exact keepsPlaces_reselect _ _ _

theorem keepsPlaces_actAuto (s : State) (sh : ShelfId) (x : Ctx) : KeepsPlaces s (s.actAuto sh x) sh := by
  have htoward : ∀ cause, KeepsPlaces s (match s.choice sh with | some t => s.toward sh t cause | none => s) sh := fun cause => by
    split
    · exact keepsPlaces_toward _ _ _ _
    · exact .refl s sh
  unfold State.actAuto
  cases s.shelves[sh].state with
  | held _ => exact .refl s sh
  | parked => exact .refl s sh
  | freerun => exact htoward _
  | holdover _ => exact htoward _
  | queued t => exact keepsPlaces_actQueued s sh t x
  | acquire t _ =>
    dsimp only
    split
    · exact .refl s sh
    · exact keepsPlaces_reselect _ _ _
  | locked c _ => exact keepsPlaces_actLocked s sh c x
  | bridge c _ => exact keepsPlaces_actBridge s sh c x

theorem keepsPlaces_actUnsteered (s : State) (sh : ShelfId) (x : Ctx) : KeepsPlaces s (s.actUnsteered sh x) sh := by
  have hlose := (samePool_loseSteering s sh).keepsPlaces
  unfold State.actUnsteered
  dsimp only
  split
  · exact (hlose.trans (keepsPlaces_dropPending _ _ _)).trans (keepsPlaces_actAuto _ _ _)
  · exact hlose.trans (keepsPlaces_actAuto _ _ _)

theorem keepsPlaces_actSteer (s : State) (sh : ShelfId) (p : PortId) (x : Ctx) : KeepsPlaces s (s.actSteer sh p x) sh := by
  have hlost := keepsPlaces_actUnsteered s sh x
  unfold State.actSteer
  cases s.shelves[sh].state with
  | locked c _ =>
    dsimp only
    split_ifs
    · exact .refl s sh
    · exact keepsPlaces_bridge _ _ _ _
    · exact hlost
    · exact .refl s sh
    · exact keepsPlaces_toward _ _ _ _
    · exact hlost
  | bridge c _ =>
    dsimp only
    split_ifs
    · exact keepsPlaces_enterState _ _ _ _ _
    · exact .refl s sh
    · exact hlost
  | queued t =>
    dsimp only
    split
    · exact .refl s sh
    · exact hlost
  | acquire t _ =>
    dsimp only
    split
    · exact .refl s sh
    · exact hlost
  | _ => exact .refl s sh

theorem keepsPlaces_actPinActive (s : State) (sh : ShelfId) (p : PortId) (x : Ctx) :
    KeepsPlaces s (s.actPinActive sh p x) sh := by
  unfold State.actPinActive
  cases s.shelves[sh].state with
  | locked c _ =>
    dsimp only
    split
    · exact keepsPlaces_toward _ _ _ _
    · exact .refl s sh
  | bridge c _ =>
    dsimp only
    split
    · exact keepsPlaces_enterState _ _ _ _ _
    · exact .refl s sh
  | freerun => exact keepsPlaces_toward _ _ _ _
  | holdover _ => exact keepsPlaces_toward _ _ _ _
  | _ => exact .refl s sh

theorem keepsPlaces_actPinInactive (s : State) (sh : ShelfId) (p : PortId) (x : Ctx) :
    KeepsPlaces s (s.actPinInactive sh p x) sh := by
  unfold State.actPinInactive
  cases s.shelves[sh].state with
  | locked c _ =>
    dsimp only
    split
    · exact keepsPlaces_bridge _ _ _ _
    · exact keepsPlaces_rest _ _ _
  | queued _ => exact keepsPlaces_rest _ _ _
  | acquire _ _ => exact keepsPlaces_rest _ _ _
  | _ => exact .refl s sh

theorem keepsPlaces_act (s : State) (sh : ShelfId) (x : Ctx) : KeepsPlaces s (s.act sh x) sh := by
  unfold State.act
  split
  · exact keepsPlaces_actAuto _ _ _
  · exact keepsPlaces_actSteer _ _ _ _
  · unfold State.actPin
    split_ifs
    · exact keepsPlaces_actUnsteered _ _ _
    · exact keepsPlaces_actPinActive _ _ _ _
    · exact keepsPlaces_actPinInactive _ _ _ _

end

end Sys2Proof.Machine
end

section
/-!
PROOFS. What the turns of other shelves leave of a shelf in an apply (R82, R96): its record but for a grant, its place in the
queue, and the ground on which it takes its own turn: ranking inputs, settings and masks.
-/

namespace Sys2Proof.Machine

/-! ## The ground -/

/-- The two parts rank alike, agree on the oscillator and mask the same events. -/
structure SameGround (v w : State) : Prop where
  looks : LooksAlike v w
  osc : w.osc = v.osc
  masks : ∀ (d : DomainId) (k : DomainEvent), w.masked d k = v.masked d k

section
variable {s t u v w z : State} {sh x : ShelfId}

theorem SameGround.refl (s : State) : SameGround s s := ⟨looksAlike_refl s, rfl, fun _ _ => rfl⟩

theorem SameGround.trans (h : SameGround s t) (k : SameGround t u) : SameGround s u :=
  ⟨h.looks.trans k.looks, k.osc.trans h.osc, fun d e => (k.masks d e).trans (h.masks d e)⟩

theorem Consequences.ground (h : Consequences v w) (hm : ∀ (d : DomainId) (k : DomainEvent), w.masked d k = v.masked d k) :
    SameGround v w := ⟨h.sameInputs.looksAlike, h.osc, hm⟩

theorem SameGround.shelfDomain (h : SameGround v w) (sh : ShelfId) : w.shelfDomain sh = v.shelfDomain sh :=
  h.looks.shelfDomain sh

theorem SameGround.shelfRecord (h : SameGround v w) (sh : ShelfId) : w.shelfRecord sh = v.shelfRecord sh := by
  rw [State.shelfRecord, h.shelfDomain, h.looks.domains, State.shelfRecord]

theorem SameGround.settleMs (h : SameGround v w) (sh : ShelfId) : w.settleMs sh = v.settleMs sh := by
  rw [State.settleMs, h.shelfRecord, State.settleMs]

theorem SameGround.limitMs (h : SameGround v w) (sh : ShelfId) : w.limitMs sh = v.limitMs sh := by
  rw [State.limitMs, h.shelfRecord, State.limitMs]

theorem SameGround.shelfHoldOff (h : SameGround v w) (sh : ShelfId) : w.shelfHoldOff sh = v.shelfHoldOff sh := by
  rw [State.shelfHoldOff, h.shelfRecord, State.shelfHoldOff]

theorem SameGround.holdoverValid (h : SameGround v w) (hl : w.shelves[sh].learned = v.shelves[sh].learned) :
    w.holdoverValid sh = v.holdoverValid sh := by
  rw [State.holdoverValid, h.shelfRecord, h.osc, hl, State.holdoverValid]

theorem SameGround.switchWanted (h : SameGround v w) (sh : ShelfId) (c : PortId) :
    w.switchWanted sh c = v.switchWanted sh c := by
  unfold State.switchWanted
  rw [h.looks.eligibleList, h.shelfRecord]

/-- Raised from a part on the same ground. -/
theorem Raised.ground {k : DomainEvent} (h : Raised w t sh k) (hg : SameGround v w) : Raised v t sh k := fun d hd hm =>
  h d ((hg.shelfDomain sh).trans hd) ((hg.masks d k).trans hm)

theorem Raised.later {k : DomainEvent} (h : Raised v t sh k)
    (hl : ∀ (d : DomainId) (k : DomainEvent), t.latched d k = true → u.latched d k = true) : Raised v u sh k :=
  fun d hd hm => hl d k (h d hd hm)

/-! ## The turns of others -/

/-- What turns of other shelves from `v` to `w` leave of shelf `x`. -/
structure Passes (v w : State) (x : ShelfId) : Prop where
  ground : SameGround v w
  latched : ∀ (d : DomainId) (k : DomainEvent), v.latched d k = true → w.latched d k = true
  shelf : w.shelves[x] = v.shelves[x] ∨ Lent v w x
  queue : x ∈ w.queue → x ∈ v.queue
  placed : v.placed x → w.placed x
  switched : v.shelves[x].state.isLocked = true → w.shelves[x].state ≠ v.shelves[x].state → Raised v w x .switch

theorem Passes.refl (v : State) (x : ShelfId) : Passes v v x :=
  ⟨.refl v, fun _ _ => id, .inl rfl, id, id, fun _ h => absurd rfl h⟩

theorem Lent.after_ground (h : Lent w z x) (hg : SameGround v w) (hq : x ∈ v.queue) (hs : w.shelves[x] = v.shelves[x]) :
    Lent v z x := by
  obtain ⟨-, ⟨p, hst, hz⟩ | ⟨c, p, cause, hst, hz⟩⟩ := h.cases <;> rw [hs] at hst hz <;> rw [hg.settleMs] at hz
  · exact .queued hq hst hz
  · exact .locked hq hst hz

theorem Passes.trans (h : Passes v w x) (k : Passes w z x) : Passes v z x where
  ground := h.ground.trans k.ground
  latched := fun d e hd => k.latched d e (h.latched d e hd)
  shelf := by
    rcases h.shelf with e | e <;> rcases k.shelf with e' | e'
    · exact .inl (e'.trans e)
    · exact .inr (e'.after_ground h.ground (h.queue e'.1) e)
    · exact .inr (e.same e')
    · exact absurd e.acquires.1 (by rw [e'.acquires.2]; exact Bool.false_ne_true)
  queue := fun hz => h.queue (k.queue hz)
  placed := fun hv => k.placed (h.placed hv)
  switched := fun hl hne => by
    by_cases e : w.shelves[x].state = v.shelves[x].state
    · rw [← e] at hl hne
      exact (k.switched hl hne).ground h.ground
    · exact (h.switched hl e).later k.latched

theorem Passes.foldl {f : State → ShelfId → State} (hf : ∀ v sh, x ≠ sh → Passes v (f v sh) x) (l : List ShelfId)
    (hx : x ∉ l) (v : State) : Passes v (l.foldl f v) x := by
  induction l generalizing v with
  | nil => exact .refl v x
  | cons sh rest ih =>
    rw [List.mem_cons, not_or] at hx
    exact (hf v sh hx.1).trans (ih hx.2 _)

theorem Passes.undisturbed (h : Passes v w x) : Undisturbed v w x := by
  rcases h.shelf with e | e
  · exact .inl ⟨by rw [e], .inl (by rw [e])⟩
  · exact .inr e

theorem Passes.grantedAtMost (h : Passes v w x) : GrantedAtMost v w x := by
  rcases h.shelf with e | e
  · exact ⟨by rw [e], .inl (by rw [e])⟩
  · exact e.grantedAtMost

/-- What no lending changes of a shelf. -/
theorem Passes.fields (h : Passes v w x) : w.shelves[x].steering = v.shelves[x].steering ∧
    w.shelves[x].learned = v.shelves[x].learned ∧ w.shelves[x].state.isHeld = v.shelves[x].state.isHeld := by
  rcases h.shelf with e | e
  · rw [e]
    exact ⟨rfl, rfl, rfl⟩
  · exact ⟨e.kept.1, e.kept.2.1, e.kept.2.2.1⟩

/-- A shelf that does not wait is not lent a unit. -/
theorem Passes.shelf_of_not_waits (h : Passes v w x) (hw : v.shelves[x].state.waits = false) : w.shelves[x] = v.shelves[x] := by
  refine h.shelf.resolve_right fun e => ?_
  obtain ⟨-, ⟨p, hs, -⟩ | ⟨c, p, cause, hs, -⟩⟩ := e.cases <;> rw [hs] at hw <;> cases hw

theorem Passes.holdoverValid (h : Passes v w x) : w.holdoverValid x = v.holdoverValid x :=
  h.ground.holdoverValid h.fields.2.1

/-! ## The turns of an apply -/

theorem Moved.ground {K : List DomainEvent} (h : Moved v w sh K) : SameGround v w :=
  h.moves.consequences.ground fun d k => (h.events d k).1

theorem Moved.latched {K : List DomainEvent} (h : Moved v w sh K) (d : DomainId) (k : DomainEvent)
    (hl : v.latched d k = true) : w.latched d k = true := (h.events d k).2.mpr (.inl hl)

theorem Moved.passes {K : List DomainEvent} (h : Moved v w sh K) (k : KeepsPlaces v w sh) (hx : x ≠ sh) : Passes v w x where
  ground := h.ground
  latched := h.latched
  shelf := h.others x hx
  queue := h.queue x hx
  placed := k x hx
  switched := fun hl hne d hd hm => by
    rcases h.others x hx with e | e
    · exact absurd (congrArg Shelf.state e) hne
    · exact (h.events d .switch).2.mpr (.inr ⟨hm, .inr ⟨x, hx, hd, (e.raises .switch).mpr ⟨rfl, hl⟩⟩⟩)

theorem SamePool.passes (h : SamePool v w sh) (hg : SameGround v w)
    (hl : ∀ (d : DomainId) (k : DomainEvent), v.latched d k = true → w.latched d k = true) (hx : x ≠ sh) : Passes v w x where
  ground := hg
  latched := hl
  shelf := .inl (h.others x hx)
  queue := fun hw => by rwa [h.queue] at hw
  placed := h.keepsPlaces x hx
  switched := fun _ hne => absurd (congrArg Shelf.state (h.others x hx)) hne

/-- What parking makes of the rest of the part once the pool is left (R101). -/
theorem park_after_pool (v : State) (sh : ShelfId) (cause : Cause) :
    SamePool ((v.leaveAcquire sh).leaveQueue sh) (v.park sh cause) sh ∧
      (v.park sh cause).domainEvents = ((v.leaveAcquire sh).leaveQueue sh).domainEvents :=
  ⟨(samePool_enterState ..).trans (samePool_setShelf _ sh _), rfl⟩

theorem passes_park (v : State) (cause : Cause) (hx : x ≠ sh) : Passes v (v.park sh cause) x := by
  have hpool := (moved_leavePool v sh).passes (keepsPlaces_leavePool v sh) hx
  have hcons : Consequences v (v.park sh cause) := (moves_park v sh cause).consequences
  obtain ⟨hsame, hevents⟩ := park_after_pool v sh cause
  have hleave : Consequences v ((v.leaveAcquire sh).leaveQueue sh) := (moved_leavePool v sh).moves.consequences
  have hmasks : ∀ (d : DomainId) (k : DomainEvent),
      (v.park sh cause).masked d k = ((v.leaveAcquire sh).leaveQueue sh).masked d k := fun d k => by
    rw [State.masked, hevents, State.masked]
  refine hpool.trans (hsame.passes ⟨?_, hcons.osc.trans hleave.osc.symm, hmasks⟩ (fun d k hl => ?_) hx)
  · exact hleave.sameInputs.looksAlike.symm.trans hcons.sameInputs.looksAlike
  · rw [State.latched, hevents]
    exact hl

theorem moved_movedOut (v : State) (sh : ShelfId) : ∃ K, Moved v (v.movedOut sh) sh K := by
  unfold State.movedOut
  split
  · exact ⟨_, .refl v sh⟩
  · exact ⟨_, moved_loseSteering v sh⟩

theorem passes_act (v : State) (c : Ctx) (hx : x ≠ sh) : Passes v (v.act sh c) x := by
  obtain ⟨K, hm⟩ := moved_act v sh c
  exact hm.passes (keepsPlaces_act v sh c) hx

theorem passes_moveShelf (old v : State) (hx : x ≠ sh) : Passes v (State.moveShelf old v sh) x := by
  obtain ⟨K, hout⟩ := moved_movedOut v sh
  have hbegin : Passes v (v.movedOut sh) x := hout.passes (samePool_movedOut v sh).keepsPlaces hx
  rcases moveShelf_cases old v sh with ⟨e, -⟩ | ⟨hheld, ⟨-, e⟩ | ⟨-, cause, e⟩ | ⟨e, -⟩⟩ <;> rw [e]
  · exact hbegin
  · exact hbegin.trans (passes_park _ .partition hx)
  · exact hbegin.trans ((moved_reselect (hout.held.trans hheld) cause).passes (keepsPlaces_reselect _ _ _) hx)
  · obtain ⟨L, hm, -⟩ := acts_actAuto (s := v.movedOut sh) (sh := sh) (by rw [movedOut_shelf]) Ctx.failing
    exact hbegin.trans (hm.passes (keepsPlaces_actAuto _ _ _) hx)

theorem passes_keepShelf (old v : State) (hx : x ≠ sh) : Passes v (State.keepShelf old v sh) x := by
  unfold State.keepShelf
  split
  · split
    · exact passes_act v _ hx
    · obtain ⟨K, hm, -⟩ := moved_actUnsteered v sh { forced := some .partition, strict := true, ceased := false }
      exact hm.passes (keepsPlaces_actUnsteered _ _ _) hx
  · exact passes_act v _ hx

theorem passes_applyToShelf (old v : State) (hx : x ≠ sh) : Passes v (State.applyToShelf old v sh) x := by
  unfold State.applyToShelf
  split
  · exact passes_keepShelf old v hx
  · exact passes_moveShelf old v hx

/-- The turns of others in an apply. -/
theorem passes_turns (old : State) {l : List ShelfId} (hx : x ∉ l) (v : State) :
    Passes v (l.foldl (State.applyToShelf old) v) x :=
  .foldl (fun v _ hne => passes_applyToShelf old v hne) l hx v

end

end Sys2Proof.Machine
end

section
/-!
PROOFS. How what a shelf does in its turn of an apply is seen from before the turns, and what the turns after its own, the
judgement of R109 and the refresh leave of it.
-/

namespace Sys2Proof.Machine

section
variable {s t u v w z b : State} {sh : ShelfId}

/-! ## From before the turn -/

/-- Shelf `sh` begins a move in `b` as in `v`: the same ground and learned time, and QUEUED only where it was. -/
structure Begins (v b : State) (sh : ShelfId) : Prop where
  ground : SameGround v b
  learned : b.shelves[sh].learned = v.shelves[sh].learned
  queued : v.shelves[sh].state.isQueued = false → b.shelves[sh].state.isQueued = false

theorem Begins.trans (h : Begins v w sh) (k : Begins w b sh) : Begins v b sh :=
  ⟨h.ground.trans k.ground, k.learned.trans h.learned, fun e => k.queued (h.queued e)⟩

theorem Passes.begins (h : Passes v w sh) : Begins v w sh := by
  refine ⟨h.ground, h.fields.2.1, fun hq => ?_⟩
  rcases h.shelf with e | e
  · rwa [e]
  · have hacq := e.acquires.1
    cases hs : w.shelves[sh].state with
    | acquire p left => rfl
    | _ => rw [hs] at hacq; cases hacq

theorem begins_movedOut (v : State) (sh : ShelfId) : Begins v (v.movedOut sh) sh := by
  obtain ⟨K, hm⟩ := moved_movedOut v sh
  exact ⟨hm.ground, hm.learned, fun h => by rwa [movedOut_shelf]⟩

theorem unpended_isQueued (st : ShelfState) : st.unpended.isQueued = st.isQueued := by
  unfold ShelfState.unpended
  split <;> rfl

theorem begins_unsteered (v : State) (sh : ShelfId) : Begins v ((v.unsteered sh).raiseShelf sh .steerLost) sh := by
  have hm := moved_unsteered v sh
  refine ⟨hm.ground, hm.learned, fun h => ?_⟩
  rw [unsteered_shelf]
  exact (unpended_isQueued _).trans h

theorem GoesToward.begin {p : PortId} {cause : Cause} (h : GoesToward b t sh p cause) (k : Begins v b sh) :
    GoesToward v t sh p cause := by
  obtain ⟨hstate, hcause, hchanged, hraised⟩ := h
  rw [k.ground.settleMs] at hstate
  exact ⟨hstate, hcause, hchanged, fun e => (hraised (k.queued e)).ground k.ground⟩

theorem Rests.begin {cause : Cause} (h : Rests b t sh cause) (k : Begins v b sh) : Rests v t sh cause := by
  obtain ⟨hstate, hcause, hchanged, hmem, hraised⟩ := h
  rw [k.ground.holdoverValid k.learned] at hstate hraised
  rw [k.ground.limitMs] at hstate
  exact ⟨hstate, hcause, hchanged, hmem, hraised.ground k.ground⟩

theorem Reselects.begin {choice : Option PortId} {cause : Cause} (h : Reselects b t sh choice cause) (k : Begins v b sh) :
    Reselects v t sh choice cause := by
  cases choice with
  | some p => exact GoesToward.begin h k
  | none => exact Rests.begin h k

theorem Bridges.begin {c : PortId} {cause : Cause} (h : Bridges b t sh c cause) (k : Begins v b sh) :
    Bridges v t sh c cause := by
  obtain ⟨hstate, hcause, hchanged, hmem, hraised⟩ := h
  rw [k.ground.shelfHoldOff] at hstate
  exact ⟨hstate, hcause, hchanged, hmem, hraised.ground k.ground⟩

theorem AppliesSwitchRule.begin {c : PortId} (h : AppliesSwitchRule b t sh c) (k : Begins v b sh)
    (hc : b.shelves[sh].lastCause = v.shelves[sh].lastCause) : AppliesSwitchRule v t sh c := by
  unfold AppliesSwitchRule at h ⊢
  rw [k.ground.switchWanted] at h
  cases hw : v.switchWanted sh c with
  | none =>
    rw [hw] at h
    exact ⟨h.1, h.2.trans hc⟩
  | some pair =>
    rw [hw] at h
    rcases h with ⟨hst, hcause, hmem⟩ | ⟨hst, hcause, hchanged, hraised⟩
    · exact .inl ⟨hst, hcause.trans hc, hmem⟩
    · exact .inr ⟨by rw [hst, k.ground.settleMs], hcause, hchanged, hraised.ground k.ground⟩

/-! ## The judgement -/

theorem judgedState_of_active (hh : w.shelves[sh].state.isHoldover = false) (hf : w.shelves[sh].state.isFreerun = false) :
    w.judgedState sh = w.shelves[sh].state := by
  unfold State.judgedState
  rw [hh, hf, if_neg (fun h => Bool.false_ne_true h.1), if_neg fun h => Bool.false_ne_true h.1]

theorem judgedState_ground (hg : SameGround v w) (hs : w.shelves[sh] = v.shelves[sh]) : w.judgedState sh = v.judgedState sh := by
  unfold State.judgedState
  rw [hs, hg.holdoverValid (by rw [hs]), hg.limitMs]

theorem resting {st : ShelfState} (h : st.isHoldover = true ∨ st.isFreerun = true) : st.isHeld = false ∧ st.waits = false := by
  cases st <;> simp_all [ShelfState.isHeld, ShelfState.waits, ShelfState.isHoldover, ShelfState.isFreerun, ShelfState.isQueued,
    ShelfState.pending?]

/-- What the judgement makes of a shelf at rest (R109). -/
theorem judgedState_of_rest (h : w.shelves[sh].state.isHoldover = true ∨ w.shelves[sh].state.isFreerun = true) :
    w.judgedState sh = if w.holdoverValid sh = w.shelves[sh].state.isHoldover then w.shelves[sh].state
      else if w.holdoverValid sh = true then .holdover (w.limitMs sh) else .freerun := by
  unfold State.judgedState
  rcases h with h | h
  · obtain ⟨left, e⟩ := isHoldover_iff.mp h
    rw [e]
    cases w.holdoverValid sh <;> rfl
  · rw [isFreerun_iff.mp h]
    cases w.holdoverValid sh <;> rfl

/-- Where the judgement takes a shelf, its event is raised (R78). -/
theorem judged_raised (k : ShelvesKept z.judgeShelves t)
    (hr : z.shelves[sh].state.isHoldover = true ∨ z.shelves[sh].state.isFreerun = true)
    (hne : z.holdoverValid sh ≠ z.shelves[sh].state.isHoldover) :
    Raised z t sh (if z.holdoverValid sh = true then .holdover else .freerun) := by
  intro d hd hm
  have hnot := (resting hr).1
  have hstate : t.shelves[sh].state = z.judgedState sh := by rw [(judged_shelf k sh).2 hnot]; rfl
  refine ((eventsOfMoves_judged k) d _).2.mpr (.inr ⟨hm, sh, hd, ?_⟩)
  rw [hstate, judgedState_of_rest hr, if_neg hne]
  rcases hr with h | h
  · obtain ⟨left, e⟩ := isHoldover_iff.mp h
    rw [e] at hne ⊢
    cases hv : z.holdoverValid sh with
    | true => exact absurd hv hne
    | false => rfl
  · have e := isFreerun_iff.mp h
    rw [e] at hne ⊢
    cases hv : z.holdoverValid sh with
    | true => rfl
    | false => exact absurd hv hne

/-- What is left to do for a shelf when every turn has been taken (R109). -/
theorem judgedAfterTurns (k : ShelvesKept z.judgeShelves t) (sh : ShelfId) : JudgedAfterTurns z t sh := by
  obtain ⟨hheld, hnot⟩ := judged_shelf k sh
  unfold JudgedAfterTurns
  split
  · next hr =>
    have hrec := hnot (resting hr).1
    have hstate : t.shelves[sh].state = z.judgedState sh := by rw [hrec]; rfl
    have hchanged : t.shelves[sh].changed = (z.shelves[sh].changed || z.judgedState sh != z.shelves[sh].state) := by
      rw [hrec]
      rfl
    have hjudged := judgedState_of_rest hr
    refine ⟨⟨by rw [hrec]; rfl, ?_⟩, ?_⟩
    · split
      · next hv =>
        rw [if_pos hv] at hjudged
        refine ⟨hstate.trans hjudged, ?_⟩
        rw [hchanged, hjudged, bne_self_eq_false, Bool.or_false]
      · next hv =>
        have hnew := judged_raised k hr hv
        rw [if_neg hv] at hjudged
        refine ⟨hstate.trans hjudged, ?_, hnew⟩
        rw [hchanged, Bool.or_eq_true, bne_iff_ne]
        refine .inr fun e => hv ?_
        rw [← e, hjudged]
        cases z.holdoverValid sh <;> rfl
    · rw [hstate, hchanged]
      exact hrec
  · next hr =>
    rw [not_or, Bool.not_eq_true, Bool.not_eq_true] at hr
    cases hh : z.shelves[sh].state.isHeld with
    | true => exact hheld hh
    | false =>
      have hrec := hnot hh
      have hsame : z.judgedShelf sh = z.shelves[sh] := judgedShelf_same (judgedState_of_active hr.1 hr.2)
      rw [hsame] at hrec
      refine ⟨?_, .inl (by rw [hrec])⟩
      rw [hrec]

end

end Sys2Proof.Machine
end

section
/-!
PROOFS. How what a shelf has done by the end of its turn in an apply is found at the end: after the turns of others, the
judgement of R109 and the refresh.
-/

namespace Sys2Proof.Machine

/-- From `w` to `t` other shelves have their turns, every record is judged (R109), and validity and nominees follow. -/
def Ends (w t : State) (sh : ShelfId) : Prop := ∃ z : State, Passes w z sh ∧ ShelvesKept z.judgeShelves t

section
variable {s t u v w z b : State} {sh : ShelfId}

theorem Ends.latched (h : Ends w t sh) (d : DomainId) (k : DomainEvent) (hl : w.latched d k = true) : t.latched d k = true := by
  obtain ⟨z, hz, hk⟩ := h
  exact ((eventsOfMoves_judged hk) d k).2.mpr (.inl (hz.latched d k hl))

theorem Ends.raised {k : DomainEvent} (h : Ends w t sh) (hr : Raised v w sh k) : Raised v t sh k := hr.later h.latched

theorem judged_queue (k : ShelvesKept z.judgeShelves t) : t.units = z.units ∧ t.queue = z.queue := by
  obtain ⟨hunits, hqueue, -, -⟩ := k
  obtain ⟨hu, hq⟩ := poolStays_judgeShelves z
  exact ⟨hunits.trans hu, hqueue.trans hq⟩

theorem Ends.queue (h : Ends w t sh) (hn : sh ∉ w.queue) : sh ∉ t.queue := by
  obtain ⟨z, hz, hk⟩ := h
  rw [(judged_queue hk).2]
  exact fun hm => hn (hz.queue hm)

/-- The fields no lending and no judgement touch. -/
theorem Ends.fields (h : Ends w t sh) : t.shelves[sh].steering = w.shelves[sh].steering ∧
    t.shelves[sh].learned = w.shelves[sh].learned ∧ t.shelves[sh].state.isHeld = w.shelves[sh].state.isHeld := by
  obtain ⟨z, hz, hk⟩ := h
  obtain ⟨hst, hl, hh⟩ := hz.fields
  rw [← hst, ← hl, ← hh]
  obtain ⟨hheld, hnot⟩ := judged_shelf hk sh
  cases e : z.shelves[sh].state.isHeld with
  | true =>
    have hkept := hheld e
    exact ⟨hkept.fields.1, hkept.fields.2.1, hkept.isHeld.trans e⟩
  | false =>
    rw [hnot e]
    exact ⟨rfl, rfl, (judgedState_isHeld z sh).trans e⟩

theorem Ends.held (h : Ends w t sh) (hh : w.shelves[sh].state.isHeld = true) : ShelfKept w t sh := by
  obtain ⟨z, hz, hk⟩ := h
  have hsame : z.shelves[sh] = w.shelves[sh] := hz.shelf_of_not_waits (by rw [held_nominee hh]; rfl)
  have hkept := (judged_shelf hk sh).1 (by rw [hsame]; exact hh)
  unfold ShelfKept at hkept ⊢
  rwa [hsame] at hkept

/-- A shelf that is not HELD and whose state needs no judgement keeps its record, but for a grant. -/
theorem Ends.record (h : Ends w t sh) (hh : w.shelves[sh].state.isHeld = false)
    (hj : w.judgedState sh = w.shelves[sh].state) :
    t.shelves[sh] = { w.shelves[sh] with valid := t.shelves[sh].valid } ∨ Lent w t sh := by
  obtain ⟨z, hz, hk⟩ := h
  have hnot := (judged_shelf hk sh).2 (hz.fields.2.2.trans hh)
  rcases hz.shelf with e | e
  · refine .inl ?_
    have hsame : z.judgedShelf sh = z.shelves[sh] := judgedShelf_same (by rw [judgedState_ground hz.ground e, hj, e])
    rwa [hsame, e] at hnot
  · have hacq := e.acquires.1
    have hsame : z.judgedShelf sh = z.shelves[sh] := by
      refine judgedShelf_same (judgedState_of_active ?_ ?_) <;>
        cases hs : z.shelves[sh].state <;> first | rfl | (rw [hs] at hacq; cases hacq)
    rw [hsame] at hnot
    refine .inr ?_
    obtain ⟨hq, ⟨p, hs, hz'⟩ | ⟨c, p, cause, hs, hz'⟩⟩ := e.cases
    · refine .queued hq hs ?_
      rw [hnot, hz']
    · refine .locked hq hs ?_
      rw [hnot, hz']

/-- A shelf that does not wait either keeps its record. -/
theorem Ends.kept (h : Ends w t sh) (hh : w.shelves[sh].state.isHeld = false)
    (hj : w.judgedState sh = w.shelves[sh].state) (hw : w.shelves[sh].state.waits = false) :
    t.shelves[sh] = { w.shelves[sh] with valid := t.shelves[sh].valid } := by
  refine (h.record hh hj).resolve_right fun e => ?_
  obtain ⟨-, ⟨p, hs, -⟩ | ⟨c, p, cause, hs, -⟩⟩ := e.cases <;> rw [hs] at hw <;> cases hw

/-- A state that R109 does not judge and that is not HELD. -/
def ShelfState.active (st : ShelfState) : Bool := st.isQueued || st.isAcquire || st.isLocked || st.isBridge || st.isParked

theorem active_iff {st : ShelfState} : st.active = true ↔
    st.isHeld = false ∧ st.isHoldover = false ∧ st.isFreerun = false := by
  cases st <;> simp [ShelfState.active, ShelfState.isHeld, ShelfState.isHoldover, ShelfState.isFreerun, ShelfState.isQueued,
    ShelfState.isAcquire, ShelfState.isLocked, ShelfState.isBridge, ShelfState.isParked]

theorem Ends.active (h : Ends w t sh) (ha : w.shelves[sh].state.active = true) :
    t.shelves[sh] = { w.shelves[sh] with valid := t.shelves[sh].valid } ∨ Lent w t sh := by
  obtain ⟨hh, hho, hf⟩ := active_iff.mp ha
  exact h.record hh (judgedState_of_active hho hf)

/-- A shelf that neither waits nor rests keeps its record. -/
theorem Ends.stays (h : Ends w t sh) (ha : w.shelves[sh].state.active = true) (hw : w.shelves[sh].state.waits = false) :
    t.shelves[sh] = { w.shelves[sh] with valid := t.shelves[sh].valid } := by
  obtain ⟨hh, hho, hf⟩ := active_iff.mp ha
  exact h.kept hh (judgedState_of_active hho hf) hw

/-! ## The ends of a turn -/

theorem Ends.goesToward {p : PortId} {cause : Cause} (h : Ends w t sh) (hg : SameGround v w) (k : GoesToward v w sh p cause) :
    GoesToward v t sh p cause := by
  obtain ⟨hstate, hcause, hchanged, hraised⟩ := k
  have hlater := fun hq => h.raised (hraised hq)
  rcases hstate with hs | hs
  · rcases h.active (by rw [hs]; rfl) with e | e
    · rw [GoesToward, e]
      exact ⟨.inl hs, hcause, hchanged, hlater⟩
    · obtain ⟨-, ⟨q, hs', e'⟩ | ⟨c, q, cause', hs', -⟩⟩ := e.cases <;> rw [hs] at hs'
      · cases hs'
        rw [GoesToward, e', hg.settleMs]
        exact ⟨.inr rfl, hcause, rfl, hlater⟩
      · cases hs'
  · rw [GoesToward, h.stays (by rw [hs]; rfl) (by rw [hs]; rfl)]
    exact ⟨.inr hs, hcause, hchanged, hlater⟩

theorem Ends.rests {cause : Cause} (h : Ends w t sh) (hv : w.holdoverValid sh = v.holdoverValid sh)
    (k : Rests v w sh cause) : Rests v t sh cause := by
  obtain ⟨hstate, hcause, hchanged, hmem, hraised⟩ := k
  have hheld : w.shelves[sh].state.isHeld = false := by
    rw [hstate]
    split <;> rfl
  have hrest : w.shelves[sh].state.isHoldover = true ∨ w.shelves[sh].state.isFreerun = true := by
    rw [hstate]
    cases v.holdoverValid sh with
    | true => exact .inl rfl
    | false => exact .inr rfl
  have hjudged : w.judgedState sh = w.shelves[sh].state := by
    rw [judgedState_of_rest hrest, if_pos]
    rw [hv, hstate]
    cases v.holdoverValid sh <;> rfl
  have hwaits : w.shelves[sh].state.waits = false := by
    rw [hstate]
    split <;> rfl
  rw [Rests, h.kept hheld hjudged hwaits]
  exact ⟨hstate, hcause, hchanged, h.queue hmem, h.raised hraised⟩

theorem Ends.reselects {choice : Option PortId} {cause : Cause} (h : Ends w t sh) (hg : SameGround v w)
    (hl : w.shelves[sh].learned = v.shelves[sh].learned) (k : Reselects v w sh choice cause) :
    Reselects v t sh choice cause := by
  cases choice with
  | some p => exact h.goesToward hg k
  | none => exact h.rests (hg.holdoverValid hl) k

theorem Ends.bridges {c : PortId} {cause : Cause} (h : Ends w t sh) (k : Bridges v w sh c cause) :
    Bridges v t sh c cause := by
  obtain ⟨hstate, hcause, hchanged, hmem, hraised⟩ := k
  rw [Bridges, h.stays (by rw [hstate]; rfl) (by rw [hstate]; rfl)]
  exact ⟨hstate, hcause, hchanged, h.queue hmem, h.raised hraised⟩

theorem Ends.granted {p : PortId} {cause : Option Cause} (h : Ends w t sh) (k : Granted v w sh p cause) :
    Granted v t sh p cause := by
  obtain ⟨hstate, hcause, hchanged⟩ := k
  rw [Granted, h.stays (by rw [hstate]; rfl) (by rw [hstate]; rfl)]
  exact ⟨hstate, hcause, hchanged⟩

/-- A shelf that waits for its switch is found waiting, in the queue, or lent a unit with SWITCH raised (R96). -/
theorem Ends.pending {c p : PortId} {cause : Cause} (h : Ends w t sh) (hs : w.shelves[sh].state = .locked c (some (p, cause)))
    (hmem : sh ∈ w.queue) :
    (t.shelves[sh] = { w.shelves[sh] with valid := t.shelves[sh].valid } ∧ sh ∈ t.queue) ∨
      (t.shelves[sh].state = .acquire p (w.settleMs sh) ∧ t.shelves[sh].lastCause = some cause ∧
        t.shelves[sh].changed = true ∧ Raised w t sh .switch) := by
  rcases h.active (by rw [hs]; rfl) with e | e
  · refine .inl ⟨e, ?_⟩
    obtain ⟨z, hz, hk⟩ := h
    rw [(judged_queue hk).2]
    refine hz.placed (fun _ => hmem) ?_
    rcases hz.shelf with e' | e'
    · rw [e', hs]
      rfl
    · have hacq := e'.acquires.1
      have hstate : t.shelves[sh].state = z.judgedState sh := by
        rw [(judged_shelf hk sh).2 (hz.fields.2.2.trans (by rw [hs]; rfl))]
        rfl
      rw [judgedState_of_active (by cases hz : z.shelves[sh].state <;> first | rfl | (rw [hz] at hacq; cases hacq))
        (by cases hz : z.shelves[sh].state <;> first | rfl | (rw [hz] at hacq; cases hacq)), e] at hstate
      rw [← hstate, hs] at hacq
      cases hacq
  · refine .inr ?_
    obtain ⟨-, ⟨q, hs', -⟩ | ⟨c', q, cause', hs', e'⟩⟩ := e.cases <;> rw [hs] at hs'
    · cases hs'
    · cases hs'
      rw [e']
      refine ⟨rfl, rfl, rfl, ?_⟩
      obtain ⟨z, hz, hk⟩ := h
      refine Raised.later (hz.switched (by rw [hs]; rfl) fun hsame => ?_) fun d k hl =>
        ((eventsOfMoves_judged hk) d k).2.mpr (.inl hl)
      have hnot := (judged_shelf hk sh).2 (hz.fields.2.2.trans (by rw [hs]; rfl))
      have hstate : t.shelves[sh].state = z.judgedState sh := by
        rw [hnot]
        rfl
      rw [judgedState_of_active (by rw [hsame, hs]; rfl) (by rw [hsame, hs]; rfl), hsame, e', hs] at hstate
      cases hstate

theorem Ends.appliesSwitchRule {c : PortId} (h : Ends w t sh) (hg : SameGround v w) (k : AppliesSwitchRule v w sh c) :
    AppliesSwitchRule v t sh c := by
  unfold AppliesSwitchRule at k ⊢
  cases hw : v.switchWanted sh c with
  | none =>
    rw [hw] at k
    obtain ⟨hstate, hcause⟩ := k
    dsimp only
    rw [h.stays (by rw [hstate]; rfl) (by rw [hstate]; rfl)]
    exact ⟨hstate, hcause⟩
  | some pair =>
    rw [hw] at k
    rcases k with ⟨hstate, hcause, hmem⟩ | ⟨hstate, hcause, hchanged, hraised⟩
    · rcases h.pending hstate hmem with ⟨e, hq⟩ | ⟨hst, hc, hch, hr⟩
      · refine .inl ⟨?_, ?_, hq⟩ <;> rw [e]
        · exact hstate
        · exact hcause
      · exact .inr ⟨by rw [hst, hg.settleMs], hc, hch, hr.ground hg⟩
    · refine .inr ?_
      rw [h.stays (by rw [hstate]; rfl) (by rw [hstate]; rfl)]
      exact ⟨hstate, hcause, hchanged, h.raised hraised⟩

/-- A shelf at rest that its turn has not moved has its record judged (R109). -/
theorem Ends.judged (h : Ends w t sh) (hg : SameGround v w) (hr : w.shelves[sh].state.isHoldover = true ∨ w.shelves[sh].state.isFreerun = true)
    (hs : w.shelves[sh].state = v.shelves[sh].state) (hc : w.shelves[sh].lastCause = v.shelves[sh].lastCause)
    (hch : w.shelves[sh].changed = v.shelves[sh].changed) (hl : w.shelves[sh].learned = v.shelves[sh].learned) :
    Judged v t sh := by
  obtain ⟨z, hz, hk⟩ := h
  have hsame := hz.shelf_of_not_waits (resting hr).2
  have hjudged := judgedAfterTurns hk sh
  rw [JudgedAfterTurns, hsame, if_pos hr] at hjudged
  obtain ⟨⟨hcause, hstate⟩, -⟩ := hjudged
  rw [hsame, hz.holdoverValid, hz.ground.limitMs, hg.holdoverValid hl, hg.limitMs, hs, hch] at hstate
  rw [hsame] at hcause
  refine ⟨hcause.trans hc, ?_⟩
  split at hstate
  · next hv =>
    rw [if_pos hv]
    exact hstate
  · next hv =>
    obtain ⟨hst, hch', hraised⟩ := hstate
    rw [if_neg hv]
    exact ⟨hst, hch', hraised.ground (hg.trans hz.ground)⟩

end

end Sys2Proof.Machine
end

section
/-!
PROOFS. A shelf that changes its domain in an apply takes its turn (R47): it loses its steering, stays HELD, parks, reselects
or acts as a shelf at rest.
-/

namespace Sys2Proof.Machine

section
variable {s t u v w b : State} {sh : ShelfId}

/-! ## Its own turn -/

theorem moveShelf_eq (old v : State) (sh : ShelfId) : State.moveShelf old v sh =
    if v.shelves[sh].state.isHeld then v.movedOut sh
    else if (v.shelfDomain sh).isNone then (v.movedOut sh).park sh .partition
    else if (old.shelfDomain sh).isNone then (v.movedOut sh).reselect sh .assigned
    else
      match v.shelves[sh].state with
      | .queued _ => (v.movedOut sh).reselect sh .partition
      | .acquire _ _ => (v.movedOut sh).reselect sh .partition
      | .locked _ _ => (v.movedOut sh).reselect sh .partition
      | .bridge _ _ => (v.movedOut sh).reselect sh .partition
      | _ => (v.movedOut sh).actAuto sh Ctx.failing := by
  have hstate : (v.movedOut sh).shelves[sh].state = v.shelves[sh].state := by rw [movedOut_shelf]
  rw [← (movedOut_consequences v sh).shelfDomain sh, ← hstate]
  rfl

theorem park_shelf (v : State) (sh : ShelfId) (cause : Cause) : (v.park sh cause).shelves[sh] =
    { v.shelves[sh] with state := .parked, changed := true, lastCause := some cause, learned := 0 } := by
  unfold State.park
  rw [setShelf_get_self, enterState_self, leavePool_shelf]
  rfl

theorem not_mem_park (v : State) (sh : ShelfId) (cause : Cause) : sh ∉ (v.park sh cause).queue := by
  rw [(park_after_pool v sh cause).1.queue]
  exact not_mem_leaveQueue _ sh

theorem latched_park (v : State) (sh : ShelfId) (cause : Cause) (d : DomainId) (k : DomainEvent) (h : v.latched d k = true) :
    (v.park sh cause).latched d k = true := by
  rw [State.latched, (park_after_pool v sh cause).2]
  exact (moved_leavePool v sh).latched d k h

theorem movedOut_auto (v : State) (sh : ShelfId) : (v.movedOut sh).shelves[sh].steering = .auto := by rw [movedOut_shelf]

theorem Moved.steering_auto {K : List DomainEvent} (h : Moved v w sh K) (ha : v.shelves[sh].steering = .auto) :
    w.shelves[sh].steering = .auto := by
  rcases h.steering with e | ⟨-, e⟩
  · exact e.trans ha
  · exact e

/-- Unless it parks, what a shelf that changed its domain does after its steering is dropped is a move. -/
theorem moveShelf_moves (old : State) (h : v.shelves[sh].state.isHeld = true ∨ v.shelfDomain sh ≠ none) :
    ∃ K, Moved (v.movedOut sh) (State.moveShelf old v sh) sh K := by
  obtain ⟨L, hout⟩ := moved_movedOut v sh
  rcases moveShelf_cases old v sh with ⟨e, -⟩ | ⟨hheld, ⟨hd, -⟩ | ⟨-, cause, e⟩ | ⟨e, -⟩⟩
  · rw [e]
    exact ⟨_, .refl _ sh⟩
  · rcases h with h | h
    · rw [h] at hheld
      cases hheld
    · exact absurd hd h
  · rw [e]
    exact ⟨_, moved_reselect (hout.held.trans hheld) cause⟩
  · rw [e]
    obtain ⟨K, hm, -⟩ := acts_actAuto (movedOut_auto v sh) Ctx.failing
    exact ⟨K, hm⟩

theorem moveShelf_parks (old : State) (hh : v.shelves[sh].state.isHeld = false) (hd : v.shelfDomain sh = none) :
    State.moveShelf old v sh = (v.movedOut sh).park sh .partition := by
  rw [moveShelf_eq, hh, hd]
  rfl

/-- A shelf that changed its domain is under AUTO at the end of its turn, and nothing it has raised is lost (R47). -/
theorem moveShelf_auto (old v : State) (sh : ShelfId) : (State.moveShelf old v sh).shelves[sh].steering = .auto ∧
    ∀ (d : DomainId) (k : DomainEvent), (v.movedOut sh).latched d k = true → (State.moveShelf old v sh).latched d k = true := by
  by_cases h : v.shelves[sh].state.isHeld = true ∨ v.shelfDomain sh ≠ none
  · obtain ⟨K, hm⟩ := moveShelf_moves old h
    exact ⟨hm.steering_auto (movedOut_auto v sh), hm.latched⟩
  · rw [not_or, Bool.not_eq_true, not_not] at h
    rw [moveShelf_parks old h.1 h.2]
    refine ⟨?_, latched_park _ sh _⟩
    rw [park_shelf]
    exact movedOut_auto v sh

theorem moved_moveShelf (old : State) (h : v.shelves[sh].state.isHeld = true ∨ v.shelfDomain sh ≠ none) :
    ∃ K, Moved v (State.moveShelf old v sh) sh K := by
  obtain ⟨L, hout⟩ := moved_movedOut v sh
  obtain ⟨K, hm⟩ := moveShelf_moves old h
  exact ⟨_, hout.trans hm⟩

theorem raised_movedOut (h : v.shelves[sh].steering ≠ .auto) : Raised v (v.movedOut sh) sh .steerLost := by
  have heq : v.movedOut sh = v.loseSteering sh := if_neg h
  rw [heq]
  exact (moved_loseSteering v sh).raised (by simp)

theorem movedOut_best (v : State) (sh : ShelfId) : (v.movedOut sh).best sh = v.best sh :=
  (begins_movedOut v sh).ground.looks.best sh

/-- The reselection of a shelf whose steering is dropped. -/
theorem movedOut_reselects (hh : v.shelves[sh].state.isHeld = false) (cause : Cause) :
    Reselects v ((v.movedOut sh).reselect sh cause) sh (v.best sh) cause := by
  rw [← movedOut_best]
  exact (reselects_best (movedOut_auto v sh) (by rw [movedOut_shelf]; exact hh) cause).begin (begins_movedOut v sh)

theorem moveShelf_assigned {old : State} (hh : v.shelves[sh].state.isHeld = false) (hd : v.shelfDomain sh ≠ none)
    (ho : old.shelfDomain sh = none) : Reselects v (State.moveShelf old v sh) sh (v.best sh) .assigned := by
  have heq : State.moveShelf old v sh = (v.movedOut sh).reselect sh .assigned := by
    rw [moveShelf_eq, hh, ho, if_neg Bool.false_ne_true, if_neg fun e => hd (Option.isNone_iff_eq_none.mp e)]
    rfl
  rw [heq]
  exact movedOut_reselects hh _

theorem moveShelf_partition {old : State} (hd : v.shelfDomain sh ≠ none) (ho : old.shelfDomain sh ≠ none)
    (hn : v.shelves[sh].state.names = true) : Reselects v (State.moveShelf old v sh) sh (v.best sh) .partition := by
  have hh := (names_iff.mp hn).1
  have heq : State.moveShelf old v sh = (v.movedOut sh).reselect sh .partition := by
    rw [moveShelf_eq, hh, if_neg Bool.false_ne_true, if_neg fun e => hd (Option.isNone_iff_eq_none.mp e),
      if_neg fun e => ho (Option.isNone_iff_eq_none.mp e)]
    cases hs : v.shelves[sh].state with
    | queued _ => rfl
    | acquire _ _ => rfl
    | locked _ _ => rfl
    | bridge _ _ => rfl
    | _ => rw [hs] at hn; cases hn
  rw [heq]
  exact movedOut_reselects hh _

/-- A shelf at rest under AUTO goes toward the best candidate, and stays where there is none (R88, R89). -/
theorem actAuto_rest (ha : b.shelves[sh].steering = .auto)
    (hr : b.shelves[sh].state.isHoldover = true ∨ b.shelves[sh].state.isFreerun = true) (x : Ctx) :
    (∀ p, b.best sh = some p → GoesToward b (b.actAuto sh x) sh p (x.cause .better)) ∧
      (b.best sh = none → b.actAuto sh x = b) := by
  have heq : b.actAuto sh x = match b.choice sh with | some t => b.toward sh t (x.cause .better) | none => b := by
    unfold State.actAuto
    rcases hr with h | h
    · obtain ⟨left, e⟩ := isHoldover_iff.mp h
      rw [e] <;> rfl
    · rw [isFreerun_iff.mp h] <;> rfl
  have hgoes := goesToward_choice ha (resting hr).1 (x.cause .better)
  rw [heq]
  refine ⟨fun p hp => ?_, fun hp => ?_⟩ <;> rw [hp] at hgoes <;> exact hgoes

theorem moveShelf_rest {old : State} (hd : v.shelfDomain sh ≠ none) (ho : old.shelfDomain sh ≠ none)
    (hr : v.shelves[sh].state.isHoldover = true ∨ v.shelves[sh].state.isFreerun = true) :
    (∀ p, v.best sh = some p → GoesToward v (State.moveShelf old v sh) sh p .better) ∧
      (v.best sh = none → State.moveShelf old v sh = v.movedOut sh) := by
  have heq : State.moveShelf old v sh = (v.movedOut sh).actAuto sh Ctx.failing := by
    rw [moveShelf_eq, (resting hr).1, if_neg Bool.false_ne_true, if_neg fun e => hd (Option.isNone_iff_eq_none.mp e),
      if_neg fun e => ho (Option.isNone_iff_eq_none.mp e)]
    rcases hr with h | h
    · obtain ⟨left, e⟩ := isHoldover_iff.mp h
      rw [e]
    · rw [isFreerun_iff.mp h]
  obtain ⟨hgoes, hstays⟩ := actAuto_rest (movedOut_auto v sh) (by rwa [movedOut_shelf]) Ctx.failing
  rw [heq, ← movedOut_best]
  exact ⟨fun p hp => (hgoes p hp).begin (begins_movedOut v sh), hstays⟩

end

end Sys2Proof.Machine
end

section
/-!
PROOFS. A shelf that stays in its domain in an apply takes its turn (R48): where a port it names has left the domain it
reselects with cause PARTITION, and where its steering port has, it loses its steering first.
-/

namespace Sys2Proof.Machine

/-- How a shelf acts whose steering port has left its domain (notes/assumptions/18.md). -/
def Ctx.portLeft : Ctx := { forced := some .partition, strict := true, ceased := false }

section
variable {s t u v w b : State} {sh : ShelfId} {p q c : PortId} {x : Ctx}

theorem keepShelf_auto (old : State) (ha : v.shelves[sh].steering = .auto) :
    State.keepShelf old v sh = v.actAuto sh { Ctx.failing with ceased := State.ceased old v sh } := by
  unfold State.keepShelf State.meet State.act
  rw [ha]
  rfl

theorem keepShelf_left (old : State) (hp : v.shelves[sh].steering.port? = some p) (hd : v.sameDomain sh p = false) :
    State.keepShelf old v sh = v.actUnsteered sh Ctx.portLeft := by
  unfold State.keepShelf
  rw [hp]
  exact if_neg (by rw [hd]; exact Bool.false_ne_true)

theorem keepShelf_steered (old : State) (hp : v.shelves[sh].steering.port? = some p) (hd : v.sameDomain sh p = true) :
    State.keepShelf old v sh = v.act sh { Ctx.failing with ceased := State.ceased old v sh } := by
  unfold State.keepShelf
  rw [hp]
  exact if_pos hd

theorem moved_keepShelf (old v : State) (sh : ShelfId) : ∃ K, Moved v (State.keepShelf old v sh) sh K := by
  unfold State.keepShelf
  split
  · split
    · exact moved_act v sh _
    · obtain ⟨K, hm, -⟩ := moved_actUnsteered v sh Ctx.portLeft
      exact ⟨K, hm⟩
  · exact moved_act v sh _

/-! ## A reference or target that has left -/

theorem not_eligible_of_left (h : v.sameDomain sh q = false) : v.eligible sh q = false ∧ v.admissible sh q = false := by
  refine ⟨?_, ?_⟩ <;> rw [← Bool.not_eq_true] <;> intro e
  · rw [eligible_sameDomain e] at h
    cases h
  · rw [admissible_sameDomain e] at h
    cases h

theorem failCause_of_left (h : v.sameDomain sh q = false) : v.failCause sh q = .partition ∧ v.bridgeFailCause sh q = .partition := by
  unfold State.failCause State.bridgeFailCause
  rw [h]
  exact ⟨rfl, rfl⟩

theorem cause_partition (hx : x.forced = none ∨ x.forced = some .partition) : x.cause .partition = .partition := by
  unfold Ctx.cause
  rcases hx with e | e <;> rw [e] <;> rfl

/-- A shelf under AUTO whose reference or target has left its domain reselects with cause PARTITION (R48, R85). -/
theorem actAuto_of_left (hq : b.sameDomain sh q = false) (hstrict : x.strict = true)
    (hx : x.forced = none ∨ x.forced = some .partition)
    (hs : b.shelves[sh].state.target? = some q ∨ b.shelves[sh].state.reference? = some q) :
    b.actAuto sh x = b.reselect sh .partition := by
  obtain ⟨he, ha⟩ := not_eligible_of_left hq
  obtain ⟨hf, hb⟩ := failCause_of_left hq
  have hnot : ¬ b.eligible sh q = true := by
    rw [he]
    exact Bool.false_ne_true
  have hnot' : ¬ b.admissible sh q = true := by
    rw [ha]
    exact Bool.false_ne_true
  unfold State.actAuto
  cases hst : b.shelves[sh].state with
  | queued r =>
    rw [hst] at hs
    obtain rfl : r = q := by simpa [ShelfState.target?, ShelfState.reference?] using hs
    dsimp only
    rw [State.actQueued, hstrict, he, hf, cause_partition hx]
    rfl
  | acquire r _ =>
    rw [hst] at hs
    obtain rfl : r = q := by simpa [ShelfState.target?, ShelfState.reference?] using hs
    dsimp only
    rw [if_neg hnot, hf, cause_partition hx]
  | locked r _ =>
    rw [hst] at hs
    obtain rfl : r = q := by simpa [ShelfState.target?, ShelfState.reference?] using hs
    dsimp only
    rw [State.actLocked, if_neg hnot, State.loseReference, if_neg hnot', hf, cause_partition hx]
  | bridge r _ =>
    rw [hst] at hs
    obtain rfl : r = q := by simpa [ShelfState.target?, ShelfState.reference?] using hs
    dsimp only
    rw [State.actBridge, if_neg hnot, if_neg hnot', hb, cause_partition hx]
  | _ =>
    rw [hst] at hs
    simp [ShelfState.target?, ShelfState.reference?] at hs

theorem unpended_names (st : ShelfState) : st.unpended.target? = st.target? ∧ st.unpended.reference? = st.reference? := by
  unfold ShelfState.unpended
  split <;> exact ⟨rfl, rfl⟩

theorem not_held_of_names {st : ShelfState} (h : st.target? = some q ∨ st.reference? = some q) : st.isHeld = false := by
  cases st <;> first | rfl | simp [ShelfState.target?, ShelfState.reference?] at h

/-- A shelf whose steering is lost acts from here. -/
def State.steeringLost (v : State) (sh : ShelfId) : State := (v.unsteered sh).raiseShelf sh .steerLost

theorem actUnsteered_portLeft (v : State) (sh : ShelfId) :
    v.actUnsteered sh Ctx.portLeft = (v.steeringLost sh).actAuto sh Ctx.portLeft := actUnsteered_eq v sh _

theorem steeringLost_shelf (v : State) (sh : ShelfId) : (v.steeringLost sh).shelves[sh] =
    { v.shelves[sh] with steering := .auto, state := v.shelves[sh].state.unpended } := unsteered_shelf v sh

theorem begins_steeringLost (v : State) (sh : ShelfId) : Begins v (v.steeringLost sh) sh := begins_unsteered v sh

/-- The shelf has no steering in the part's new domains: it is under AUTO, or its steering port has left its domain. -/
def State.unsteeredHere (v : State) (sh : ShelfId) : Prop :=
  v.shelves[sh].steering = .auto ∨ ∃ p, v.shelves[sh].steering.port? = some p ∧ v.sameDomain sh p = false

theorem keepShelf_reselects (old : State) (hst : v.unsteeredHere sh) (hq : v.sameDomain sh q = false)
    (hs : v.shelves[sh].state.target? = some q ∨ v.shelves[sh].state.reference? = some q) :
    Reselects v (State.keepShelf old v sh) sh (v.best sh) .partition := by
  rcases hst with ha | ⟨p, hp, hd⟩
  · rw [keepShelf_auto old ha, actAuto_of_left (x := { Ctx.failing with ceased := _ }) hq rfl (.inl rfl) hs]
    exact reselects_best ha (not_held_of_names hs) _
  · have hbegin := begins_steeringLost v sh
    have hself := steeringLost_shelf v sh
    obtain ⟨ht, hr⟩ := unpended_names v.shelves[sh].state
    rw [keepShelf_left old hp hd, actUnsteered_portLeft]
    generalize v.steeringLost sh = b at hbegin hself
    have hs' : b.shelves[sh].state.target? = some q ∨ b.shelves[sh].state.reference? = some q := by
      rw [hself]
      exact hs.imp ht.trans hr.trans
    rw [actAuto_of_left ((hbegin.ground.looks.sameDomain sh q).trans hq) rfl (.inr rfl) hs', ← hbegin.ground.looks.best]
    exact (reselects_best (by rw [hself]) (not_held_of_names hs') _).begin hbegin

/-! ## A steering port that has left -/

theorem keepShelf_loses (old : State) (hp : v.shelves[sh].steering.port? = some p) (hd : v.sameDomain sh p = false) :
    (State.keepShelf old v sh).shelves[sh].steering = .auto ∧ Raised v (State.keepShelf old v sh) sh .steerLost := by
  rw [keepShelf_left old hp hd]
  obtain ⟨K, hm, hk, hauto, -⟩ := moved_actUnsteered v sh Ctx.portLeft
  exact ⟨hauto, hm.raised hk⟩

theorem keepShelf_left_rest (old : State) (hp : v.shelves[sh].steering.port? = some p) (hd : v.sameDomain sh p = false)
    (hr : v.shelves[sh].state.isHoldover = true ∨ v.shelves[sh].state.isFreerun = true) :
    (∀ d, v.best sh = some d → GoesToward v (State.keepShelf old v sh) sh d .partition) ∧
      (v.best sh = none → (State.keepShelf old v sh).shelves[sh] = { v.shelves[sh] with steering := .auto }) := by
  have hbegin := begins_steeringLost v sh
  have hself := steeringLost_shelf v sh
  have hsame : v.shelves[sh].state.unpended = v.shelves[sh].state := by
    rcases hr with h | h
    · obtain ⟨left, e⟩ := isHoldover_iff.mp h
      rw [e]
      rfl
    · rw [isFreerun_iff.mp h]
      rfl
  rw [hsame] at hself
  rw [keepShelf_left old hp hd, actUnsteered_portLeft]
  generalize v.steeringLost sh = b at hbegin hself
  obtain ⟨hgoes, hstays⟩ := actAuto_rest (b := b) (sh := sh) (by rw [hself]) (by rw [hself]; exact hr) Ctx.portLeft
  rw [← hbegin.ground.looks.best]
  exact ⟨fun d hd => (hgoes d hd).begin hbegin, fun hn => by rw [hstays hn, hself]⟩

/-- A LOCKED shelf whose pending target and steering port has left: what becomes of its reference decides (R48, R97). -/
theorem keepShelf_left_locked (old : State) {pend : PortId × Cause} (hp : v.shelves[sh].steering.port? = some p)
    (hd : v.sameDomain sh p = false) (hs : v.shelves[sh].state = .locked c (some pend)) :
    Reselects v (State.keepShelf old v sh) sh (v.best sh) .partition ∨
      (v.eligible sh c = true ∧ AppliesSwitchRule v (State.keepShelf old v sh) sh c) ∨
      (v.eligible sh c = false ∧ v.admissible sh c = true ∧ v.shelfHoldOff sh ≠ 0 ∧
        Bridges v (State.keepShelf old v sh) sh c .partition) := by
  have hbegin := begins_steeringLost v sh
  have hself := steeringLost_shelf v sh
  rw [keepShelf_left old hp hd, actUnsteered_portLeft, ← hbegin.ground.looks.eligible, ← hbegin.ground.looks.admissible,
    ← hbegin.ground.shelfHoldOff, ← hbegin.ground.looks.best]
  generalize v.steeringLost sh = b at hbegin hself
  have hauto : b.shelves[sh].steering = .auto := by rw [hself]
  have hst : b.shelves[sh].state = .locked c none := by
    rw [hself, hs]
    rfl
  have hheld : b.shelves[sh].state.isHeld = false := by
    rw [hst]
    rfl
  have heq : b.actAuto sh Ctx.portLeft = b.actLocked sh c Ctx.portLeft := by
    unfold State.actAuto
    rw [hst]
  rw [heq, State.actLocked, State.loseReference]
  cases he : b.eligible sh c with
  | true =>
    exact .inr (.inl ⟨rfl, (appliesSwitchRule (Moved.refl b sh) rfl hst).begin hbegin (by rw [hself])⟩)
  | false =>
    cases ha : b.admissible sh c with
    | true =>
      by_cases hz : b.shelfHoldOff sh = 0
      · refine .inl ?_
        rw [if_neg Bool.false_ne_true, if_pos rfl, if_pos hz]
        exact (reselects_best hauto hheld _).begin hbegin
      · refine .inr (.inr ⟨rfl, rfl, hz, ?_⟩)
        rw [if_neg Bool.false_ne_true, if_pos rfl, if_neg hz]
        exact (bridges_bridge hheld c _).begin hbegin
    | false =>
      refine .inl ?_
      rw [if_neg Bool.false_ne_true, if_neg Bool.false_ne_true]
      exact (reselects_best hauto hheld _).begin hbegin

/-! ## A reference that has left while the pending target stays -/

/-- An acquisition whose target is eligible goes on, under AUTO. -/
theorem keepShelf_acquires_auto (old : State) (ha : v.shelves[sh].steering = .auto) {left : Nat}
    (hs : v.shelves[sh].state = .acquire p left) (he : v.eligible sh p = true) : State.keepShelf old v sh = v := by
  rw [keepShelf_auto old ha, State.actAuto, hs]
  exact if_pos he

/-- The steering port of a shelf lets it go on toward it: it is eligible, or pinned and active. -/
def State.steersTo (v : State) (sh : ShelfId) (p : PortId) : Prop :=
  v.shelves[sh].steering = .steer p ∧ v.eligible sh p = true ∨
    v.shelves[sh].steering = .pin p ∧ v.sameDomain sh p = true ∧ v.ports[p].activity = true ∧ v.ports[p].state ≠ .off

theorem State.steersTo.sameDomain (h : v.steersTo sh p) : v.sameDomain sh p = true ∧ v.shelves[sh].steering.port? = some p := by
  rcases h with ⟨hst, he⟩ | ⟨hst, hd, -⟩ <;> rw [hst]
  · exact ⟨eligible_sameDomain he, rfl⟩
  · exact ⟨hd, rfl⟩

theorem actPin_live (hd : v.sameDomain sh p = true) (hact : v.ports[p].activity = true) (hon : v.ports[p].state ≠ .off) (x : Ctx) :
    v.actPin sh p x = v.actPinActive sh p x := by
  rw [State.actPin, hd, hact, beq_eq_false_iff_ne.mpr hon]
  rfl

theorem keepShelf_acquires_steered (old : State) (hst : v.steersTo sh p) {left : Nat}
    (hs : v.shelves[sh].state = .acquire p left) : State.keepShelf old v sh = v := by
  obtain ⟨hd, hp⟩ := hst.sameDomain
  rw [keepShelf_steered old hp hd, State.act]
  rcases hst with ⟨hst, he⟩ | ⟨hst, hd, hact, hon⟩ <;> rw [hst]
  · dsimp only
    rw [State.actSteer, hs]
    exact if_pos he
  · dsimp only
    rw [actPin_live hd hact hon, State.actPinActive, hs]

/-- A LOCKED shelf steered to its pending target goes toward it where its reference has left (R48, R126, R130). -/
theorem keepShelf_goesToward (old : State) (hst : v.steersTo sh p) (ho : old.sameDomain sh q = true) (hq : v.sameDomain sh q = false)
    {pend : Option (PortId × Cause)} (hs : v.shelves[sh].state = .locked q pend) :
    GoesToward v (State.keepShelf old v sh) sh p .partition ∧
      (State.keepShelf old v sh).shelves[sh].steering = v.shelves[sh].steering := by
  obtain ⟨hd, hp⟩ := hst.sameDomain
  have hne : q ≠ p := by
    rintro rfl
    rw [hq] at hd
    cases hd
  have hheld : v.shelves[sh].state.isHeld = false := by
    rw [hs]
    rfl
  have hceased : State.ceased old v sh = true :=
    (ceased_iff (c := q) old (by rw [hs]; rfl)).mpr (.inr (.inl ⟨ho, hq⟩))
  have heq : State.keepShelf old v sh = v.toward sh p .partition := by
    rw [keepShelf_steered old hp hd, State.act]
    rcases hst with ⟨hst, he⟩ | ⟨hst, hd, hact, hon⟩ <;> rw [hst]
    · dsimp only
      rw [State.actSteer, hs]
      dsimp only
      rw [if_neg hne, he, (not_eligible_of_left hq).1, (failCause_of_left hq).1]
      rfl
    · dsimp only
      rw [actPin_live hd hact hon, State.actPinActive, hs, hceased]
      dsimp only
      rw [if_pos (by simp [hne]), (failCause_of_left hq).1]
      rfl
  rw [heq]
  exact ⟨goesToward_toward hheld p _, toward_steering hheld p _⟩

/-! ## HELD -/

/-- A HELD shelf keeps its record in its turn, but for its steering. -/
theorem applyToShelf_held (old : State) (hh : v.shelves[sh].state.isHeld = true) :
    (State.applyToShelf old v sh).shelves[sh] =
      { v.shelves[sh] with steering := (State.applyToShelf old v sh).shelves[sh].steering } := by
  have hstate := held_nominee hh
  have hauto : ∀ (b : State) (x : Ctx), b.shelves[sh].state = v.shelves[sh].state → b.actAuto sh x = b := fun b x e => by
    unfold State.actAuto
    rw [e, hstate]
  have hlost : ∀ x : Ctx, (v.actUnsteered sh x).shelves[sh] = { v.shelves[sh] with steering := .auto } := fun x => by
    have hself := steeringLost_shelf v sh
    have hsame : v.shelves[sh].state.unpended = v.shelves[sh].state := by
      rw [hstate]
      rfl
    rw [actUnsteered_eq]
    rw [hsame] at hself
    have e := hauto (v.steeringLost sh) { x with strict := true } (by rw [hself])
    unfold State.steeringLost at e hself
    rw [e, hself]
  have hact : ∀ x : Ctx, v.act sh x = v ∨ v.act sh x = v.actUnsteered sh x := fun x => by
    unfold State.act
    split
    · exact .inl (hauto v x rfl)
    · unfold State.actSteer
      rw [hstate]
      exact .inl rfl
    · unfold State.actPin State.actPinActive State.actPinInactive
      rw [hstate]
      split_ifs
      · exact .inr rfl
      · exact .inl rfl
      · exact .inl rfl
  have hmeet : ∀ x : Ctx, (v.act sh x).shelves[sh] = { v.shelves[sh] with steering := (v.act sh x).shelves[sh].steering } := by
    intro x
    rcases hact x with e | e <;> rw [e]
    rw [hlost]
  unfold State.applyToShelf
  split
  · unfold State.keepShelf
    split
    · split
      · exact hmeet _
      · rw [hlost]
    · exact hmeet _
  · rw [moveShelf_eq, if_pos hh, movedOut_shelf]

end

end Sys2Proof.Machine
end

section
/-!
PROOFS. A shelf that an apply reaches, from the part under the new partition to the end: others have their turns, then it has
its own, then the rest of them, the judgement of R109 and the refresh (R47, R48).
-/

namespace Sys2Proof.Machine

/-- From `u` to `t` shelf `sh` has its turn in an apply from `s`. -/
def TakesTurn (s u t : State) (sh : ShelfId) : Prop :=
  ∃ v : State, Passes u v sh ∧ Ends (State.applyToShelf s v sh) t sh

section
variable {s t u v w : State} {sh : ShelfId} {p q c : PortId}

theorem applyToShelf_moves {old : State} (h : old.shelfDomain sh ≠ v.shelfDomain sh) :
    State.applyToShelf old v sh = State.moveShelf old v sh := if_neg h

theorem applyToShelf_keeps {old : State} (h : old.shelfDomain sh = v.shelfDomain sh) :
    State.applyToShelf old v sh = State.keepShelf old v sh := if_pos h

/-- Unless it parks, a turn is a move. -/
theorem moved_applyToShelf {old : State} (h : v.shelves[sh].state.isHeld = true ∨ old.shelfDomain sh = none ∨
    v.shelfDomain sh ≠ none) : ∃ K, Moved v (State.applyToShelf old v sh) sh K := by
  unfold State.applyToShelf
  split
  · exact moved_keepShelf old v sh
  · next hd =>
    refine moved_moveShelf old (h.imp_right fun h => ?_)
    rcases h with h | h
    · exact fun e => hd (h.trans e.symm)
    · exact h

/-! ## What a wait for the turn leaves of the shelf's state -/

theorem Passes.names (h : Passes u v sh) (hn : u.shelves[sh].state.names = true) : v.shelves[sh].state.names = true := by
  rcases h.shelf with e | e
  · rwa [e]
  · rw [ShelfState.names, e.acquires.1]
    simp

/-- The shelf names a port as its reference or target, and has no pending target. -/
def ShelfState.settlesOn (st : ShelfState) (q : PortId) : Prop :=
  st.pending? = none ∧ (st.target? = some q ∨ st.reference? = some q)

theorem Passes.settlesOn (h : Passes u v sh) (hs : u.shelves[sh].state.settlesOn q) :
    v.shelves[sh].state.target? = some q ∨ v.shelves[sh].state.reference? = some q := by
  rcases h.shelf with e | e
  · rw [e]
    exact hs.2
  · obtain ⟨hpend, hgoal⟩ := hs
    obtain ⟨-, ⟨p, hst, e'⟩ | ⟨c, p, cause, hst, -⟩⟩ := e.cases <;> rw [hst] at hpend hgoal
    · rw [e']
      exact hgoal
    · cases hpend

/-- A shelf LOCKED with a pending target has kept its record, or it acquires that target with its cause (R96). -/
theorem Passes.pending {pend : PortId × Cause} (h : Passes u v sh) (hs : u.shelves[sh].state = .locked c (some pend)) :
    v.shelves[sh] = u.shelves[sh] ∨ (∃ left, v.shelves[sh].state = .acquire pend.1 left) ∧ Granted u v sh pend.1 (some pend.2) := by
  refine h.shelf.imp_right fun e => ?_
  obtain ⟨-, ⟨p, hst, -⟩ | ⟨c, p, cause, hst, e'⟩⟩ := e.cases <;> rw [hs] at hst
  · cases hst
  · cases hst
    rw [Granted, e']
    exact ⟨⟨_, rfl⟩, rfl, rfl, rfl⟩

/-- A shelf at rest has kept its record. -/
theorem Passes.rest (h : Passes u v sh) (hr : u.shelves[sh].state.isHoldover = true ∨ u.shelves[sh].state.isFreerun = true) :
    v.shelves[sh] = u.shelves[sh] := h.shelf_of_not_waits (resting hr).2

theorem Passes.unsteeredHere (h : Passes u v sh) (hs : u.unsteeredHere sh) : v.unsteeredHere sh := by
  unfold State.unsteeredHere
  rw [h.fields.1]
  exact hs.imp_right fun ⟨p, hp, hd⟩ => ⟨p, hp, (h.ground.looks.sameDomain sh p).trans hd⟩

theorem Passes.steersTo (h : Passes u v sh) (hs : u.steersTo sh p) : v.steersTo sh p := by
  unfold State.steersTo
  rw [h.fields.1, h.ground.looks.eligible, h.ground.looks.sameDomain, h.ground.looks.activity, h.ground.looks.state]
  exact hs

/-! ## From the new partition to the end -/

theorem Passes.reselects {choice : Option PortId} {cause : Cause} (h : Passes u v sh) (he : Ends w t sh) {K : List DomainEvent}
    (hm : Moved v w sh K) (hr : Reselects v w sh choice cause) : Reselects u t sh choice cause :=
  (he.reselects hm.ground hm.learned hr).begin h.begins

theorem Passes.goesToward {cause : Cause} (h : Passes u v sh) (he : Ends w t sh) {K : List DomainEvent}
    (hm : Moved v w sh K) (hr : GoesToward v w sh p cause) : GoesToward u t sh p cause :=
  (he.goesToward hm.ground hr).begin h.begins

theorem Passes.raised {k : DomainEvent} (h : Passes u v sh) (he : Ends w t sh) (hr : Raised v w sh k) : Raised u t sh k :=
  (he.raised hr).ground h.ground

/-! ## The domain changes (R47) -/

theorem TakesTurn.auto_of_moved (h : TakesTurn s u t sh) (hd : s.shelfDomain sh ≠ u.shelfDomain sh) :
    t.shelves[sh].steering = .auto ∧ (u.shelves[sh].steering ≠ .auto → Raised u t sh .steerLost) := by
  obtain ⟨v, hv, he⟩ := h
  rw [applyToShelf_moves (by rwa [hv.ground.shelfDomain])] at he
  obtain ⟨hauto, hlatched⟩ := moveShelf_auto s v sh
  refine ⟨he.fields.1.trans hauto, fun hne => hv.raised he ?_⟩
  exact (raised_movedOut (by rwa [hv.fields.1])).later hlatched

theorem TakesTurn.parks (h : TakesTurn s u t sh) (hs : s.shelfDomain sh ≠ none) (hu : u.shelfDomain sh = none)
    (hh : u.shelves[sh].state.isHeld = false) :
    t.shelves[sh].state = .parked ∧ t.shelves[sh].lastCause = some .partition ∧ t.shelves[sh].changed = true ∧
      t.shelves[sh].learned = 0 ∧ sh ∉ t.queue := by
  obtain ⟨v, hv, he⟩ := h
  have hd := (hv.ground.shelfDomain sh).trans hu
  rw [applyToShelf_moves (by rwa [hd]), moveShelf_parks s (hv.fields.2.2.trans hh) hd] at he
  have hself := park_shelf (v.movedOut sh) sh .partition
  have hrec := he.stays (by rw [hself]; rfl) (by rw [hself]; rfl)
  have hqueue := he.queue (not_mem_park _ sh _)
  rw [hself] at hrec
  rw [hrec]
  exact ⟨rfl, rfl, rfl, rfl, hqueue⟩

theorem TakesTurn.held (h : TakesTurn s u t sh) (hh : u.shelves[sh].state.isHeld = true) :
    t.shelves[sh].state.isHeld = true ∧ MarksKept u t sh := by
  obtain ⟨v, hv, he⟩ := h
  have hsame : v.shelves[sh] = u.shelves[sh] := hv.shelf_of_not_waits (by rw [held_nominee hh]; rfl)
  have hself := applyToShelf_held s (v := v) (sh := sh) (by rwa [hsame])
  rw [hsame] at hself
  have hkept := he.held (by rw [hself]; exact hh)
  refine ⟨hkept.isHeld.trans (by rw [hself]; exact hh), hkept.marksKept.1.trans ?_, hkept.marksKept.2.trans ?_⟩ <;> rw [hself]

theorem TakesTurn.learned (h : TakesTurn s u t sh)
    (hh : u.shelves[sh].state.isHeld = true ∨ s.shelfDomain sh = none ∨ u.shelfDomain sh ≠ none) :
    t.shelves[sh].learned = u.shelves[sh].learned := by
  obtain ⟨v, hv, he⟩ := h
  obtain ⟨K, hm⟩ := moved_applyToShelf (v := v) (old := s) (sh := sh) (by rwa [hv.fields.2.2, hv.ground.shelfDomain])
  exact (he.fields.2.1.trans hm.learned).trans hv.fields.2.1

theorem TakesTurn.assigned (h : TakesTurn s u t sh) (hs : s.shelfDomain sh = none) (hu : u.shelfDomain sh ≠ none)
    (hh : u.shelves[sh].state.isHeld = false) : Reselects u t sh (u.best sh) .assigned := by
  obtain ⟨v, hv, he⟩ := h
  have hd : v.shelfDomain sh ≠ none := by rwa [hv.ground.shelfDomain]
  obtain ⟨K, hm⟩ := moved_moveShelf s (v := v) (sh := sh) (.inr hd)
  rw [applyToShelf_moves (by rw [hs]; exact hd.symm)] at he
  rw [← hv.ground.looks.best]
  exact hv.reselects he hm (moveShelf_assigned (hv.fields.2.2.trans hh) hd hs)

theorem TakesTurn.partition (h : TakesTurn s u t sh) (hs : s.shelfDomain sh ≠ none) (hu : u.shelfDomain sh ≠ none)
    (hne : s.shelfDomain sh ≠ u.shelfDomain sh) (hn : u.shelves[sh].state.names = true) :
    Reselects u t sh (u.best sh) .partition := by
  obtain ⟨v, hv, he⟩ := h
  have hd : v.shelfDomain sh ≠ none := by rwa [hv.ground.shelfDomain]
  obtain ⟨K, hm⟩ := moved_moveShelf s (v := v) (sh := sh) (.inr hd)
  rw [applyToShelf_moves (by rwa [hv.ground.shelfDomain])] at he
  rw [← hv.ground.looks.best]
  exact hv.reselects he hm (moveShelf_partition hd hs (hv.names hn))

/-- A shelf at rest that its turn has left at rest is judged (R109). -/
theorem Passes.judged (h : Passes u v sh) (he : Ends w t sh) (hg : SameGround v w)
    (hr : u.shelves[sh].state.isHoldover = true ∨ u.shelves[sh].state.isFreerun = true)
    (hw : w.shelves[sh] = { v.shelves[sh] with steering := .auto }) : Judged u t sh := by
  rw [h.rest hr] at hw
  refine he.judged (h.ground.trans hg) ?_ ?_ ?_ ?_ ?_ <;> rw [hw]
  exact hr

theorem TakesTurn.rest_of_moved (h : TakesTurn s u t sh) (hs : s.shelfDomain sh ≠ none) (hu : u.shelfDomain sh ≠ none)
    (hne : s.shelfDomain sh ≠ u.shelfDomain sh)
    (hr : u.shelves[sh].state.isHoldover = true ∨ u.shelves[sh].state.isFreerun = true) :
    (∀ p, u.best sh = some p → GoesToward u t sh p .better) ∧ (u.best sh = none → Judged u t sh) := by
  obtain ⟨v, hv, he⟩ := h
  have hd : v.shelfDomain sh ≠ none := by rwa [hv.ground.shelfDomain]
  obtain ⟨K, hm⟩ := moved_moveShelf s (v := v) (sh := sh) (.inr hd)
  obtain ⟨hgoes, hstays⟩ := moveShelf_rest (old := s) hd hs (by rwa [hv.rest hr])
  rw [applyToShelf_moves (by rwa [hv.ground.shelfDomain])] at he
  rw [← hv.ground.looks.best]
  refine ⟨fun p hp => hv.goesToward he hm (hgoes p hp), fun hn => hv.judged he hm.ground hr ?_⟩
  rw [hstays hn, movedOut_shelf]

/-! ## The domain stays (R48) -/

theorem TakesTurn.keeps (h : TakesTurn s u t sh) (hd : s.shelfDomain sh = u.shelfDomain sh) :
    ∃ (v : State) (K : List DomainEvent), Passes u v sh ∧ Ends (State.keepShelf s v sh) t sh ∧
      Moved v (State.keepShelf s v sh) sh K := by
  obtain ⟨v, hv, he⟩ := h
  rw [applyToShelf_keeps (by rwa [hv.ground.shelfDomain])] at he
  obtain ⟨K, hm⟩ := moved_keepShelf s v sh
  exact ⟨v, K, hv, he, hm⟩

theorem TakesTurn.steering_left (h : TakesTurn s u t sh) (hd : s.shelfDomain sh = u.shelfDomain sh)
    (hp : u.shelves[sh].steering.port? = some q) (hq : u.sameDomain sh q = false) :
    t.shelves[sh].steering = .auto ∧ Raised u t sh .steerLost := by
  obtain ⟨v, K, hv, he, -⟩ := h.keeps hd
  obtain ⟨hauto, hraised⟩ := keepShelf_loses s (v := v) (by rwa [hv.fields.1]) ((hv.ground.looks.sameDomain sh q).trans hq)
  exact ⟨he.fields.1.trans hauto, hv.raised he hraised⟩

theorem TakesTurn.reselects_left (h : TakesTurn s u t sh) (hd : s.shelfDomain sh = u.shelfDomain sh)
    (hst : u.unsteeredHere sh) (hq : u.sameDomain sh q = false) (hs : u.shelves[sh].state.settlesOn q) :
    Reselects u t sh (u.best sh) .partition := by
  obtain ⟨v, K, hv, he, hm⟩ := h.keeps hd
  rw [← hv.ground.looks.best]
  exact hv.reselects he hm
    (keepShelf_reselects s (hv.unsteeredHere hst) ((hv.ground.looks.sameDomain sh q).trans hq) (hv.settlesOn hs))

theorem TakesTurn.rest_left (h : TakesTurn s u t sh) (hd : s.shelfDomain sh = u.shelfDomain sh)
    (hp : u.shelves[sh].steering.port? = some q) (hq : u.sameDomain sh q = false)
    (hr : u.shelves[sh].state.isHoldover = true ∨ u.shelves[sh].state.isFreerun = true) :
    (∀ b, u.best sh = some b → GoesToward u t sh b .partition) ∧ (u.best sh = none → Judged u t sh) := by
  obtain ⟨v, K, hv, he, hm⟩ := h.keeps hd
  obtain ⟨hgoes, hstays⟩ := keepShelf_left_rest s (v := v) (by rwa [hv.fields.1])
    ((hv.ground.looks.sameDomain sh q).trans hq) (by rwa [hv.rest hr])
  rw [← hv.ground.looks.best]
  exact ⟨fun b hb => hv.goesToward he hm (hgoes b hb), fun hn => hv.judged he hm.ground hr (hstays hn)⟩

theorem TakesTurn.locked_left {cause : Cause} (h : TakesTurn s u t sh) (hd : s.shelfDomain sh = u.shelfDomain sh)
    (hp : u.shelves[sh].steering.port? = some q) (hq : u.sameDomain sh q = false)
    (hs : u.shelves[sh].state = .locked c (some (q, cause))) :
    Reselects u t sh (u.best sh) .partition ∨ (u.eligible sh c = true ∧ AppliesSwitchRule u t sh c) ∨
      (u.eligible sh c = false ∧ u.admissible sh c = true ∧ u.shelfHoldOff sh ≠ 0 ∧ Bridges u t sh c .partition) := by
  obtain ⟨v, K, hv, he, hm⟩ := h.keeps hd
  have hlook := hv.ground.looks
  have hp' : v.shelves[sh].steering.port? = some q := by rwa [hv.fields.1]
  have hq' := (hlook.sameDomain sh q).trans hq
  rw [← hlook.best, ← hlook.eligible, ← hlook.admissible, ← hv.ground.shelfHoldOff]
  rcases hv.pending hs with e | ⟨⟨left, e⟩, -⟩
  · rcases keepShelf_left_locked s hp' hq' (by rw [e]; exact hs) with k | ⟨hc, k⟩ | ⟨hc, ha, hz, k⟩
    · exact .inl (hv.reselects he hm k)
    · exact .inr (.inl ⟨hc, (he.appliesSwitchRule hm.ground k).begin hv.begins (by rw [e])⟩)
    · exact .inr (.inr ⟨hc, ha, hz, (he.bridges k).begin hv.begins⟩)
  · exact .inl (hv.reselects he hm (keepShelf_reselects s (.inr ⟨q, hp', hq'⟩) hq' (.inl (by rw [e]; rfl))))

theorem TakesTurn.pending_auto {b : PortId} {cause : Cause} (h : TakesTurn s u t sh) (hd : s.shelfDomain sh = u.shelfDomain sh)
    (ha : u.shelves[sh].steering = .auto) (hq : u.sameDomain sh q = false)
    (hs : u.shelves[sh].state = .locked q (some (b, cause))) (hb : u.eligible sh b = true ∨ u.sameDomain sh b = false) :
    Reselects u t sh (u.best sh) .partition ∨ u.eligible sh b = true ∧ Granted u t sh b (some cause) := by
  obtain ⟨v, K, hv, he, hm⟩ := h.keeps hd
  have hlook := hv.ground.looks
  have hauto : v.unsteeredHere sh := .inl (hv.fields.1.trans ha)
  rcases hv.pending hs with e | ⟨⟨left, e⟩, hgranted⟩
  · rw [← hlook.best]
    exact .inl (hv.reselects he hm (keepShelf_reselects s hauto ((hlook.sameDomain sh q).trans hq) (.inr (by rw [e, hs]; rfl))))
  · rcases hb with hb | hb
    · rw [keepShelf_acquires_auto s (hv.fields.1.trans ha) e ((hlook.eligible sh b).trans hb)] at he
      exact .inr ⟨hb, he.granted hgranted⟩
    · rw [← hlook.best]
      exact .inl (hv.reselects he hm (keepShelf_reselects s hauto ((hlook.sameDomain sh b).trans hb) (.inl (by rw [e]; rfl))))

theorem TakesTurn.pending_left {b : PortId} {cause : Cause} (h : TakesTurn s u t sh) (hd : s.shelfDomain sh = u.shelfDomain sh)
    (hp : u.shelves[sh].steering.port? = some b) (hb : u.sameDomain sh b = false) (hq : u.sameDomain sh q = false)
    (hs : u.shelves[sh].state = .locked q (some (b, cause))) : Reselects u t sh (u.best sh) .partition := by
  obtain ⟨v, K, hv, he, hm⟩ := h.keeps hd
  have hlook := hv.ground.looks
  have hb' := (hlook.sameDomain sh b).trans hb
  have hst : v.unsteeredHere sh := .inr ⟨b, by rwa [hv.fields.1], hb'⟩
  rw [← hlook.best]
  refine hv.reselects he hm ?_
  rcases hv.pending hs with e | ⟨⟨left, e⟩, -⟩
  · exact keepShelf_reselects s hst ((hlook.sameDomain sh q).trans hq) (.inr (by rw [e, hs]; rfl))
  · exact keepShelf_reselects s hst hb' (.inl (by rw [e]; rfl))

theorem TakesTurn.pending_steered {b : PortId} {cause : Cause} (h : TakesTurn s u t sh)
    (hd : s.shelfDomain sh = u.shelfDomain sh) (hst : u.steersTo sh b) (ho : s.sameDomain sh q = true)
    (hq : u.sameDomain sh q = false) (hs : u.shelves[sh].state = .locked q (some (b, cause))) :
    t.shelves[sh].steering = u.shelves[sh].steering ∧ (GoesToward u t sh b .partition ∨ Granted u t sh b (some cause)) := by
  obtain ⟨v, K, hv, he, hm⟩ := h.keeps hd
  rcases hv.pending hs with e | ⟨⟨left, e⟩, hgranted⟩
  · obtain ⟨hgoes, hsteer⟩ := keepShelf_goesToward s (hv.steersTo hst) ho ((hv.ground.looks.sameDomain sh q).trans hq)
      (by rw [e]; exact hs)
    exact ⟨(he.fields.1.trans hsteer).trans hv.fields.1, .inl (hv.goesToward he hm hgoes)⟩
  · rw [keepShelf_acquires_steered s (hv.steersTo hst) e] at he
    exact ⟨he.fields.1.trans hv.fields.1, .inr (he.granted hgranted)⟩

/-! ## Shelves an apply does not reach -/

/-- A shelf that has no turn keeps its steering and learned time, and its record but for a grant and the judgement (R68). -/
theorem Ends.spared (h : Ends u t sh) (hh : u.shelves[sh].state.isHeld = false) : Spared u t sh := by
  obtain ⟨hst, hl, -⟩ := h.fields
  have hactive : u.shelves[sh].state.active = true → Undisturbed u t sh := fun ha => by
    rcases h.active ha with e | e
    · refine .inl ⟨?_, .inl (by rw [e])⟩
      rw [e]
    · exact .inr e
  have hjudged : u.shelves[sh].state.isHoldover = true ∨ u.shelves[sh].state.isFreerun = true → Judged u t sh :=
    fun hr => h.judged (.refl u) hr rfl rfl rfl rfl
  refine ⟨hst, hl, ?_⟩
  cases hs : u.shelves[sh].state with
  | holdover left => exact hjudged (.inl (by rw [hs]; rfl))
  | freerun => exact hjudged (.inr (by rw [hs]; rfl))
  | held n =>
    rw [hs] at hh
    cases hh
  | _ => exact hactive (by rw [hs]; rfl)

end

end Sys2Proof.Machine
end

section
/-!
PROOFS. The turn of a shelf in an apply raises exactly the events of its moves (R78) and follows the pool rules (R80 to R83).
-/

namespace Sys2Proof.Machine

section
variable {s u v w b : State} {sh : ShelfId}

/-! ## Events -/

/-- Writing the record of the shelf that moves after its move adds no event, where what it raises is what its states show. -/
theorem Moved.eventsOfMoves_after {K : List DomainEvent} (h : Moved v b sh K) (hs : ∀ x : ShelfId, x ≠ sh → w.shelves[x] = b.shelves[x])
    (he : w.domainEvents = b.domainEvents)
    (hK : ∀ k, k ∈ K ↔ shelfRaises v.shelves[sh].state w.shelves[sh].state (steeringLost v w sh) k = true) :
    EventsOfMoves v w := (h.events.trans (raises_none he)).congr fun d k => by
  rw [or_false]
  have hother : ∀ x : ShelfId, x ≠ sh →
      (v.shelves[x].steering != .auto && w.shelves[x].steering == .auto) = false := fun x hx =>
    steeringLost_same (s := v) (t := w) (by rw [hs x hx]; exact h.others_steering hx)
  constructor
  · rintro (⟨hd, hk⟩ | ⟨x, hx, hd, hr⟩)
    · exact ⟨sh, hd, (hK k).mp hk⟩
    · exact ⟨x, hd, by rw [hother x hx, hs x hx]; exact hr⟩
  · rintro ⟨x, hd, hr⟩
    by_cases hx : x = sh
    · subst hx
      exact .inl ⟨hd, (hK k).mpr hr⟩
    · rw [hother x hx, hs x hx] at hr
      exact .inr ⟨x, hx, hd, hr⟩

/-- Dropping the steering of a shelf that changes its domain raises STEER_LOST, where it had one, and nothing else (R47). -/
theorem movedOut_kinds (v : State) (sh : ShelfId) :
    ∃ L, Moved v (v.movedOut sh) sh L ∧ ∀ k, k ∈ L ↔ k = .steerLost ∧ v.shelves[sh].steering ≠ .auto := by
  by_cases h : v.shelves[sh].steering = .auto
  · have heq : v.movedOut sh = v := if_pos h
    rw [heq]
    exact ⟨[], .refl v sh, fun k => iff_of_false List.not_mem_nil fun e => e.2 h⟩
  · have heq : v.movedOut sh = v.loseSteering sh := if_neg h
    rw [heq]
    exact ⟨[.steerLost], moved_loseSteering v sh, fun k => by rw [List.mem_singleton]; exact (and_iff_left h).symm⟩

theorem steeringLost_auto (h : w.shelves[sh].steering = .auto) :
    steeringLost v w sh = true ↔ v.shelves[sh].steering ≠ .auto := by
  rw [steeringLost, h, Bool.and_eq_true, bne_iff_ne]
  exact and_iff_left rfl

theorem Acts.eventsOfMoves_movedOut (h : Acts (v.movedOut sh) w sh) : EventsOfMoves v w := by
  obtain ⟨K, hm, hst, hK⟩ := h
  obtain ⟨L, hout, hL⟩ := movedOut_kinds v sh
  refine (hout.trans hm).eventsOfMoves fun k => ?_
  rw [List.mem_append, hL, hK, movedOut_shelf, shelfRaises_lost _ _ (steeringLost v w sh),
    steeringLost_auto (hst.trans (movedOut_auto v sh))]

theorem shelfRaises_parked (a : ShelfState) (k : DomainEvent) : shelfRaises a .parked false k = false := by
  cases k <;> simp [shelfRaises, ShelfState.isQueued, ShelfState.isAcquire, ShelfState.isLocked, ShelfState.isBridge,
    ShelfState.isHoldover, ShelfState.isFreerun]

theorem eventsOfMoves_park (v : State) (sh : ShelfId) (cause : Cause) : EventsOfMoves v ((v.movedOut sh).park sh cause) := by
  obtain ⟨L, hout, hL⟩ := movedOut_kinds v sh
  obtain ⟨hsame, hevents⟩ := park_after_pool (v.movedOut sh) sh cause
  have hself := park_shelf (v.movedOut sh) sh cause
  refine (hout.quiet (moved_leavePool _ sh)).eventsOfMoves_after hsame.others hevents fun k => ?_
  rw [hL, shelfRaises_lost, steeringLost_auto (by rw [hself]; exact movedOut_auto v sh), hself, shelfRaises_parked]
  simp

/-- A shelf that comes from domain none was PARKED (R101). -/
theorem acts_reselect_parked (h : b.shelves[sh].state = .parked) (cause : Cause) : Acts b (b.reselect sh cause) sh := by
  unfold State.reselect
  split
  · exact acts_toward (by rw [h]; rfl) cause fun q left e => by rw [h] at e; cases e
  · exact acts_rest (by rw [h]; rfl) (by rw [h]; rfl) (by rw [h]; rfl) cause

/-! ## A settled part -/

/-- What a settled part before an apply says of a shelf that has its turn: where it came from domain none it is PARKED or HELD,
and what it acquires is of its domain before. -/
theorem settled_turn (hset : s.shelvesSettled) (hg : GrantedAtMost s v sh) :
    (s.shelfDomain sh = none → v.shelves[sh].state = .parked ∨ v.shelves[sh].state.isHeld = true) ∧
      (∀ q left, v.shelves[sh].state = .acquire q left → s.sameDomain sh q = true) := by
  refine ⟨fun hd => ?_, fun q left hq => hg.target (targetsOwn_of_settled hset) hq⟩
  have hst := (stands_nowhere (shelfSettled_iff.mp (hset sh)).1 hd).2
  rcases hg.2 with e | ⟨p, left, -, hp⟩
  · rwa [e]
  · rcases hst with e | e
    · rw [e] at hp
      cases hp
    · rw [held_nominee e] at hp
      cases hp

theorem eventsOfMoves_moveShelf (hset : s.shelvesSettled) (hs : s.listsSound) (hl : v.lists = s.repartition.lists)
    (hd : s.shelfDomain sh ≠ v.shelfDomain sh) (hg : GrantedAtMost s v sh) : EventsOfMoves v (State.moveShelf s v sh) := by
  obtain ⟨hnowhere, hown⟩ := settled_turn hset hg
  have hstate : (v.movedOut sh).shelves[sh].state = v.shelves[sh].state := by rw [movedOut_shelf]
  have hreselect : v.shelves[sh].state.names = true → ∀ cause, EventsOfMoves v ((v.movedOut sh).reselect sh cause) :=
    fun hn cause => Acts.eventsOfMoves_movedOut (acts_reselect (by rwa [hstate]) cause fun q left e =>
      movedOut_choice_ne hs hl hd (hown q left (hstate ▸ e)))
  rw [moveShelf_eq]
  split
  · exact Acts.eventsOfMoves_movedOut (.refl _ sh)
  next hheld =>
  split
  · exact eventsOfMoves_park v sh _
  split
  · next hnone =>
    have hparked := (hnowhere (Option.isNone_iff_eq_none.mp hnone)).resolve_right hheld
    exact Acts.eventsOfMoves_movedOut (acts_reselect_parked (hstate.trans hparked) _)
  · cases hv : v.shelves[sh].state with
    | queued _ => exact hreselect (by rw [hv]; rfl) _
    | acquire _ _ => exact hreselect (by rw [hv]; rfl) _
    | locked _ _ => exact hreselect (by rw [hv]; rfl) _
    | bridge _ _ => exact hreselect (by rw [hv]; rfl) _
    | _ => exact Acts.eventsOfMoves_movedOut (acts_actAuto (movedOut_auto v sh) _)

theorem port_ne_auto {st : Steering} {p : PortId} (h : st.port? = some p) : st ≠ .auto := by
  rintro rfl
  cases h

theorem eventsOfMoves_keepShelf (old v : State) (sh : ShelfId) : EventsOfMoves v (State.keepShelf old v sh) := by
  unfold State.keepShelf
  split
  · next p hp =>
    split
    · exact eventsOfMoves_act v sh _
    · exact eventsOfMoves_actUnsteered (port_ne_auto hp) _
  · exact eventsOfMoves_act v sh _

/-! ## The pool rules -/

theorem poolFollows_keepShelf (hv : v.poolSound) (old : State) (sh : ShelfId) :
    PoolFollows (v.unsteeredIfLost (State.keepShelf old v sh) sh) (State.keepShelf old v sh) sh := by
  unfold State.keepShelf
  split
  · next p hp =>
    split
    · exact (poolFits_act hv _).2
    · obtain ⟨K, -, -, hauto, -⟩ := moved_actUnsteered v sh Ctx.portLeft
      have hif : v.unsteeredIfLost (v.actUnsteered sh Ctx.portLeft) sh = v.unsteered sh := if_pos ⟨port_ne_auto hp, hauto⟩
      have hfollows := (poolFits_actUnsteered Ctx.portLeft (poolSound_unsteered (sh := sh) hv)).2
      rw [← hif] at hfollows
      exact hfollows
  · exact (poolFits_act hv _).2

/-- A shelf has its turn in an apply by the rules: in a part where pool, lists and shelves stood as in every run. -/
theorem applyToShelf_byRules (hset : s.shelvesSettled) (hs : s.listsSound) (hv : v.poolSound)
    (hl : v.lists = s.repartition.lists) (hg : GrantedAtMost s v sh) (hw : w = State.applyToShelf s v sh) :
    EventsOfMoves v w ∧ PoolFollows (if s.shelfDomain sh = v.shelfDomain sh ∧ v.shelves[sh].steering ≠ .auto ∧
      w.shelves[sh].steering = .auto then v.unsteered sh else v) w sh := by
  subst hw
  by_cases hd : s.shelfDomain sh = v.shelfDomain sh
  · have hif : (if s.shelfDomain sh = v.shelfDomain sh ∧ v.shelves[sh].steering ≠ .auto ∧
        (State.applyToShelf s v sh).shelves[sh].steering = .auto then v.unsteered sh else v) =
        v.unsteeredIfLost (State.applyToShelf s v sh) sh := by
      simp only [hd, true_and, State.unsteeredIfLost]
    rw [hif, applyToShelf_keeps hd]
    exact ⟨eventsOfMoves_keepShelf s v sh, poolFollows_keepShelf hv s sh⟩
  · rw [if_neg fun h => hd h.1, applyToShelf_moves hd]
    exact ⟨eventsOfMoves_moveShelf hset hs hl hd hg, (turn_moveShelf hv hs hl hd (settled_turn hset hg).2).2⟩

end

end Sys2Proof.Machine
end

section
/-!
PROOFS. APPLY PARTITION (R45 to R48, R68).
-/

namespace Sys2Proof.Machine

/-- An apply from `s` leads from `u`, the part under the new partition, to `t`: each shelf it reaches has its turn, and any
other is left to the turns of others and the judgement. -/
structure Applied (s u t : State) : Prop where
  current : u.current = s.pendingPart
  shelves : u.shelves = s.shelves
  events : u.domainEvents = s.domainEvents
  reached : ∀ sh : ShelfId, s.shelfDomain sh ≠ u.shelfDomain sh ∨ s.handed sh ≠ u.handed sh → TakesTurn s u t sh
  spared : ∀ sh : ShelfId, s.shelfDomain sh = u.shelfDomain sh → s.handed sh = u.handed sh → Ends u t sh

section
variable {s t u v w : State} {sh : ShelfId} {q : PortId}

/-! ## The change -/

theorem appliedTo_congr (h : LooksAlike u v) (hs : v.shelves = u.shelves) : State.appliedTo s v = State.appliedTo s u := by
  unfold State.appliedTo
  refine List.filter_congr fun sh _ => ?_
  rw [h.shelfDomain, h.handed fun p => by rw [hs]]

/-- The change an apply makes, and the turns, the judgement and the refresh that follow it. -/
theorem applyPartition_changes {cp : ControlPort} (h : s.readyActive cp = true) (hne : s.pendingPart ≠ s.current) :
    ∃ (t u : State) (order : List ShelfId) (n : Nat), exec (.applyPartition cp) s = .next t ∧
      Answers s t cp .ok
        [byte ((List.finRange 24).filter fun p => s.pendingPart.ports[p] != s.current.ports[p]).length,
         byte ((List.finRange 48).filter fun sh => s.pendingPart.shelves[sh] != s.current.shelves[sh]).length] ∧
      u = { s with current := s.pendingPart, lists := t.lists, partEvents := s.partEvents.raise .applied, freeCount := n } ∧
      t.lists = s.repartition.lists ∧ RequestConsequences u t ∧ order.Perm (State.appliedTo s u) ∧
      ShelvesKept (order.foldl (State.applyToShelf s) u).judgeShelves t := by
  generalize hu : s.repartition.raisePart .applied = u
  obtain ⟨order, n, hperm, hturns⟩ := inTurn_order u (State.appliedTo s u) (State.applyToShelf s)
  generalize hw : order.foldl (State.applyToShelf s) { u with freeCount := n } = w at hturns
  have hcarry : s.carryOut cp .applyPartition = (State.refresh s w.judgeShelves, Reply.ok
      [byte (portsDiffering s.pendingPart s.current), byte (shelvesDiffering s.pendingPart s.current)]) := by
    show s.doApplyPartition = _
    unfold State.doApplyPartition
    rw [if_neg hne, hu]
    dsimp only
    rw [hturns]
  have hc : Consequences u (State.refresh s w.judgeShelves) := by
    rw [← hturns]
    exact ((moves_inTurn u _ _ fun t sh => moves_applyToShelf s t sh).trans (moves_judgeShelves _)).consequences.trans
      (refresh_consequences s _)
  obtain ⟨hexec, hans, hcons⟩ := exec_changed (i := .applyPartition cp) rfl h nofun hcarry hc
  have hkept := shelvesKept_answered (refresh_shelvesKept s w.judgeShelves) cp .ok
    [byte (portsDiffering s.pendingPart s.current), byte (shelvesDiffering s.pendingPart s.current)]
  have hanswered : ((State.refresh s w.judgeShelves).answered cp .ok
      [byte (portsDiffering s.pendingPart s.current), byte (shelvesDiffering s.pendingPart s.current)]).lists =
      s.repartition.lists := by
    rw [hcons, ← hu]
    rfl
  generalize (State.refresh s w.judgeShelves).answered cp .ok
    [byte (portsDiffering s.pendingPart s.current), byte (shelvesDiffering s.pendingPart s.current)] = t at hexec hans hcons hkept hanswered
  refine ⟨t, { u with freeCount := n }, order, n, hexec, hans, ?_, hanswered, ?_, ?_, ?_⟩
  · rw [hanswered, ← hu]
    rfl
  · unfold RequestConsequences at hcons ⊢
    exact hcons
  · have hsame : State.appliedTo s { u with freeCount := n } = State.appliedTo s u :=
      appliedTo_congr (SameInputs.looksAlike ⟨rfl, rfl, rfl, rfl, rfl, rfl⟩) rfl
    rw [hsame]
    exact hperm
  · rw [hw]
    exact hkept

theorem mem_appliedTo : sh ∈ State.appliedTo s u ↔ s.shelfDomain sh ≠ u.shelfDomain sh ∨ s.handed sh ≠ u.handed sh := by
  unfold State.appliedTo
  rw [List.mem_filter, Bool.or_eq_true, bne_iff_ne, bne_iff_ne]
  exact and_iff_right (List.mem_finRange sh)

/-- A part with the same ground, shelves, queue and events looks to a shelf as if nothing had passed. -/
theorem passes_same (hg : SameGround u v) (hs : v.shelves = u.shelves) (hq : v.queue = u.queue)
    (he : v.domainEvents = u.domainEvents) (sh : ShelfId) : Passes u v sh :=
  ⟨hg, fun d k hl => by rwa [State.latched, he], .inl (by rw [hs]), fun hm => by rwa [hq] at hm,
    fun hp => by unfold State.placed at hp ⊢; rwa [hs, hq], fun _ hne => absurd (by rw [hs]) hne⟩

/-- The turns of an apply, seen from a part that differs from where they start in nothing they look at. -/
theorem applied_of_turns {order : List ShelfId} (hpass : ∀ sh : ShelfId, Passes u v sh) (hshelves : v.shelves = u.shelves)
    (hperm : order.Perm (State.appliedTo s v)) (hkept : ShelvesKept (order.foldl (State.applyToShelf s) v).judgeShelves t)
    (hc : u.current = s.pendingPart) (hs : u.shelves = s.shelves) (he : u.domainEvents = s.domainEvents) : Applied s u t := by
  have hmem : ∀ sh : ShelfId, sh ∈ order ↔ s.shelfDomain sh ≠ u.shelfDomain sh ∨ s.handed sh ≠ u.handed sh := fun sh => by
    rw [hperm.mem_iff, appliedTo_congr (hpass sh).ground.looks hshelves, mem_appliedTo]
  have hnodup : order.Nodup := hperm.nodup_iff.mpr ((List.nodup_finRange 48).filter _)
  refine ⟨hc, hs, he, fun sh hsh => ?_, fun sh hd hh => ⟨_, (hpass sh).trans (passes_turns s ?_ v), hkept⟩⟩
  · obtain ⟨before, after, rfl⟩ := List.append_of_mem ((hmem sh).mpr hsh)
    obtain ⟨-, hafter, hdisjoint⟩ := List.nodup_append.mp hnodup
    rw [List.foldl_append, List.foldl_cons] at hkept
    exact ⟨_, (hpass sh).trans (passes_turns s (fun hm => hdisjoint sh hm sh List.mem_cons_self rfl) v), _,
      passes_turns s (List.nodup_cons.mp hafter).1 _, hkept⟩
  · rw [hmem, not_or, not_not, not_not]
    exact ⟨hd, hh⟩

/-! ## Every shelf -/

theorem Applied.shelfDomain (h : Applied s u t) (sh : ShelfId) : u.shelfDomain sh = s.pendingPart.shelves[sh] := by
  rw [State.shelfDomain, h.current]

theorem Applied.raised {k : DomainEvent} (h : Applied s u t) (hr : Raised u t sh k) : ∀ d, u.shelfDomain sh = some d →
    s.masked d k = false → t.latched d k = true := fun d hd hm => hr d hd (by rwa [State.masked, h.events])

theorem Applied.cases (h : Applied s u t) (sh : ShelfId) : TakesTurn s u t sh ∨ s.shelfDomain sh = u.shelfDomain sh ∧ Ends u t sh := by
  by_cases hd : s.shelfDomain sh = u.shelfDomain sh
  · by_cases hh : s.handed sh = u.handed sh
    · exact .inr ⟨hd, h.spared sh hd hh⟩
    · exact .inl (h.reached sh (.inr hh))
  · exact .inl (h.reached sh (.inl hd))

theorem Applied.held (h : Applied s u t) (hh : s.shelves[sh].state.isHeld = true) :
    t.shelves[sh].state.isHeld = true ∧ MarksKept s t sh := by
  have hsame : u.shelves[sh] = s.shelves[sh] := by rw [h.shelves]
  unfold MarksKept
  rw [← hsame] at hh ⊢
  rcases h.cases sh with k | ⟨-, k⟩
  · exact k.held hh
  · have hkept := k.held hh
    exact ⟨hkept.isHeld.trans hh, hkept.marksKept⟩

theorem Applied.learned (h : Applied s u t) (hh : s.shelves[sh].state.isHeld = true ∨ s.shelfDomain sh = none ∨
    s.pendingPart.shelves[sh] ≠ none) : t.shelves[sh].learned = s.shelves[sh].learned := by
  have hsame : u.shelves[sh] = s.shelves[sh] := by rw [h.shelves]
  rw [← hsame, ← h.shelfDomain sh] at hh
  rw [← hsame]
  rcases h.cases sh with k | ⟨-, k⟩
  · exact k.learned hh
  · exact k.fields.2.1

/-- A port that leaves the domain of a shelf changes what the shelf is handed (R70). -/
theorem Applied.turn_of_left (h : Applied s u t) (hs : s.sameDomain sh q = true) (hu : u.sameDomain sh q = false) :
    TakesTurn s u t sh := by
  refine h.reached sh (.inr fun e => ?_)
  have hverdicts : s.verdicts sh = u.verdicts sh := congrArg Handed.verdicts e
  rw [sameDomain_iff_verdict, hverdicts, ← sameDomain_iff_verdict, hu] at hs
  cases hs

theorem steering_port {st : Steering} (h : st = .steer q ∨ st = .pin q) : st.port? = some q := by
  rcases h with e | e <;> rw [e] <;> rfl

/-- In a part where pool, lists and shelves stand as in every run, each turn follows the rules, whichever came before. -/
theorem turn_byRules {before : List ShelfId} (hpool : s.poolSound) (hlists : s.listsSound) (hset : s.shelvesSettled)
    (hsh : sh ∉ before) (hl : u.lists = s.repartition.lists) (hs : u.shelves = s.shelves) (hu : u.units = s.units)
    (hq : u.queue = s.queue) (hv : v = before.foldl (State.applyToShelf s) u) (hw : w = State.applyToShelf s v sh) :
    EventsOfMoves v w ∧ PoolFollows (if s.shelfDomain sh = v.shelfDomain sh ∧ v.shelves[sh].steering ≠ .auto ∧
      w.shelves[sh].steering = .auto then v.unsteered sh else v) w sh := by
  have hpass : Passes u v sh := hv ▸ passes_turns s hsh u
  have hsound : v.poolSound := hv ▸ poolSound_foldl (fun v x hv => poolSound_applyToShelf hv s x) before
    ((poolStays_of_shelves hu hq hs).sound hpool)
  have hgranted := hpass.grantedAtMost
  unfold GrantedAtMost at hgranted
  rw [hs] at hgranted
  exact applyToShelf_byRules hset hlists hsound (hpass.ground.looks.lists.trans hl) hgranted hw

/-- What one turn does, in any part (R48, R82). -/
theorem turn_anywhere (hw : w = State.applyToShelf s v sh) :
    (∀ other : ShelfId, other ≠ sh → Undisturbed v w other) ∧ (v.poolSound → w.poolSound) ∧
      (s.shelfDomain sh = v.shelfDomain sh →
        (v.shelves[sh].steering = .auto → ActsUnderAuto v w sh true) ∧
        (∀ p, v.shelves[sh].steering = .steer p → v.sameDomain sh p = true → ActsUnderSteer v w sh p) ∧
        (∀ p, v.shelves[sh].steering = .pin p → v.sameDomain sh p = true →
          ActsUnderPin v w sh p (State.ceased s v sh))) := by
  subst hw
  refine ⟨fun x hx => (passes_applyToShelf s v hx).undisturbed, fun hv => poolSound_applyToShelf hv s sh, fun hd => ?_⟩
  obtain ⟨hauto, hsteer, hpin⟩ := act_bySteering (sh := sh) (s := v) (x := { Ctx.failing with ceased := State.ceased s v sh }) rfl
  rw [applyToShelf_keeps hd]
  refine ⟨fun ha => ?_, fun p hp hd => ?_, fun p hp hd => ?_⟩
  · have heq : State.keepShelf s v sh = v.act sh { Ctx.failing with ceased := State.ceased s v sh } := by
      rw [keepShelf_auto s ha, State.act, ha]
    rw [heq]
    exact hauto ha
  · rw [keepShelf_steered s (p := p) (by rw [hp]; rfl) hd]
    exact hsteer p hp
  · rw [keepShelf_steered s (p := p) (by rw [hp]; rfl) hd]
    exact hpin p hp

end

end Sys2Proof.Machine
end

section
/-!
PROOFS. APPLY PARTITION makes the pending partition current (R45 to R48, R68).
-/

namespace Sys2Proof.Machine

section
variable {s t u : State} {sh : ShelfId} {q : PortId}

theorem names_of_isSome {st : ShelfState} (h : st.target?.isSome = true ∨ st.reference?.isSome = true) : st.names = true := by
  cases st with
  | queued _ => rfl
  | acquire _ _ => rfl
  | locked _ _ => rfl
  | bridge _ _ => rfl
  | _ => rcases h with h | h <;> cases h

/-- A shelf that goes from one domain to another (R47). -/
theorem Applied.moves (h : Applied s u t) (hu : u.shelfDomain sh ≠ none) (hs : s.shelfDomain sh ≠ none)
    (hne : s.shelfDomain sh ≠ u.shelfDomain sh) :
    ((s.shelves[sh].state.target?.isSome = true ∨ s.shelves[sh].state.reference?.isSome = true) →
      Reselects u t sh (u.best sh) .partition) ∧
    (s.shelves[sh].state.isHoldover = true ∨ s.shelves[sh].state.isFreerun = true →
      (∀ b, u.best sh = some b → GoesToward u t sh b .better) ∧ (u.best sh = none → Judged u t sh)) := by
  have hturn := h.reached sh (.inl hne)
  rw [← h.shelves]
  exact ⟨fun hgoal => hturn.partition hs hu hne (names_of_isSome hgoal), fun hr => hturn.rest_of_moved hs hu hne hr⟩

/-- A shelf that stays in its domain while the port it is steered or pinned to leaves (R48). -/
theorem Applied.steering_leaves (h : Applied s u t) (hd : s.shelfDomain sh = u.shelfDomain sh) (ho : s.sameDomain sh q = true)
    (hq : u.sameDomain sh q = false) (hst : s.shelves[sh].steering = .steer q ∨ s.shelves[sh].steering = .pin q) :
    (s.shelves[sh].state.isHoldover = true ∨ s.shelves[sh].state.isFreerun = true →
      (∀ b, u.best sh = some b → GoesToward u t sh b .partition) ∧ (u.best sh = none → Judged u t sh)) ∧
    (∀ c cause, s.shelves[sh].state = .locked c (some (q, cause)) →
      Reselects u t sh (u.best sh) .partition ∨ (u.eligible sh c = true ∧ AppliesSwitchRule u t sh c) ∨
        (u.eligible sh c = false ∧ u.admissible sh c = true ∧ u.shelfHoldOff sh ≠ 0 ∧ Bridges u t sh c .partition)) := by
  have hturn := h.turn_of_left ho hq
  rw [← h.shelves] at hst ⊢
  exact ⟨hturn.rest_left hd (steering_port hst) hq, fun c cause hs => hturn.locked_left hd (steering_port hst) hq hs⟩

/-- A shelf that stays in its domain while its reference leaves, LOCKED with a pending target (R48, R85). -/
theorem Applied.reference_leaves (h : Applied s u t) (hd : s.shelfDomain sh = u.shelfDomain sh) (ho : s.sameDomain sh q = true)
    (hq : u.sameDomain sh q = false) {b : PortId} {cause : Cause} (hs : s.shelves[sh].state = .locked q (some (b, cause))) :
    (s.shelves[sh].steering = .auto → u.eligible sh b = true ∨ u.sameDomain sh b = false →
      Reselects u t sh (u.best sh) .partition ∨ u.eligible sh b = true ∧ Granted u t sh b (some cause)) ∧
    (s.shelves[sh].steering = .steer b ∨ s.shelves[sh].steering = .pin b → u.sameDomain sh b = false →
      Reselects u t sh (u.best sh) .partition) ∧
    (s.shelves[sh].steering = .steer b ∧ u.eligible sh b = true ∨
        s.shelves[sh].steering = .pin b ∧ u.sameDomain sh b = true ∧ u.ports[b].activity = true ∧ u.ports[b].state ≠ .off →
      t.shelves[sh].steering = s.shelves[sh].steering ∧ (GoesToward u t sh b .partition ∨ Granted u t sh b (some cause))) := by
  have hturn := h.turn_of_left ho hq
  rw [← h.shelves] at hs ⊢
  exact ⟨fun ha hb => hturn.pending_auto hd ha hq hs hb, fun hst hb => hturn.pending_left hd (steering_port hst) hb hq hs,
    fun hst => hturn.pending_steered hd hst ho hq hs⟩

/-- A shelf that stays in its domain while the port it settles on leaves (R48, R85). -/
theorem Applied.settled_leaves (h : Applied s u t) (hd : s.shelfDomain sh = u.shelfDomain sh) (ho : s.sameDomain sh q = true)
    (hq : u.sameDomain sh q = false)
    (hst : s.shelves[sh].steering = .auto ∨ s.shelves[sh].steering = .steer q ∨ s.shelves[sh].steering = .pin q)
    (hs : s.shelves[sh].state.settlesOn q) : Reselects u t sh (u.best sh) .partition := by
  have hturn := h.turn_of_left ho hq
  rw [← h.shelves] at hst hs
  exact hturn.reselects_left hd (hst.imp_right fun e => ⟨q, steering_port e, hq⟩) hq hs

theorem Applied.steering_lost (h : Applied s u t) (hd : s.shelfDomain sh = u.shelfDomain sh) (ho : s.sameDomain sh q = true)
    (hq : u.sameDomain sh q = false) (hst : s.shelves[sh].steering = .steer q ∨ s.shelves[sh].steering = .pin q) :
    t.shelves[sh].steering = .auto ∧
      ∀ d, u.shelfDomain sh = some d → s.masked d .steerLost = false → t.latched d .steerLost = true := by
  have hturn := h.turn_of_left ho hq
  rw [← h.shelves] at hst
  obtain ⟨hauto, hraised⟩ := hturn.steering_left hd (steering_port hst) hq
  exact ⟨hauto, h.raised hraised⟩

/-- A shelf that changes its domain loses its steering (R47). -/
theorem Applied.moved_auto (h : Applied s u t) (hne : s.shelfDomain sh ≠ s.pendingPart.shelves[sh]) :
    t.shelves[sh].steering = .auto ∧
      (s.shelves[sh].steering ≠ .auto → ∀ d, s.pendingPart.shelves[sh] = some d → s.masked d .steerLost = false →
        t.latched d .steerLost = true) := by
  rw [← h.shelfDomain] at hne ⊢
  obtain ⟨hauto, hraised⟩ := (h.reached sh (.inl hne)).auto_of_moved hne
  rw [h.shelves] at hraised
  exact ⟨hauto, fun hs => h.raised (hraised hs)⟩

theorem Applied.parks (h : Applied s u t) (hs : s.shelfDomain sh ≠ none) (hn : s.pendingPart.shelves[sh] = none)
    (hh : s.shelves[sh].state.isHeld = false) :
    t.shelves[sh].state = .parked ∧ t.shelves[sh].lastCause = some .partition ∧ t.shelves[sh].changed = true ∧
      t.shelves[sh].learned = 0 ∧ sh ∉ t.queue := by
  rw [← h.shelfDomain] at hn
  rw [← h.shelves] at hh
  exact (h.reached sh (.inl (by rwa [hn]))).parks hs hn hh

end

/-- Settles O31. -/
theorem applyPartitionMakesThePendingPartitionCurrent : Obligations.ApplyPartitionMakesThePendingPartitionCurrent := by
  intro cp s h
  refine ⟨fun he => ?_, fun hne => ?_, fun sh v w => turn_anywhere⟩
  · refine exec_active (reply := Reply.plain .noChange) rfl h nofun ?_
    show s.doApplyPartition = _
    unfold State.doApplyPartition
    rw [if_pos he]
  obtain ⟨t, v, order, n, hexec, hans, hv, hlists, hcons, hperm, hkept⟩ := applyPartition_changes h hne
  have happlied : ∀ u : State, u = { s with current := s.pendingPart, lists := t.lists } → Applied s u t := fun u hu => by
    have hground : SameGround u v := by
      rw [hu, hv]
      exact ⟨⟨fun _ => rfl, fun _ => rfl, rfl, rfl, rfl, rfl, rfl⟩, rfl, fun _ _ => rfl⟩
    have hshelves : v.shelves = u.shelves := by rw [hu, hv]
    exact applied_of_turns (passes_same hground hshelves (by rw [hu, hv]) (by rw [hu, hv])) hshelves hperm hkept
      (by rw [hu]) (by rw [hu]) (by rw [hu])
  have hstart := happlied _ rfl
  refine ⟨t, hexec, hans, ?_, fun d => ?_, fun sh => hstart.moved_auto, fun sh => hstart.parks, fun sh => hstart.held,
    fun sh => hstart.learned, fun u hu sh hheld hdom => ?_, ⟨order, v, _, hcons, ?_, ?_, ?_, ?_, ?_, rfl, (judged_queue hkept).1,
      (judged_queue hkept).2, eventsOfMoves_judged hkept, judgedAfterTurns hkept⟩,
    fun hpool hl hset sh before u v w hsh _ hul hus huu huq hv hw =>
      turn_byRules hpool hl hset hsh (hul.trans hlists) hus huu huq hv hw,
    fun u hu sh hd hh hheld => ?_⟩
  · unfold RequestConsequences at hcons ⊢
    rw [hcons, hv]
  · rw [hlists]
    exact repartition_lists_get s d
  · have ha := happlied u hu
    refine ⟨fun hs => ?_, fun hs hmoved => ha.moves hdom hs hmoved, fun q hd ho hq =>
      ⟨ha.steering_lost hd ho hq, fun hst hp hgoal => ha.settled_leaves hd ho hq hst ⟨hp, hgoal⟩, ha.steering_leaves hd ho hq,
        fun b cause hs => ha.reference_leaves hd ho hq hs⟩⟩
    exact (ha.reached sh (.inl (by rw [hs]; exact hdom.symm))).assigned hs hdom (by rwa [ha.shelves])
  · rw [hv]
  · rw [hv]
  · rw [hv]
  · rw [hv]
  · exact hperm
  · have ha := happlied u hu
    exact (ha.spared sh hd.symm hh.symm).spared (by rwa [ha.shelves])

end Sys2Proof.Machine
end
